-- ==== Sys2Proof/Word.lean ====
section
/-! DEFINITION. The words the PS-412 is described with: a byte of a link, a converter code, the 16-bit and 32-bit numbers
of records and counters (00_scope.md, Table 0-4). -/

namespace Sys2Proof

/-- One byte on a link (chapter 10, Table 10-1). -/
abbrev Byte := BitVec 8

/-- A raw code of the 10-bit converter, 0 to 1023 (R1). -/
abbrev Code := BitVec 10

/-- A 16-bit number: a factory word, a key sequence number, a log detail, a cause set, a check value. -/
abbrev Half := BitVec 16

/-- A 32-bit number: the time base (R152), a log sequence number (R157). -/
abbrev Full := BitVec 32

/-- The six sampled columns of one row dwell: bit c is set when COLc was found at the active level (R121). -/
abbrev Columns := BitVec 6

/-- One of the four heater zones HZ0 to HZ3 (R19). -/
abbrev Zone := Fin 4

/-- One of the eight external channels AIN0 to AIN7 (Table 1-1). -/
abbrev Channel := Fin 8

/-- One of the 48 key positions, row × 6 + column (chapter 7.1). -/
abbrev Position := Fin 48

/-- One of the four chord entries (chapter 8.2). -/
abbrev ChordIndex := Fin 4

end Sys2Proof
end

