-- ==== Sys2Proof/Config.lean ====
section
/-! DEFINITION. What an implementation fixes: the constants the manual gives the part, and the free values the manual
leaves open. -/

namespace Sys2Proof

/-- The part code reported by Identify (R169). -/
abbrev Config.partCode : Nat := 0x0412

/-- The design revision, reported by Identify and checked in the settings image (R169, R181). -/
abbrev Config.designRevision : Byte := 1

/-- FREE VALUE (DESIGN CHOICE, log entry 15). What a power-on reset leaves in the factory word whose programming it interrupts:
'A power-on reset that interrupts a write leaves the word blank, holding the value, or holding some other non-blank
value' (R183). It is applied to the model's own counter, so that each such reset has a value of its own. Safe: nothing
is assumed about it. -/
opaque Config.interruptedWord : Nat → Half

/-- The length of an allocation period, ms (R22). -/
abbrev Config.allocationPeriod : Nat := 250

/-- The length of a fan period, ms (R48). -/
abbrev Config.fanPeriod : Nat := 1000

/-- The length of a minute of the filter watch, ms (R53). -/
abbrev Config.minute : Nat := 60000

/-- The length of the overheat check period, ms (R56). -/
abbrev Config.checkPeriod : Nat := 100

/-- Frames an output queue can hold (R168). -/
abbrev Config.outputFrames : Nat := 4

/-- Entries the Key Queue can hold (R142). -/
abbrev Config.queueEntries : Nat := 64

/-- Records the log ring can hold (R157). -/
abbrev Config.logRecords : Nat := 32

/-- The value at which every 16-bit count of the manual is held (R87, R128, R143, R144, R157, R164, R168). -/
abbrev Config.countLimit : Nat := 65535

/-- The off interval of a COLD_RESTART chord, in seconds (R83, R138). -/
abbrev Config.chordOffInterval : Nat := 10

end Sys2Proof
end

