-- ==== Sys2Proof/Syntax.lean ====
section
/-! DEFINITION. The commands of the block: one constructor per row of spec/opcode_table.json, with what the outside
supplies as operands. A request carries the link, the tag and the payload bytes of its frame (Table 10-1); an event
carries what the outside decides (a raw code, the sampled columns, a readback). Log entries 6, 7 and 8 say how the rows
are read. -/

namespace Sys2Proof

/-- The two serial links: to the panel computer, and to the service connector (00_scope.md). -/
inductive Link where
  | host
  | service
  deriving DecidableEq, Repr

/-- The commands. -/
inductive Instr where
  /-- POWER_ON_RESET (R84): the standby supply rises. -/
  | powerOnReset
  /-- PIN_RESET (R84): SUPRST_N is driven low. -/
  | pinReset
  /-- LINK_RESET (R172): the Reset Supervisor reply has left its link. -/
  | linkReset
  /-- RESET_END (R161): the reset in progress ends. -/
  | resetEnd
  /-- SCAN_CONVERSION_COMPLETE (R10), with the raw code of the conversion. -/
  | scanConversionComplete (code : Code)
  /-- REFERENCE_CONVERSION_COMPLETE (R7), with the raw code of the conversion. -/
  | referenceConversionComplete (code : Code)
  /-- CONVERTER_FAULT (R8): the reference completion whose failed check brings the failure count to 2. -/
  | converterFault (code : Code)
  /-- CONVERTER_OK (R9): the reference completion whose passed check brings the pass count to 3 in FAULT. -/
  | converterOk (code : Code)
  /-- ONE_SHOT_COMPLETE (R5), with the raw code of the conversion. -/
  | oneShotComplete (code : Code)
  /-- ALLOCATION_PERIOD_EXPIRY (R22). -/
  | allocationPeriodExpiry
  /-- GATE_RELEASE (R43): the gate evaluation at which the zone becomes RELEASED. -/
  | gateRelease (zone : Zone)
  /-- WARM_TIMEOUT (R47): the warm timer expires. -/
  | warmTimeout
  /-- FAN_PERIOD_EXPIRY (R48). -/
  | fanPeriodExpiry
  /-- TACH_PULSE (R48): a rising edge on FAN_TACH. -/
  | tachPulse
  /-- FAN_FAULT (R51): the fan period expiry at which the stall count reaches 3. -/
  | fanFault
  /-- FAN_OK (R52): the fan period expiry at which the recovery count reaches 3. -/
  | fanOk
  /-- MINUTE_EXPIRY (R53). -/
  | minuteExpiry
  /-- FILTER_SERVICE (R54): the minute expiry at which the watch count reaches the service count. -/
  | filterService
  /-- OVERHEAT_CHECK (R56). -/
  | overheatCheck
  /-- THERMAL_TRIP (R57): the overheat check at which the trip timer reaches its length. -/
  | thermalTrip
  /-- THERMAL_RESUME (R58): the overheat check at which the resume timer reaches its length. -/
  | thermalResume
  /-- HPG_RISE (R65, R71): HPG has held high for 1 ms. -/
  | hpgRise
  /-- HPG_FALL (R65, R73): HPG has held low for 1 ms. -/
  | hpgFall
  /-- HPG_TIMEOUT (R71): the HPG timer expires. -/
  | hpgTimeout
  /-- RESET_HOLD_EXPIRY (R72). -/
  | resetHoldExpiry
  /-- BOOT_WINDOW_EXPIRY (R89). -/
  | bootWindowExpiry
  /-- RUN_TIMEOUT_EXPIRY (R91). -/
  | runTimeoutExpiry
  /-- STABILITY_EXPIRY (R94). -/
  | stabilityExpiry
  /-- GRACE_EXPIRY (R110). -/
  | graceExpiry
  /-- PULSE_TIMER_EXPIRY (R76). -/
  | pulseTimerExpiry
  /-- OFF_INTERVAL_EXPIRY (R77). -/
  | offIntervalExpiry
  /-- POWER_OFF_TIMER_EXPIRY (R80). -/
  | powerOffTimerExpiry
  /-- SCAN_COMPLETION (R127): the ROW7 dwell ends with these columns sampled. -/
  | scanCompletion (columns : Columns)
  /-- PRESS_ACCEPTED (R128): the scan completion at which the press of the position is accepted. -/
  | pressAccepted (position : Position) (columns : Columns)
  /-- RELEASE_ACCEPTED (R128): the scan completion at which the release of the position is accepted. -/
  | releaseAccepted (position : Position) (columns : Columns)
  /-- KEY_REPEAT (R129): the repeat timer runs out, and the scan completion that follows produces a REPEAT. -/
  | keyRepeat (columns : Columns)
  /-- KEY_STUCK (R130): the hold timer of the position runs out, and the scan completion that follows makes it stuck. -/
  | keyStuck (position : Position) (columns : Columns)
  /-- CHORD_FIRE (R141): the entry's hold timer runs out, and at the scan completion that follows it still matches. -/
  | chordFire (chord : ChordIndex) (columns : Columns)
  /-- CELL_WRITE_COMPLETE (R182). -/
  | cellWriteComplete
  /-- SAVE_COMPLETE (R179): the readback agrees with the snapshot, or does not. -/
  | saveComplete (agrees : Bool)
  /-- FACTORY_WRITE_COMPLETE (R183), with what the readback of the word finds. -/
  | factoryWriteComplete (readback : Half)
  /-- INTER_BYTE_TIMEOUT (R165): these bytes arrive on the link, and then none for more than 20 ms. -/
  | interByteTimeout (link : Link) (bytes : List Byte)
  /-- LENGTH_ERROR (R164): a sync byte and then this length byte arrive on the link. -/
  | lengthError (link : Link) (length : Byte)
  /-- CRC_ERROR (R164): a sync byte, these bytes from the length to the payload, and this check value arrive. -/
  | crcError (link : Link) (body : List Byte) (check : Half)
  /-- NON_REQUEST_FRAME (R166): a taken frame of kind 0x00 or 0x40 to 0xFF. -/
  | nonRequestFrame (link : Link) (kind tag : Byte) (payload : List Byte)
  /-- UNKNOWN_REQUEST (R166): a taken frame of kind 0x23 to 0x3F. -/
  | unknownRequest (link : Link) (kind tag : Byte) (payload : List Byte)
  /-- FRAME_SENT (R168): the last byte of the oldest frame of the link's output queue has left. -/
  | frameSent (link : Link)
  /-- IDENTIFY (R169): a taken frame of kind 0x01. -/
  | identify (link : Link) (tag : Byte) (payload : List Byte)
  /-- GET_STATUS (R170): a taken frame of kind 0x02. -/
  | getStatus (link : Link) (tag : Byte) (payload : List Byte)
  /-- CHECK_IN (R87, R88): a taken frame of kind 0x03. -/
  | checkIn (link : Link) (tag : Byte) (payload : List Byte)
  /-- READ_KEYS (R146, R147): a taken frame of kind 0x04. -/
  | readKeys (link : Link) (tag : Byte) (payload : List Byte)
  /-- READ_LOG (R159, R160): a taken frame of kind 0x05. -/
  | readLog (link : Link) (tag : Byte) (payload : List Byte)
  /-- GET_ATTENTION (R175): a taken frame of kind 0x06. -/
  | getAttention (link : Link) (tag : Byte) (payload : List Byte)
  /-- CLEAR_ATTENTION (R175): a taken frame of kind 0x07. -/
  | clearAttention (link : Link) (tag : Byte) (payload : List Byte)
  /-- SET_ATTENTION_MASK (R175): a taken frame of kind 0x08. -/
  | setAttentionMask (link : Link) (tag : Byte) (payload : List Byte)
  /-- START_HOST (R68): a taken frame of kind 0x09. -/
  | startHost (link : Link) (tag : Byte) (payload : List Byte)
  /-- POWER_OFF (R79): a taken frame of kind 0x0A. -/
  | powerOff (link : Link) (tag : Byte) (payload : List Byte)
  /-- RESTART (R78): a taken frame of kind 0x0B. -/
  | restart (link : Link) (tag : Byte) (payload : List Byte)
  /-- READY (R111): a taken frame of kind 0x0C. -/
  | ready (link : Link) (tag : Byte) (payload : List Byte)
  /-- DEFER (R112): a taken frame of kind 0x0D. -/
  | defer (link : Link) (tag : Byte) (payload : List Byte)
  /-- RELEASE_LOCKOUT (R102): a taken frame of kind 0x0E. -/
  | releaseLockout (link : Link) (tag : Byte) (payload : List Byte)
  /-- SET_TIME (R153): a taken frame of kind 0x0F. -/
  | setTime (link : Link) (tag : Byte) (payload : List Byte)
  /-- READ_SENSORS (R16): a taken frame of kind 0x10. -/
  | readSensors (link : Link) (tag : Byte) (payload : List Byte)
  /-- SAMPLE_CHANNEL (R4): a taken frame of kind 0x11. -/
  | sampleChannel (link : Link) (tag : Byte) (payload : List Byte)
  /-- SET_ZONE (R34): a taken frame of kind 0x12. -/
  | setZone (link : Link) (tag : Byte) (payload : List Byte)
  /-- SET_HEATER_CURVE (R36): a taken frame of kind 0x13. -/
  | setHeaterCurve (link : Link) (tag : Byte) (payload : List Byte)
  /-- SET_BUDGET (R38): a taken frame of kind 0x14. -/
  | setBudget (link : Link) (tag : Byte) (payload : List Byte)
  /-- SET_FAN (R59): a taken frame of kind 0x15. -/
  | setFan (link : Link) (tag : Byte) (payload : List Byte)
  /-- SET_THERMAL_LIMITS (R60): a taken frame of kind 0x16. -/
  | setThermalLimits (link : Link) (tag : Byte) (payload : List Byte)
  /-- CLEAR_FILTER_SERVICE (R55): a taken frame of kind 0x17. -/
  | clearFilterService (link : Link) (tag : Byte) (payload : List Byte)
  /-- SET_KEYPAD (R132): a taken frame of kind 0x18. -/
  | setKeypad (link : Link) (tag : Byte) (payload : List Byte)
  /-- SET_KEY_ENTRIES (R134): a taken frame of kind 0x19. -/
  | setKeyEntries (link : Link) (tag : Byte) (payload : List Byte)
  /-- SET_CHORD (R148): a taken frame of kind 0x1A. -/
  | setChord (link : Link) (tag : Byte) (payload : List Byte)
  /-- SET_LADDER (R103): a taken frame of kind 0x1B. -/
  | setLadder (link : Link) (tag : Byte) (payload : List Byte)
  /-- SET_TIMING (R104): a taken frame of kind 0x1C. -/
  | setTiming (link : Link) (tag : Byte) (payload : List Byte)
  /-- READ_SETTINGS (R178): a taken frame of kind 0x1D. -/
  | readSettings (link : Link) (tag : Byte) (payload : List Byte)
  /-- SAVE_SETTINGS (R179): a taken frame of kind 0x1E. -/
  | saveSettings (link : Link) (tag : Byte) (payload : List Byte)
  /-- READ_FACTORY_WORD (R184): a taken frame of kind 0x1F. -/
  | readFactoryWord (link : Link) (tag : Byte) (payload : List Byte)
  /-- PROGRAM_FACTORY_WORD (R183): a taken frame of kind 0x20. -/
  | programFactoryWord (link : Link) (tag : Byte) (payload : List Byte)
  /-- GET_LINK_COUNTERS (R171): a taken frame of kind 0x21. -/
  | getLinkCounters (link : Link) (tag : Byte) (payload : List Byte)
  /-- RESET_SUPERVISOR (R172): a taken frame of kind 0x22. -/
  | resetSupervisor (link : Link) (tag : Byte) (payload : List Byte)
  /-- TIME_BASE_TICK (R152): one millisecond passes. -/
  | timeBaseTick
  /-- ROW_DWELL_END (R121): the dwell of a row other than ROW7 ends with these columns sampled. -/
  | rowDwellEnd (columns : Columns)
  /-- DRIVE_FRAME_START (R31): a new 100 ms drive frame of the zone's output begins. -/
  | driveFrameStart (zone : Zone)
  /-- DRIVE_ON_TIME_END (R31): the on-time of the zone's output within its current frame elapses. -/
  | driveOnTimeEnd (zone : Zone)
  deriving DecidableEq, Repr

end Sys2Proof
end

