-- ==== Sys2Proof/Decode.lean ====
section
/-! DEFINITION. From bits to commands. No row of spec/opcode_table.json gives bits, so decodeTableWord spells none. What
the manual does give bits for is the frame of a link (Tables 10-1 and 10-2): the check value, the frame's bytes, and the
command that a taken frame is. -/

namespace Sys2Proof

/-- The command that a word spells by the table's bits. No row of the table gives any, so there is none (98_reader.md:
85 rows unread, none with fields). -/
def decodeTableWord (_nbits _w : Nat) : Option Instr := none

/-- The sync byte of a frame (Table 10-1). -/
def syncByte : Byte := 0x5A

/-- One shift of the check value's register (R163). -/
def crcShift (r : Half) : Half :=
  if r.msb then (r <<< 1) ^^^ 0x1021 else r <<< 1

/-- One byte of the check value: combined into the high eight bits, then eight shifts (R163). -/
def crcByte (r : Half) (b : Byte) : Half :=
  crcShift (crcShift (crcShift (crcShift (crcShift (crcShift (crcShift (crcShift
    (r ^^^ (b.zeroExtend 16 <<< 8)))))))))

/-- The check value of the bytes of a frame from the length to the payload (R163). -/
def crc16 (bytes : List Byte) : Half :=
  bytes.foldl crcByte 0xFFFF

/-- The high and the low byte of a 16-bit number, in the order in which they are sent (00_scope.md, Multi-byte fields). -/
def halfBytes (h : Half) : List Byte :=
  [(h >>> 8).truncate 8, h.truncate 8]

/-- A frame's kind, tag and payload (Table 10-1). -/
structure Frame where
  kind : Byte
  tag : Byte
  payload : List Byte
  deriving DecidableEq, Repr

/-- The bytes that the check value covers: length, kind, tag and payload (R163). -/
def Frame.body (f : Frame) : List Byte :=
  BitVec.ofNat 8 (f.payload.length + 2) :: f.kind :: f.tag :: f.payload

/-- The frame as it stands on the wire (Table 10-1, R163). -/
def Frame.wire (f : Frame) : List Byte :=
  syncByte :: f.body ++ halfBytes (crc16 f.body)

/-- A length byte outside 2 to 202 (R164). -/
def lengthOutOfRange (length : Byte) : Bool :=
  decide (length.toNat < 2 ∨ 202 < length.toNat)

/-- The command that a taken frame is, by its kind (Table 10-2, tests 1 and 2 of R166). -/
def commandOfFrame (link : Link) (f : Frame) : Instr :=
  match f.kind.toNat with
  | 0x01 => .identify link f.tag f.payload
  | 0x02 => .getStatus link f.tag f.payload
  | 0x03 => .checkIn link f.tag f.payload
  | 0x04 => .readKeys link f.tag f.payload
  | 0x05 => .readLog link f.tag f.payload
  | 0x06 => .getAttention link f.tag f.payload
  | 0x07 => .clearAttention link f.tag f.payload
  | 0x08 => .setAttentionMask link f.tag f.payload
  | 0x09 => .startHost link f.tag f.payload
  | 0x0A => .powerOff link f.tag f.payload
  | 0x0B => .restart link f.tag f.payload
  | 0x0C => .ready link f.tag f.payload
  | 0x0D => .defer link f.tag f.payload
  | 0x0E => .releaseLockout link f.tag f.payload
  | 0x0F => .setTime link f.tag f.payload
  | 0x10 => .readSensors link f.tag f.payload
  | 0x11 => .sampleChannel link f.tag f.payload
  | 0x12 => .setZone link f.tag f.payload
  | 0x13 => .setHeaterCurve link f.tag f.payload
  | 0x14 => .setBudget link f.tag f.payload
  | 0x15 => .setFan link f.tag f.payload
  | 0x16 => .setThermalLimits link f.tag f.payload
  | 0x17 => .clearFilterService link f.tag f.payload
  | 0x18 => .setKeypad link f.tag f.payload
  | 0x19 => .setKeyEntries link f.tag f.payload
  | 0x1A => .setChord link f.tag f.payload
  | 0x1B => .setLadder link f.tag f.payload
  | 0x1C => .setTiming link f.tag f.payload
  | 0x1D => .readSettings link f.tag f.payload
  | 0x1E => .saveSettings link f.tag f.payload
  | 0x1F => .readFactoryWord link f.tag f.payload
  | 0x20 => .programFactoryWord link f.tag f.payload
  | 0x21 => .getLinkCounters link f.tag f.payload
  | 0x22 => .resetSupervisor link f.tag f.payload
  | k =>
    if 0x23 ≤ k ∧ k ≤ 0x3F then .unknownRequest link f.kind f.tag f.payload
    else .nonRequestFrame link f.kind f.tag f.payload

/-- The link and the frame that a command of the link protocol is the taking of (Table 10-2). -/
def frameOfCommand : Instr → Option (Link × Frame)
  | .identify l t p => some (l, ⟨0x01, t, p⟩)
  | .getStatus l t p => some (l, ⟨0x02, t, p⟩)
  | .checkIn l t p => some (l, ⟨0x03, t, p⟩)
  | .readKeys l t p => some (l, ⟨0x04, t, p⟩)
  | .readLog l t p => some (l, ⟨0x05, t, p⟩)
  | .getAttention l t p => some (l, ⟨0x06, t, p⟩)
  | .clearAttention l t p => some (l, ⟨0x07, t, p⟩)
  | .setAttentionMask l t p => some (l, ⟨0x08, t, p⟩)
  | .startHost l t p => some (l, ⟨0x09, t, p⟩)
  | .powerOff l t p => some (l, ⟨0x0A, t, p⟩)
  | .restart l t p => some (l, ⟨0x0B, t, p⟩)
  | .ready l t p => some (l, ⟨0x0C, t, p⟩)
  | .defer l t p => some (l, ⟨0x0D, t, p⟩)
  | .releaseLockout l t p => some (l, ⟨0x0E, t, p⟩)
  | .setTime l t p => some (l, ⟨0x0F, t, p⟩)
  | .readSensors l t p => some (l, ⟨0x10, t, p⟩)
  | .sampleChannel l t p => some (l, ⟨0x11, t, p⟩)
  | .setZone l t p => some (l, ⟨0x12, t, p⟩)
  | .setHeaterCurve l t p => some (l, ⟨0x13, t, p⟩)
  | .setBudget l t p => some (l, ⟨0x14, t, p⟩)
  | .setFan l t p => some (l, ⟨0x15, t, p⟩)
  | .setThermalLimits l t p => some (l, ⟨0x16, t, p⟩)
  | .clearFilterService l t p => some (l, ⟨0x17, t, p⟩)
  | .setKeypad l t p => some (l, ⟨0x18, t, p⟩)
  | .setKeyEntries l t p => some (l, ⟨0x19, t, p⟩)
  | .setChord l t p => some (l, ⟨0x1A, t, p⟩)
  | .setLadder l t p => some (l, ⟨0x1B, t, p⟩)
  | .setTiming l t p => some (l, ⟨0x1C, t, p⟩)
  | .readSettings l t p => some (l, ⟨0x1D, t, p⟩)
  | .saveSettings l t p => some (l, ⟨0x1E, t, p⟩)
  | .readFactoryWord l t p => some (l, ⟨0x1F, t, p⟩)
  | .programFactoryWord l t p => some (l, ⟨0x20, t, p⟩)
  | .getLinkCounters l t p => some (l, ⟨0x21, t, p⟩)
  | .resetSupervisor l t p => some (l, ⟨0x22, t, p⟩)
  | .unknownRequest l k t p => some (l, ⟨k, t, p⟩)
  | .nonRequestFrame l k t p => some (l, ⟨k, t, p⟩)
  | .powerOnReset => none
  | .pinReset => none
  | .linkReset => none
  | .resetEnd => none
  | .scanConversionComplete _ => none
  | .referenceConversionComplete _ => none
  | .converterFault _ => none
  | .converterOk _ => none
  | .oneShotComplete _ => none
  | .allocationPeriodExpiry => none
  | .gateRelease _ => none
  | .warmTimeout => none
  | .fanPeriodExpiry => none
  | .tachPulse => none
  | .fanFault => none
  | .fanOk => none
  | .minuteExpiry => none
  | .filterService => none
  | .overheatCheck => none
  | .thermalTrip => none
  | .thermalResume => none
  | .hpgRise => none
  | .hpgFall => none
  | .hpgTimeout => none
  | .resetHoldExpiry => none
  | .bootWindowExpiry => none
  | .runTimeoutExpiry => none
  | .stabilityExpiry => none
  | .graceExpiry => none
  | .pulseTimerExpiry => none
  | .offIntervalExpiry => none
  | .powerOffTimerExpiry => none
  | .scanCompletion _ => none
  | .pressAccepted _ _ => none
  | .releaseAccepted _ _ => none
  | .keyRepeat _ => none
  | .keyStuck _ _ => none
  | .chordFire _ _ => none
  | .cellWriteComplete => none
  | .saveComplete _ => none
  | .factoryWriteComplete _ => none
  | .interByteTimeout _ _ => none
  | .lengthError _ _ => none
  | .crcError _ _ _ => none
  | .frameSent _ => none
  | .timeBaseTick => none
  | .rowDwellEnd _ => none
  | .driveFrameStart _ => none
  | .driveOnTimeEnd _ => none

end Sys2Proof
end

