-- ==== Sys2Proof/Machine/State.lean ====
section
/-! DEFINITION. The state of the part as plain data, block by block (Table 0-1), the reasons a step can stop, and the
state right after the power-on reset of a new part (DESIGN CHOICE, log entry 1). -/

namespace Sys2Proof.Machine

/-! ### Resets and timers -/

/-- The three kinds of reset (00_scope.md, Reset kinds). -/
inductive ResetKind where
  | powerOn
  | pin
  | link
  deriving DecidableEq, Repr

/-- A running timer: the length it was started with and the time left, both in ms. A stopped timer is none (R66). -/
structure Timer where
  length : Nat
  left : Nat
  deriving DecidableEq, Repr

/-- A timer that is advanced by evaluations, not by elapsed time: the overheat monitor's trip and resume timers
(R56, R58). Both fields are in ms. -/
structure Counter where
  elapsed : Nat
  length : Nat
  deriving DecidableEq, Repr

/-! ### Measurement Unit (chapter 1) -/

/-- Validity reasons (Table 1-5). -/
inductive Validity where
  | valid
  | disabled
  | noData
  | openOrShort
  | converterFault
  deriving DecidableEq, Repr

/-- The internal reference channels (Table 1-1). -/
inductive Reference where
  | hi
  | mid
  | lo
  deriving DecidableEq, Repr

/-- A channel record (R10). Temperatures are in 0.1 °C. -/
structure ChannelRecord where
  raw : Option Nat
  accumulator : Option Nat
  filtered : Option Nat
  temperature : Option Int
  reason : Validity
  deriving DecidableEq, Repr

/-- A pending Sample Channel request (chapter 1.3). Channels 8, 9 and 10 are the references. -/
structure OneShot where
  link : Link
  tag : Byte
  channel : Fin 11
  deriving DecidableEq, Repr

/-- The conversion in progress (R1): of a channel of the scan round, of the round's reference, or of the oldest
request of the one-shot list. -/
inductive Conversion where
  | scan (channel : Channel)
  | reference
  | oneShot
  deriving DecidableEq, Repr

/-- The Measurement Unit (R1 to R18). -/
structure Measurement where
  /-- the converter status is FAULT (R7) -/
  fault : Bool
  failCount : Nat
  passCount : Nat
  /-- the reference pointer (R2) -/
  refPtr : Reference
  /-- the enabled channels held for the round (R2, R3), the bit of weight 2^c for channel c -/
  enabled : Byte
  /-- the conversion in progress, none through a reset (R17) -/
  current : Option Conversion
  /-- the channels of the round that are still to be converted after the one in progress (R2) -/
  todo : List Channel
  /-- the one-shot list, oldest first (R4) -/
  oneShots : List OneShot
  channels : Vector ChannelRecord 8
  deriving DecidableEq, Repr

/-! ### Settings (chapter 11) -/

/-- A key point of a curve (R21): a temperature in 0.1 °C and a value. -/
structure Point where
  temperature : Int
  value : Nat
  deriving DecidableEq, Repr

/-- The setting fields of a heater zone (Table 2-1). -/
structure ZoneSettings where
  sensor : Channel
  rated : Nat
  clamp : Nat
  initialPriority : Nat
  gateFlag : Bool
  release : Int
  curve : List Point
  deriving DecidableEq, Repr

/-- The FAN group (R59). -/
structure FanSettings where
  mask : Byte
  minimum : Nat
  stallSpeed : Nat
  curve : List Point
  deriving DecidableEq, Repr

/-- The THERMAL_LIMITS group (R60). Holds are in s, the warm timeout in minutes. -/
structure LimitSettings where
  overheatMask : Byte
  tripTemperature : Int
  tripHold : Nat
  resumeTemperature : Int
  resumeHold : Nat
  gateHold : Nat
  warmTimeout : Nat
  /-- the warm-timeout action is START, not HOLD (R47) -/
  warmStart : Bool
  highDuty : Nat
  rise : Nat
  serviceCount : Nat
  board : Channel
  inlet : Channel
  deriving DecidableEq, Repr

/-- The KEYPAD group (R132). The settle time is in µs, the stuck time in s, the others in ms. -/
structure KeypadSettings where
  settle : Nat
  repeatDelay : Nat
  repeatInterval : Nat
  stuckTime : Nat
  channel : Channel
  curve : List Point
  deriving DecidableEq, Repr

/-- An entry of the key table (chapter 7.7). -/
structure KeyEntry where
  code : Byte
  enabled : Bool
  repeats : Bool
  deriving DecidableEq, Repr

/-- What a chord does when it fires (Table 8-2). -/
inductive ChordAction where
  | event
  | start
  | warmRestart
  | coldRestart
  | release
  deriving DecidableEq, Repr

/-- The setting fields of a chord entry (Table 8-2): bit p of a set stands for position p, the hold is in ms. -/
structure ChordSettings where
  members : BitVec 48
  ignored : BitVec 48
  hold : Nat
  action : ChordAction
  deriving DecidableEq, Repr

/-- The kind of a restart (Table 5-2). -/
inductive RestartAction where
  | warm
  | cold
  deriving DecidableEq, Repr

/-- A rung of the rung table (Table 5-2). The off interval is in s. -/
structure Rung where
  action : RestartAction
  attempts : Nat
  offInterval : Nat
  warn : Bool
  flip : Bool
  deriving DecidableEq, Repr

/-- The TIMING group (Table 5-5). -/
structure TimingSettings where
  /-- s -/
  bootWindow : Nat
  /-- s -/
  runTimeout : Nat
  confirmStage : Nat
  /-- s -/
  stability : Nat
  /-- ms -/
  hpgTimeout : Nat
  /-- ms -/
  resetHold : Nat
  /-- ms -/
  warmPulse : Nat
  /-- s -/
  warningGrace : Nat
  /-- s -/
  deferStep : Nat
  deferLimit : Nat
  /-- s -/
  thermalGrace : Nat
  autostart : Bool
  deriving DecidableEq, Repr

/-- The eleven settings groups (Table 11-1). Budgets are in 0.1 W. -/
structure Settings where
  zones : Vector ZoneSettings 4
  offBudget : Nat
  onBudget : Nat
  fan : FanSettings
  limits : LimitSettings
  channelEnable : Byte
  keypad : KeypadSettings
  keys : Vector KeyEntry 48
  chords : Vector ChordSettings 4
  ladder : List Rung
  timing : TimingSettings
  mask : Half
  deriving DecidableEq, Repr

/-! ### Thermal Controller (chapters 2 and 3) -/

/-- Gate statuses (Table 3-1). -/
inductive GateStatus where
  | blocking
  | counting
  | released
  deriving DecidableEq, Repr

/-- The runtime fields of a heater zone record (Table 2-1) and its drive (R31). -/
structure ZoneState where
  priority : Nat
  demandDuty : Nat
  demandPower : Nat
  grantedPower : Nat
  grantedDuty : Nat
  gate : GateStatus
  /-- ms -/
  gateTimer : Nat
  /-- the length taken when the gate timer started, ms (R43) -/
  gateLength : Nat
  /-- the gate flag at the previous evaluation (R41) -/
  lastFlag : Bool
  /-- the time since the start of the current drive frame, in 0.1 ms; none before the first frame (R31) -/
  frame : Option Nat
  deriving DecidableEq, Repr

/-- The Thermal Controller outside the zone records (chapter 3, R22). -/
structure Thermal where
  allocationTimer : Option Timer
  fanTimer : Option Timer
  minuteTimer : Option Timer
  checkTimer : Option Timer
  startPermitted : Bool
  warmTimer : Option Timer
  /-- the present fan duty in ‰; FAN_PWM's on-fraction (R50) -/
  fanDuty : Nat
  /-- the measured speed in rpm (R48) -/
  speed : Nat
  /-- rising edges of FAN_TACH in the current fan period (R48) -/
  tach : Nat
  /-- the fan status is FAULT (R51) -/
  fanFault : Bool
  stall : Nat
  recovery : Nat
  /-- the watch count (R53) -/
  watch : Nat
  /-- the FILTER status is set (R54) -/
  filterSet : Bool
  /-- the overheat status is TRIPPED (R57) -/
  tripped : Bool
  tripTimer : Option Counter
  resumeTimer : Option Counter
  deriving DecidableEq, Repr

/-! ### Host Power Sequencer and Restart Ladder (chapters 4 to 6) -/

/-- The nine supervisor states, STARTING and RESTARTING by their sub-phases (Table 4-1). -/
inductive SupervisorState where
  | off
  | warming
  | powering
  | resetHold
  | booting
  | running
  | warned
  | resetPulse
  | powerDown
  | stopping
  | cooling
  | lockedOut
  deriving DecidableEq, Repr

/-- The sequencer's timers (Table 4-2). -/
structure SequencerTimers where
  hpg : Option Timer
  resetHold : Option Timer
  bootWindow : Option Timer
  run : Option Timer
  stability : Option Timer
  grace : Option Timer
  pulse : Option Timer
  offInterval : Option Timer
  powerOff : Option Timer
  deriving DecidableEq, Repr

/-- Why a warning was issued (Table 6-1). -/
inductive WarningCause where
  | checkinTimeout
  | powerFault
  | thermal
  deriving DecidableEq, Repr

/-- What is done at the end of a warning (Table 6-1); a COLD action carries its off interval in s. -/
inductive WarningAction where
  | warm
  | cold (offInterval : Nat)
  | off
  deriving DecidableEq, Repr

/-- The pending warning record (Table 6-1); its grace timer is the sequencer's. -/
structure Warning where
  cause : WarningCause
  action : WarningAction
  defersLeft : Nat
  deferPermitted : Bool
  deriving DecidableEq, Repr

/-- Where a restart came from (R67). -/
inductive RestartSource where
  | ladder
  | request
  | chord
  deriving DecidableEq, Repr

/-- The restart record (R67); the off interval is absent for WARM. -/
structure RestartRecord where
  action : RestartAction
  offInterval : Option Nat
  source : RestartSource
  offRequested : Bool
  deriving DecidableEq, Repr

/-- The Host Power Sequencer (R63 to R86, R107). -/
structure Sequencer where
  state : SupervisorState
  /-- HPWR_EN is on -/
  hpwrEn : Bool
  /-- HRST_N is asserted (driven low) -/
  hrst : Bool
  /-- HPG is present, as last taken (R65) -/
  hpg : Bool
  /-- the last reported boot stage (R67) -/
  stage : Nat
  timers : SequencerTimers
  warning : Option Warning
  restart : Option RestartRecord
  deriving DecidableEq, Repr

/-- The ladder position: the rung and the failures counted on it (R97). -/
structure LadderPosition where
  rung : Nat
  failures : Nat
  deriving DecidableEq, Repr

/-! ### Keypad Scanner and Key Queue (chapters 7 and 8) -/

/-- A key position record (Table 7-1); down is true. -/
structure KeyPosition where
  raw : Bool
  debounced : Bool
  count : Nat
  suppressed : Bool
  hold : Option Timer
  deriving DecidableEq, Repr

/-- The Keypad Scanner (R121 to R136). -/
structure Keypad where
  positions : Vector KeyPosition 48
  /-- ms (R123) -/
  debounceTime : Nat
  /-- the debounce count N (R124) -/
  debounceCount : Nat
  /-- the held list, oldest acceptance first (R127) -/
  held : List Position
  target : Option Position
  repeatTimer : Option Timer
  /-- the refused-keystroke count (R128) -/
  refused : Nat
  /-- the row that is driven, none through a reset (R121, R135) -/
  row : Option (Fin 8)
  /-- the settle time of the scan cycle in progress, µs (R122) -/
  settle : Nat
  deriving DecidableEq, Repr

/-- Chord states (Table 8-4). -/
inductive ChordPhase where
  | idle
  | holding
  | fired
  deriving DecidableEq, Repr

/-- The runtime fields of a chord entry (Table 8-2). -/
structure ChordState where
  phase : ChordPhase
  hold : Option Timer
  deriving DecidableEq, Repr

/-- A key event's kind and what it carries (Table 8-1). -/
inductive KeyKind where
  | press (position : Position) (code : Byte)
  | release (position : Position) (code : Byte)
  | repeated (position : Position) (code : Byte)
  | stuck (position : Position) (code : Byte)
  | unstuck (position : Position) (code : Byte)
  | chord (index : ChordIndex)
  deriving DecidableEq, Repr

/-- A Key Queue entry (Table 8-6). -/
structure QueueEntry where
  seq : Half
  time : Full
  kind : KeyKind
  gap : Option Nat
  deriving DecidableEq, Repr

/-- The Key Queue (R142), oldest entry first. -/
structure KeyQueue where
  entries : List QueueEntry
  nextSeq : Half
  lost : Nat
  flushed : Nat
  deriving DecidableEq, Repr

/-! ### Event Log (chapter 9) -/

/-- Record kinds (Table 9-2). -/
inductive RecordKind where
  | powerOn
  | supervisorReset
  | hostStart
  | bootConfirmed
  | stable
  | hostReboot
  | checkinTimeout
  | powerFault
  | warningIssued
  | warningDeferred
  | warningCancelled
  | restart
  | powerOff
  | slotFlip
  | lockout
  | lockoutReleased
  | warmTimeout
  | thermalTrip
  | thermalResume
  | fanFault
  | fanOk
  | filterService
  | converterFault
  | converterOk
  | chord
  | settingsDefaulted
  | timeSet
  deriving DecidableEq, Repr

/-- A log record (Table 9-1); slot is true for boot slot 1. -/
structure LogRecord where
  seq : Full
  time : Full
  kind : RecordKind
  state : SupervisorState
  rung : Nat
  failures : Nat
  slot : Bool
  temperature : Option Int
  detail : Half
  deriving DecidableEq, Repr

/-- The Event Log (R157), oldest record first. -/
structure EventLog where
  ring : List LogRecord
  nextSeq : Full
  /-- the numbering has passed from 4 294 967 295 to 1 since the last power-on reset (R160) -/
  wrapped : Bool
  overwrites : Nat
  deriving DecidableEq, Repr

/-! ### Link Interface (chapter 10) -/

/-- A receiver (R164): hunting for a sync byte, or assembling a frame, with the bytes received after its sync byte and
the time in ms since the last byte. -/
inductive Receiver where
  | hunting
  | assembling (bytes : List Byte) (age : Nat)
  deriving DecidableEq, Repr

/-- One link: receiver, output queue, waiting flag and the five counters of R171. -/
structure LinkState where
  receiver : Receiver
  output : List Frame
  waiting : Bool
  crcErrors : Nat
  lengthErrors : Nat
  timeouts : Nat
  strays : Nat
  discarded : Nat
  deriving DecidableEq, Repr

/-! ### Settings Store (chapter 11) -/

/-- The settings image (R179, R181): what it holds, the design revision it was written by, and whether its check value
agrees (DESIGN CHOICE, log entry 14). -/
structure Image where
  contents : Settings
  revision : Byte
  checks : Bool
  deriving DecidableEq, Repr

/-- An image write in progress (R179): the snapshot, and the link and tag its reply goes to (none after a reset). -/
structure ImageWrite where
  snapshot : Settings
  reply : Option (Link × Byte)
  deriving DecidableEq, Repr

/-- One stored copy of the boot-slot cell (R182). -/
structure CellCopy where
  slot : Bool
  flips : Nat
  writeNumber : Half
  valid : Bool
  deriving DecidableEq, Repr

/-- A cell write in progress (R182): to the first copy or to the second, and what it writes. -/
structure CellWrite where
  toFirst : Bool
  copy : CellCopy
  deriving DecidableEq, Repr

/-- A factory word write in progress (R183): the word, the value, and the tag its reply goes to (none after a reset). -/
structure WordWrite where
  index : Fin 32
  value : Half
  reply : Option Byte
  deriving DecidableEq, Repr

/-- The Settings Store's persistent stores and the writes in progress (R179, R182, R183). -/
structure Store where
  image : Image
  imageWrite : Option ImageWrite
  /-- the boot slot in the cell: true is slot 1; BOOTSEL drives it (R99) -/
  slot : Bool
  flips : Nat
  copyA : CellCopy
  copyB : CellCopy
  cellWrite : Option CellWrite
  cellQueued : Bool
  words : Vector Half 32
  wordWrite : Option WordWrite
  deriving DecidableEq, Repr

/-! ### The state -/

/-- The part, and the queue of commands that are waiting. -/
structure State where
  /-- the commands that are waiting, first in, first out (the model's own queue) -/
  pending : List Instr
  /-- the reset in progress (R84, R161) -/
  resetting : Option ResetKind
  /-- the link whose Reset Supervisor reply is still to leave; the receivers discard from then on (R172) -/
  resetReply : Option Link
  /-- the kind of the most recent reset (R169, Table 10-10) -/
  lastReset : ResetKind
  /-- the millisecond time base (R152) -/
  timeBase : Full
  /-- the Event Log (chapter 9) -/
  log : EventLog
  /-- the pending set of attention causes, by the weights of Table 10-6 (R173) -/
  causes : Half
  /-- the host link (chapter 10) -/
  host : LinkState
  /-- the service link (chapter 10) -/
  service : LinkState
  /-- the Measurement Unit (chapter 1) -/
  meas : Measurement
  /-- the runtime part of the four heater zone records (R19) -/
  zones : Vector ZoneState 4
  /-- gate report, warm timer, fan, filter watch and overheat monitor (chapter 3) -/
  thermal : Thermal
  /-- the Host Power Sequencer (chapters 4 to 6) -/
  seq : Sequencer
  /-- the ladder position (R97) -/
  ladder : LadderPosition
  /-- the Keypad Scanner (chapter 7) -/
  keypad : Keypad
  /-- the runtime part of the four chord entries (R138) -/
  chords : Vector ChordState 4
  /-- the Key Queue (chapter 8) -/
  queue : KeyQueue
  /-- the working copy of the settings (R177) -/
  settings : Settings
  /-- the persistent stores (chapter 11) -/
  store : Store
  /-- the model's own counter that a free value is applied to (DESIGN CHOICE, log entry 15) -/
  freeIndex : Nat
  deriving DecidableEq, Repr

/-- Why a step stops with a fault: it never does. The manual gives every event and every request an effect: a bad frame
is counted and dropped, a bad request is answered with a status code, a broken sensor, fan or supply is a state with a
record (R164, Table 10-3, R8, R51, R73). No constructor, hence nothing to raise; safe. -/
inductive Fault where
  deriving DecidableEq, Repr

/-- Why a step refuses a command. -/
inductive Refusal where
  /-- Raised by an arm of exec whose command has no meaning in the model yet; no arm does. Safe: the model stops. -/
  | notModelled (mnemonic : String)
  deriving DecidableEq, Repr

/-- The state with pending replaced. -/
def State.withPending (s : State) (x : List Instr) : State := { s with pending := x }
/-- The state with resetting replaced. -/
def State.withResetting (s : State) (x : Option ResetKind) : State := { s with resetting := x }
/-- The state with resetReply replaced. -/
def State.withResetReply (s : State) (x : Option Link) : State := { s with resetReply := x }
/-- The state with lastReset replaced. -/
def State.withLastReset (s : State) (x : ResetKind) : State := { s with lastReset := x }
/-- The state with timeBase replaced. -/
def State.withTimeBase (s : State) (x : Full) : State := { s with timeBase := x }
/-- The state with log replaced. -/
def State.withLog (s : State) (x : EventLog) : State := { s with log := x }
/-- The state with causes replaced. -/
def State.withCauses (s : State) (x : Half) : State := { s with causes := x }
/-- The state with host replaced. -/
def State.withHost (s : State) (x : LinkState) : State := { s with host := x }
/-- The state with service replaced. -/
def State.withService (s : State) (x : LinkState) : State := { s with service := x }
/-- The state with meas replaced. -/
def State.withMeas (s : State) (x : Measurement) : State := { s with meas := x }
/-- The state with zones replaced. -/
def State.withZones (s : State) (x : Vector ZoneState 4) : State := { s with zones := x }
/-- The state with thermal replaced. -/
def State.withThermal (s : State) (x : Thermal) : State := { s with thermal := x }
/-- The state with seq replaced. -/
def State.withSeq (s : State) (x : Sequencer) : State := { s with seq := x }
/-- The state with ladder replaced. -/
def State.withLadder (s : State) (x : LadderPosition) : State := { s with ladder := x }
/-- The state with keypad replaced. -/
def State.withKeypad (s : State) (x : Keypad) : State := { s with keypad := x }
/-- The state with chords replaced. -/
def State.withChords (s : State) (x : Vector ChordState 4) : State := { s with chords := x }
/-- The state with queue replaced. -/
def State.withQueue (s : State) (x : KeyQueue) : State := { s with queue := x }
/-- The state with settings replaced. -/
def State.withSettings (s : State) (x : Settings) : State := { s with settings := x }
/-- The state with store replaced. -/
def State.withStore (s : State) (x : Store) : State := { s with store := x }
/-- The state with freeIndex replaced. -/
def State.withFreeIndex (s : State) (x : Nat) : State := { s with freeIndex := x }

/-! ### Defaults (Table 11-2) and the state after reset -/

/-- The default zone settings and heater curves (Tables 2-2 and 2-4). -/
def Settings.defaultZones : Vector ZoneSettings 4 :=
  #v[⟨0, 400, 1000, 1, true, -200, [⟨-300, 1000⟩, ⟨-100, 600⟩, ⟨100, 0⟩]⟩,
     ⟨1, 600, 1000, 4, true, -100, [⟨-300, 1000⟩, ⟨0, 500⟩, ⟨200, 0⟩]⟩,
     ⟨2, 150, 1000, 0, true, 0, [⟨-200, 800⟩, ⟨0, 400⟩, ⟨150, 0⟩]⟩,
     ⟨3, 200, 1000, 6, false, -400, [⟨-300, 700⟩, ⟨-100, 300⟩, ⟨50, 0⟩]⟩]

/-- The default chord entries (Table 8-3). -/
def Settings.defaultChords : Vector ChordSettings 4 :=
  #v[⟨(1 <<< 42) ||| (1 <<< 47), 0, 3000, .start⟩,
     ⟨(1 <<< 42) ||| (1 <<< 43) ||| (1 <<< 47), 0, 5000, .warmRestart⟩,
     ⟨(1 <<< 42) ||| (1 <<< 44) ||| (1 <<< 47), 0, 8000, .coldRestart⟩,
     ⟨(1 <<< 42) ||| (1 <<< 45) ||| (1 <<< 47), 0, 5000, .release⟩]

/-- The defaults of every setting (Table 11-2). -/
def Settings.defaults : Settings where
  zones := Settings.defaultZones
  offBudget := 1200
  onBudget := 600
  fan := ⟨0b00100001, 300, 600, [⟨150, 0⟩, ⟨300, 400⟩, ⟨450, 1000⟩]⟩
  limits :=
    { overheatMask := 0b00000111, tripTemperature := 850, tripHold := 5, resumeTemperature := 700, resumeHold := 60,
      gateHold := 60, warmTimeout := 90, warmStart := false, highDuty := 800, rise := 150, serviceCount := 240,
      board := 0, inlet := 4 }
  channelEnable := 0xFF
  keypad := ⟨60, 500, 100, 60, 3, [⟨-300, 40⟩, ⟨0, 20⟩, ⟨200, 10⟩]⟩
  keys := Vector.ofFn fun p => ⟨BitVec.ofNat 8 p.val, true, true⟩
  chords := Settings.defaultChords
  ladder := [⟨.warm, 2, 10, true, false⟩, ⟨.cold, 2, 10, true, false⟩, ⟨.cold, 1, 300, false, true⟩,
    ⟨.cold, 2, 10, false, false⟩]
  timing :=
    { bootWindow := 240, runTimeout := 30, confirmStage := 4, stability := 600, hpgTimeout := 500, resetHold := 100,
      warmPulse := 200, warningGrace := 20, deferStep := 60, deferLimit := 2, thermalGrace := 15, autostart := true }
  mask := 767

/-- Every sequencer timer stopped (R66). -/
def SequencerTimers.stopped : SequencerTimers :=
  ⟨none, none, none, none, none, none, none, none, none⟩

/-- A channel record with nothing in it and a reason (Table 1-8). -/
def ChannelRecord.empty (reason : Validity) : ChannelRecord :=
  ⟨none, none, none, none, reason⟩

/-- A link right after a power-on reset (Table 10-10), with these frames in its output queue. -/
def LinkState.fresh (output : List Frame) : LinkState :=
  ⟨.hunting, output, false, 0, 0, 0, 0, 0⟩

/-- A position right after a reset (Table 7-6). -/
def KeyPosition.fresh : KeyPosition := ⟨false, false, 0, false, none⟩

/-- The state right after the power-on reset of a new part: the image was never written, no cell copy is valid, every
factory word is blank (DESIGN CHOICE, log entry 1), HPG is absent (DESIGN CHOICE, log entry 2).
Its two records and its notice are those of R161, R181 and R174, and autostart has led to WARMING (R86). -/
def State.reset : State where
  pending := []
  resetting := none
  resetReply := none
  lastReset := .powerOn
  timeBase := 0
  log :=
    { ring :=
        [⟨1, 0, .powerOn, .off, 0, 0, false, none, 0⟩, ⟨2, 0, .settingsDefaulted, .off, 0, 0, false, none, 0⟩]
      nextSeq := 3
      wrapped := false
      overwrites := 0 }
  causes := 0x0300
  host := LinkState.fresh [⟨0x40, 0, [9, 0x03, 0x00]⟩]
  service := LinkState.fresh []
  meas :=
    { fault := false
      failCount := 0
      passCount := 0
      refPtr := .hi
      enabled := 0xFF
      current := some (.scan 0)
      todo := [1, 2, 3, 4, 5, 6, 7]
      oneShots := []
      channels := Vector.replicate 8 (ChannelRecord.empty .noData) }
  zones :=
    #v[⟨1, 0, 0, 0, 0, .blocking, 0, 0, true, some 0⟩, ⟨4, 0, 0, 0, 0, .blocking, 0, 0, true, none⟩,
       ⟨0, 0, 0, 0, 0, .blocking, 0, 0, true, none⟩, ⟨6, 0, 0, 0, 0, .released, 0, 0, false, none⟩]
  thermal :=
    { allocationTimer := some ⟨250, 250⟩
      fanTimer := some ⟨1000, 1000⟩
      minuteTimer := some ⟨60000, 60000⟩
      checkTimer := some ⟨100, 100⟩
      startPermitted := false
      warmTimer := some ⟨5400000, 5400000⟩
      fanDuty := 1000
      speed := 0
      tach := 0
      fanFault := false
      stall := 0
      recovery := 0
      watch := 0
      filterSet := false
      tripped := false
      tripTimer := none
      resumeTimer := none }
  seq :=
    { state := .warming
      hpwrEn := false
      hrst := true
      hpg := false
      stage := 0
      timers := SequencerTimers.stopped
      warning := none
      restart := none }
  ladder := ⟨0, 0⟩
  keypad :=
    { positions := Vector.replicate 48 KeyPosition.fresh
      debounceTime := 40
      debounceCount := 63
      held := []
      target := none
      repeatTimer := none
      refused := 0
      row := some 0
      settle := 60 }
  chords := Vector.replicate 4 ⟨.idle, none⟩
  queue := ⟨[], 0, 0, 0⟩
  settings := Settings.defaults
  store :=
    { image := ⟨Settings.defaults, 0, false⟩
      imageWrite := none
      slot := false
      flips := 0
      copyA := ⟨false, 0, 0, false⟩
      copyB := ⟨false, 0, 0, false⟩
      cellWrite := none
      cellQueued := false
      words := Vector.replicate 32 0xFFFF
      wordWrite := none }
  freeIndex := 0

end Sys2Proof.Machine
end

