-- ==== Sys2Proof/Machine/Operands.lean ====
section
/-! DEFINITION. The fields of payloads and replies: reading them from bytes, writing them as bytes, bringing a scalar into
its range, and the curves (00_scope.md, Multi-byte fields; R21; R177; Table 10-3). -/

namespace Sys2Proof.Machine

/-! ### Status codes -/

/-- Status codes (Table 10-3). -/
inductive Status where
  | ok
  | clamped
  | busy
  | unknown
  | badLength
  | badValue
  | notNow
  | wrongLink
  | alreadySet
  | storeFault
  deriving DecidableEq, Repr

/-- The first byte of a reply's payload (Table 10-3). -/
def statusByte : Status → Byte
  | .ok => 0x00
  | .clamped => 0x01
  | .busy => 0x10
  | .unknown => 0x11
  | .badLength => 0x12
  | .badValue => 0x13
  | .notNow => 0x14
  | .wrongLink => 0x15
  | .alreadySet => 0x16
  | .storeFault => 0x17

/-! ### Reading fields -/

/-- An unsigned two-byte field. -/
def readHalf (hi lo : Byte) : Nat := (hi ++ lo).toNat

/-- A signed two-byte field. -/
def readSigned (hi lo : Byte) : Int := (hi ++ lo).toInt

/-- A four-byte field. -/
def readFull (a b c d : Byte) : Full := a ++ b ++ c ++ d

/-- A six-byte mask over the 48 positions (R148). -/
def readMask (a b c d e f : Byte) : BitVec 48 := a ++ b ++ c ++ d ++ e ++ f

/-- An index below n, or none when the byte is out of range. -/
def readIndex (n : Nat) (b : Byte) : Option (Fin n) :=
  if h : b.toNat < n then some ⟨b.toNat, h⟩ else none

/-- Key points of four bytes each (R36, R59, R132). -/
def readPoints : List Byte → List Point
  | a :: b :: c :: d :: rest => ⟨readSigned a b, readHalf c d⟩ :: readPoints rest
  | _ => []

/-! ### Writing fields -/

/-- A one-byte field. -/
def oneByte (n : Nat) : Byte := BitVec.ofNat 8 n

/-- An unsigned two-byte field. -/
def twoBytes (n : Nat) : List Byte := halfBytes (BitVec.ofNat 16 n)

/-- A signed two-byte field in two's complement. -/
def signedBytes (t : Int) : List Byte := halfBytes (BitVec.ofInt 16 t)

/-- A four-byte field. -/
def fourBytes (w : Full) : List Byte :=
  halfBytes ((w >>> 16).truncate 16) ++ halfBytes (w.truncate 16)

/-- A six-byte mask over the 48 positions, most significant byte first (R148). -/
def maskBytes (m : BitVec 48) : List Byte :=
  halfBytes ((m >>> 32).truncate 16) ++ halfBytes ((m >>> 16).truncate 16) ++ halfBytes (m.truncate 16)

/-- A flag as a byte. -/
def flagByte (b : Bool) : Byte := if b then 1 else 0

/-- A temperature, or 0x8000 when absent (R16, Table 10-8). -/
def temperatureBytes : Option Int → List Byte
  | some t => signedBytes t
  | none => [0x80, 0x00]

/-- A converter code, or 0xFFFF when absent (R16). -/
def codeBytes : Option Nat → List Byte
  | some c => twoBytes c
  | none => [0xFF, 0xFF]

/-- A key point (R36). -/
def pointBytes (p : Point) : List Byte := signedBytes p.temperature ++ twoBytes p.value

/-! ### Ranges (R177) -/

/-- A scalar brought to the nearer end of its range. -/
def clampNat (low high n : Nat) : Nat := max low (min n high)

/-- A signed scalar brought to the nearer end of its range. -/
def clampInt (low high t : Int) : Int := max low (min t high)

/-- A key point brought into range: its temperature to -55.0 °C to +125.0 °C, its value to low to high (R36, R132). -/
def clampPoint (low high : Nat) (p : Point) : Point :=
  ⟨clampInt (-550) 1250 p.temperature, clampNat low high p.value⟩

/-- The temperatures of a curve are strictly ascending (R21). -/
def ascending : List Point → Bool
  | [] => true
  | [_] => true
  | p :: q :: rest => decide (p.temperature < q.temperature) && ascending (q :: rest)

/-- OK when the applied fields are those received, CLAMPED when a field was brought into range (R177). -/
def appliedStatus (received applied : List Byte) : Status :=
  if applied = received then .ok else .clamped

/-! ### Curves (R21) -/

/-- The value between two neighbouring points: vᵢ + trunc((vᵢ₊₁ − vᵢ) × (T − tᵢ) / (tᵢ₊₁ − tᵢ)). -/
def interpolate (p q : Point) (t : Int) : Nat :=
  ((p.value : Int) +
    (((q.value : Int) - p.value) * (t - p.temperature)).tdiv (q.temperature - p.temperature)).toNat

/-- The value of a curve at a temperature that is above the point p, which stands before the rest. -/
def curveAfter (p : Point) (t : Int) : List Point → Nat
  | [] => p.value
  | q :: rest => if t < q.temperature then interpolate p q t else curveAfter q t rest

/-- The value of a curve at a temperature (R21). A curve has at least one point; an empty one, which no setting can hold,
is given the value 0. -/
def curveValue (curve : List Point) (t : Int) : Nat :=
  match curve with
  | [] => 0
  | p :: rest => if t ≤ p.temperature then p.value else curveAfter p t rest

/-- The largest value among a curve's points (R123). -/
def curveLargest (curve : List Point) : Nat :=
  curve.foldl (fun m p => max m p.value) 0

/-! ### Masks and vectors -/

/-- The bit of weight 2^c of a channel mask (R59, R60). -/
def inMask (mask : Byte) (c : Channel) : Bool := mask.getLsbD c.val

/-- The channels of a mask in ascending order. -/
def maskChannels (mask : Byte) : List Channel :=
  (List.finRange 8).filter (inMask mask)

/-- A vector with one entry replaced. -/
def put {α : Type} {n : Nat} (v : Vector α n) (i : Fin n) (x : α) : Vector α n :=
  v.set i.val x i.isLt

/-- A function applied to each entry of a vector. -/
def mapEach {α β : Type} {n : Nat} (f : α → β) (v : Vector α n) : Vector β n :=
  Vector.ofFn fun i => f v[i]

/-- A count of the manual incremented, holding at 65535. -/
def bump (n : Nat) : Nat := if n < Config.countLimit then n + 1 else n

/-- Milliseconds as whole seconds, rounded up (R107, R109). -/
def secondsUp (ms : Nat) : Nat := (ms + 999) / 1000

end Sys2Proof.Machine
end

