-- ==== Sys2Proof/Machine/Flags.lean ====
section
/-! DEFINITION. The attention causes and the lines and outputs that are functions of the state: ATTN_N, BOOTSEL, the
heater drives (Table 10-6, R173, R99, R31). -/

namespace Sys2Proof.Machine

/-- Attention causes (Table 10-6). -/
inductive Cause where
  | keys
  | keysHalf
  | keysFull
  | restartPending
  | thermal
  | fan
  | filter
  | converter
  | log
  | settings
  deriving DecidableEq, Repr

/-- The position of a cause's weight, 0 for KEYS up to 9 for SETTINGS (R174). -/
def causePosition : Cause → Nat
  | .keys => 0
  | .keysHalf => 1
  | .keysFull => 2
  | .restartPending => 3
  | .thermal => 4
  | .fan => 5
  | .filter => 6
  | .converter => 7
  | .log => 8
  | .settings => 9

/-- A cause's weight (Table 10-6). -/
def causeWeight (c : Cause) : Half := 1 <<< causePosition c

/-- The weights of the level causes KEYS, KEYS_HALF and KEYS_FULL (Table 10-6). -/
def levelWeights : Half := 7

/-- The weights that stand for a cause (Table 10-6). -/
def causeWeights : Half := 0x03FF

/-- A set of causes holds a cause. -/
def holdsCause (set : Half) (c : Cause) : Bool := set.getLsbD (causePosition c)

/-- The pending set after a Clear Attention that names these causes: the latched ones cease to be pending, the level
ones stay as their conditions make them (R175). -/
def clearLatched (pending named : Half) : Half := pending &&& (~~~named ||| levelWeights)

/-- ATTN_N is asserted: some cause is both pending and enabled in the mask (R173). -/
def attnAsserted (s : State) : Bool := decide (s.causes &&& s.settings.mask ≠ 0)

/-- BOOTSEL: the slot held in the boot-slot cell; true is slot 1 (R99). -/
def bootsel (s : State) : Bool := s.store.slot

/-- HTRk is on: the time since the start of its current frame is less than one tenth of the granted duty, in ms (R31).
With the time in 0.1 ms and the duty in ‰ the two numbers compare directly. -/
def heaterOn (s : State) (z : Zone) : Bool :=
  match s.zones[z].frame with
  | some elapsed => decide (elapsed < s.zones[z].grantedDuty)
  | none => false

/-- HPWR_EN is on in this supervisor state (R63, Table 4-1). -/
def poweredIn : SupervisorState → Bool
  | .off => false
  | .warming => false
  | .powering => true
  | .resetHold => true
  | .booting => true
  | .running => true
  | .warned => true
  | .resetPulse => true
  | .powerDown => false
  | .stopping => true
  | .cooling => false
  | .lockedOut => false

/-- HRST_N is asserted in this supervisor state (R64, Table 4-1). -/
def heldInReset : SupervisorState → Bool
  | .off => true
  | .warming => true
  | .powering => true
  | .resetHold => true
  | .booting => false
  | .running => false
  | .warned => false
  | .resetPulse => true
  | .powerDown => true
  | .stopping => false
  | .cooling => true
  | .lockedOut => true

/-- The state code and sub-phase code of Get Status and of the log record (Table 10-5, offsets 5 and 6). -/
def stateCodes : SupervisorState → Nat × Nat
  | .off => (0, 0)
  | .warming => (1, 0)
  | .powering => (2, 1)
  | .resetHold => (2, 2)
  | .booting => (2, 3)
  | .running => (3, 0)
  | .warned => (4, 0)
  | .resetPulse => (5, 4)
  | .powerDown => (5, 5)
  | .stopping => (6, 0)
  | .cooling => (7, 0)
  | .lockedOut => (8, 0)

/-- The reading of a channel: its temperature when its reason is VALID, none otherwise (chapter 1.7). -/
def reading (s : State) (c : Channel) : Option Int :=
  match s.meas.channels[c].reason with
  | .valid => s.meas.channels[c].temperature
  | _ => none

/-- The readings that a channel mask's channels carry, in channel order. -/
def maskReadings (s : State) (mask : Byte) : List Int :=
  (maskChannels mask).filterMap (reading s)

/-- The highest of some temperatures, none of none. -/
def hottest : List Int → Option Int
  | [] => none
  | t :: rest => some (rest.foldl max t)

end Sys2Proof.Machine
end

