-- ==== Sys2Proof/Machine/Ops.lean ====
section
/-! DEFINITION. The operations that every block shares: handing a frame to a link, raising and withdrawing an attention
cause, appending a log record, storing a key event, flushing the Key Queue, and the frame that every answered request
goes through. -/

namespace Sys2Proof.Machine

/-! ### Links (chapter 10) -/

/-- A link's state. -/
def State.link (s : State) : Link → LinkState
  | .host => s.host
  | .service => s.service

/-- The state with one link's state replaced. -/
def State.withLink (s : State) (l : Link) (x : LinkState) : State :=
  match l with
  | .host => s.withHost x
  | .service => s.withService x

/-- A frame is handed to a link's output queue; when the queue already holds four frames it is discarded and counted
(R168). -/
def sendFrame (l : Link) (f : Frame) (s : State) : State :=
  if (s.link l).output.length < Config.outputFrames then
    s.withLink l { s.link l with output := (s.link l).output ++ [f] }
  else
    s.withLink l { s.link l with discarded := bump (s.link l).discarded }

/-- A reply: the kind of the request plus 0x80, and its tag (R166). -/
def sendReply (l : Link) (kind tag : Byte) (payload : List Byte) (s : State) : State :=
  sendFrame l ⟨kind + 0x80, tag, payload⟩ s

/-- A notice, on the host link, with tag 0 (Table 10-2). -/
def sendNotice (kind : Byte) (payload : List Byte) (s : State) : State :=
  sendFrame .host ⟨kind, 0, payload⟩ s

/-- A link's waiting flag set or cleared (R167). -/
def setWaiting (l : Link) (b : Bool) (s : State) : State :=
  s.withLink l { s.link l with waiting := b }

/-- A link's receiver. -/
def setReceiver (l : Link) (r : Receiver) (s : State) : State :=
  s.withLink l { s.link l with receiver := r }

/-- The receivers take bytes: no reset is in progress (R176) and no Reset Supervisor has been taken (R172). -/
def receiving (s : State) : Bool := s.resetting.isNone && s.resetReply.isNone

/-- The frame of every answered request (R166): nothing is dispatched while the receivers discard; the receiver returns to
hunting (R164); a waiting link answers BUSY (test 4); otherwise the owning block decides, and its reply, when it has one
now, is handed over after the block's effect (DESIGN CHOICE, log entry 10). -/
def answer (l : Link) (kind tag : Byte) (body : State → State × Option (List Byte)) (s : State) : State :=
  if receiving s then
    if (s.link l).waiting then
      sendReply l kind tag [statusByte .busy] (setReceiver l .hunting s)
    else
      match body (setReceiver l .hunting s) with
      | (t, some payload) => sendReply l kind tag payload t
      | (t, none) => t
  else s

/-- A block's refusal: the status byte alone, and nothing changes (R177, Table 10-3). -/
def refuse (status : Status) (s : State) : State × Option (List Byte) :=
  (s, some [statusByte status])

/-! ### Attention (chapter 10.8) -/

/-- A cause is set (R173, R174): one that is already pending stays pending; one that becomes pending and is enabled in the
mask is announced by an Attention Raised notice. -/
def raise (c : Cause) (s : State) : State :=
  if holdsCause s.causes c then s
  else if holdsCause s.settings.mask c then
    sendNotice 0x40 (oneByte (causePosition c) :: halfBytes (s.causes ||| causeWeight c))
      (s.withCauses (s.causes ||| causeWeight c))
  else s.withCauses (s.causes ||| causeWeight c)

/-- A level cause ceases to be pending (R145, R173). -/
def withdrawCause (c : Cause) (s : State) : State :=
  s.withCauses (s.causes &&& ~~~causeWeight c)

/-- A level cause follows its condition (R145). -/
def followLevel (c : Cause) (condition : Bool) (s : State) : State :=
  if condition then raise c s else withdrawCause c s

/-- The three key causes follow the number of entries held (R145). -/
def followQueue (s : State) : State :=
  followLevel .keysFull (decide (64 ≤ s.queue.entries.length))
    (followLevel .keysHalf (decide (32 ≤ s.queue.entries.length))
      (followLevel .keys (decide (1 ≤ s.queue.entries.length)) s))

/-! ### Event Log (chapter 9) -/

/-- The code of a record kind (Table 9-2). -/
def recordCode : RecordKind → Nat
  | .powerOn => 1
  | .supervisorReset => 2
  | .hostStart => 3
  | .bootConfirmed => 4
  | .stable => 5
  | .hostReboot => 6
  | .checkinTimeout => 7
  | .powerFault => 8
  | .warningIssued => 9
  | .warningDeferred => 10
  | .warningCancelled => 11
  | .restart => 12
  | .powerOff => 13
  | .slotFlip => 14
  | .lockout => 15
  | .lockoutReleased => 16
  | .warmTimeout => 17
  | .thermalTrip => 18
  | .thermalResume => 19
  | .fanFault => 20
  | .fanOk => 21
  | .filterService => 22
  | .converterFault => 23
  | .converterOk => 24
  | .chord => 25
  | .settingsDefaulted => 26
  | .timeSet => 27

/-- The record that an append stamps now (R154, R155, Table 9-1). -/
def stampRecord (kind : RecordKind) (detail : Half) (s : State) : LogRecord where
  seq := s.log.nextSeq
  time := s.timeBase
  kind := kind
  state := s.seq.state
  rung := s.ladder.rung
  failures := s.ladder.failures
  slot := s.store.slot
  temperature := reading s s.settings.limits.board
  detail := detail

/-- A record added to the ring (R157): a full ring loses its oldest record and counts it; the number after 4 294 967 295 is
1. The numbering counts as having passed from 4 294 967 295 to 1 from the append of record 4 294 967 295 on, when the next
number is 1, and not only from the append of record 1 (R160; DESIGN CHOICE, log entry 37). -/
def addRecord (r : LogRecord) (log : EventLog) : EventLog where
  ring := if log.ring.length < Config.logRecords then log.ring ++ [r] else log.ring.tail ++ [r]
  nextSeq := if log.nextSeq = BitVec.allOnes 32 then 1 else log.nextSeq + 1
  wrapped := log.wrapped || decide (log.nextSeq = BitVec.allOnes 32)
  overwrites := if log.ring.length < Config.logRecords then log.overwrites else bump log.overwrites

/-- A record is appended, and LOG is set (R157, R158). -/
def appendLog (kind : RecordKind) (detail : Half) (s : State) : State :=
  raise .log (s.withLog (addRecord (stampRecord kind detail s) s.log))

/-! ### Key Queue (chapter 8.4) -/

/-- The Key Queue after one event is handed to it (R143). -/
def storeEvent (kind : KeyKind) (time : Full) (q : KeyQueue) : KeyQueue :=
  if q.entries.length < Config.queueEntries then
    { q with
      entries := q.entries ++ [⟨q.nextSeq, time, kind, if 0 < q.lost then some (min q.lost 255) else none⟩]
      nextSeq := q.nextSeq + 1
      lost := 0 }
  else
    { q with nextSeq := q.nextSeq + 1, lost := bump q.lost }

/-- A key event is handed to the Key Queue with the time base as its tag, and the key causes follow (R137, R143, R145). -/
def keyEvent (kind : KeyKind) (s : State) : State :=
  followQueue (s.withQueue (storeEvent kind s.timeBase s.queue))

/-- The Key Queue after a flush (R144). -/
def flushedQueue (q : KeyQueue) : KeyQueue :=
  { q with entries := [], lost := 0, flushed := min (q.flushed + q.entries.length) Config.countLimit }

/-- A flush: every entry is discarded and counted, the lost count is cleared, the key causes follow (R144, R145). -/
def flush (s : State) : State :=
  followQueue (s.withQueue (flushedQueue s.queue))

/-! ### Timers -/

/-- A timer started with a length in ms. -/
def startTimer (ms : Nat) : Option Timer := some ⟨ms, ms⟩

/-- One millisecond passes on a timer (R152). -/
def tickTimer (t : Option Timer) : Option Timer :=
  t.map fun x => { x with left := x.left - 1 }

/-- A timer is running and has reached its length. -/
def expired (t : Option Timer) : Bool :=
  match t with
  | some x => decide (x.left = 0)
  | none => false

/-- A running timer brought to its end: the moment that an expiry command stands for (DESIGN CHOICE, log entry 4). -/
def runOut (t : Option Timer) : Option Timer :=
  t.map fun x => { x with left := 0 }

/-- The part of the state that a block replaces by a function. -/
def State.mapThermal (s : State) (f : Thermal → Thermal) : State := s.withThermal (f s.thermal)

/-- The sequencer replaced by a function of it. -/
def State.mapSeq (s : State) (f : Sequencer → Sequencer) : State := s.withSeq (f s.seq)

/-- The keypad replaced by a function of it. -/
def State.mapKeypad (s : State) (f : Keypad → Keypad) : State := s.withKeypad (f s.keypad)

/-- The store replaced by a function of it. -/
def State.mapStore (s : State) (f : Store → Store) : State := s.withStore (f s.store)

/-- The settings replaced by a function of them. -/
def State.mapSettings (s : State) (f : Settings → Settings) : State := s.withSettings (f s.settings)

end Sys2Proof.Machine
end

