-- ==== Sys2Proof/Machine/Sequencing.lean ====
section
/-! DEFINITION. The shared operations of the Host Power Sequencer, the Restart Ladder and the boot-slot cell: entering a
supervisor state, the entries of chapters 4 to 6, a failure and the ladder's answer, warnings, thermal demands and chord
actions. -/

namespace Sys2Proof.Machine

/-! ### Entering a state (R63, R64, R66) -/

/-- The fan duty when HPWR_EN turns on: raised to the fan minimum (R50). -/
def raisedDuty (s : State) : Nat := max s.thermal.fanDuty s.settings.fan.minimum

/-- The sequencer passes to a supervisor state (R63): HPWR_EN and HRST_N take the levels of Table 4-1, every timer of the
state left is stopped (R66), the pending warning record and the restart record are discarded (R67, R107), the warm timer
is stopped (R46), and HPWR_EN turning on raises the fan duty to the fan minimum (R50). -/
def enterState (st : SupervisorState) (s : State) : State :=
  (s.withThermal
    { s.thermal with
      warmTimer := none
      fanDuty := if poweredIn st && !s.seq.hpwrEn then raisedDuty s else s.thermal.fanDuty }).withSeq
    { s.seq with
      state := st
      hpwrEn := poweredIn st
      hrst := heldInReset st
      timers := SequencerTimers.stopped
      warning := none
      restart := none }

/-- The sequencer's timers replaced by a function of them. -/
def mapTimers (f : SequencerTimers → SequencerTimers) (s : State) : State :=
  s.withSeq { s.seq with timers := f s.seq.timers }

/-- The last reported boot stage is set (R67, R88). -/
def setStage (stage : Nat) (s : State) : State :=
  s.withSeq { s.seq with stage := stage }

/-! ### The way up (R69 to R72, R89 to R94) -/

/-- Entry into STARTING/RESET_HOLD, with the reset hold in force (R71). -/
def enterResetHold (s : State) : State :=
  mapTimers (fun t => { t with resetHold := startTimer s.settings.timing.resetHold }) (enterState .resetHold s)

/-- Entry into STARTING/POWERING (R70): HPWR_EN on, boot stage 0, HOST_START "normal", flush, HPG timer; an HPG that is
already present counts as a rise taken at that moment. -/
def startPowering (s : State) : State :=
  let up := mapTimers (fun t => { t with hpg := startTimer s.settings.timing.hpgTimeout })
    (flush (appendLog .hostStart 0 (setStage 0 (enterState .powering s))))
  if up.seq.hpg then enterResetHold up else up

/-- Entry into WARMING (R69): the warm timer starts unless the warm timeout is 0 (R46), and the part passes at once to
STARTING/POWERING when start is permitted. -/
def enterWarming (s : State) : State :=
  let w := enterState .warming s
  let w := w.withThermal
    { w.thermal with
      warmTimer :=
        if w.settings.limits.warmTimeout = 0 then none else startTimer (w.settings.limits.warmTimeout * 60000) }
  if w.thermal.startPermitted then startPowering w else w

/-- Entry into STARTING/BOOTING with a fresh boot window (R89). -/
def enterBooting (s : State) : State :=
  mapTimers (fun t => { t with bootWindow := startTimer (s.settings.timing.bootWindow * 1000) })
    (enterState .booting s)

/-- The ladder position returns to (0, 0) (R100). -/
def ladderReset (s : State) : State := s.withLadder ⟨0, 0⟩

/-- The stability timer's expiry (R94): STABLE, showing the position before the reset, then the ladder reset; the timer
stays stopped. -/
def stabilityReached (s : State) : State :=
  ladderReset (appendLog .stable 0 (mapTimers (fun t => { t with stability := none }) s))

/-- The run timeout is started from its full length (R91). -/
def startRunTimeout (s : State) : State :=
  mapTimers (fun t => { t with run := startTimer (s.settings.timing.runTimeout * 1000) }) s

/-- Entry into RUNNING (R90, R113): the record of the entry, then the run timeout and the stability timer; a stability
time of 0 expires at the entry (R94). -/
def enterRunning (kind : RecordKind) (detail : Half) (s : State) : State :=
  let r := startRunTimeout (appendLog kind detail (enterState .running s))
  if r.settings.timing.stability = 0 then stabilityReached r
  else mapTimers (fun t => { t with stability := startTimer (r.settings.timing.stability * 1000) }) r

/-! ### Restarting and switching off (R75 to R82) -/

/-- The codes of a restart's action and source in the RESTART record (Table 9-2). -/
def restartDetail (action : RestartAction) (source : RestartSource) : Half :=
  (match action with
    | .warm => 0x0000
    | .cold => 0x0100) |||
  match source with
  | .ladder => 0
  | .request => 1
  | .chord => 2

/-- Entry into RESTARTING (R75): the restart record is written, the sub-phase of the action is entered with its timer, and
a RESTART record is appended. The off interval, in s, is used by COLD only. -/
def enterRestarting (action : RestartAction) (offInterval : Nat) (source : RestartSource) (s : State) : State :=
  match action with
  | .warm =>
    let r := mapTimers (fun t => { t with pulse := startTimer s.settings.timing.warmPulse }) (enterState .resetPulse s)
    appendLog .restart (restartDetail .warm source) (r.withSeq { r.seq with restart := some ⟨.warm, none, source, false⟩ })
  | .cold =>
    let r := mapTimers (fun t => { t with offInterval := startTimer (offInterval * 1000) }) (enterState .powerDown s)
    appendLog .restart (restartDetail .cold source)
      (r.withSeq { r.seq with restart := some ⟨.cold, some offInterval, source, false⟩ })

/-- Entry into OFF with a POWER_OFF record (R77, R79, R80, R81; the details of chapter 9.3). -/
def enterOff (detail : Half) (s : State) : State :=
  appendLog .powerOff detail (enterState .off s)

/-- Entry into STOPPING with a power-off timer of a length in ms; one of 0 expires at the entry (R80). -/
def startStopTimer (ms : Nat) (s : State) : State :=
  if ms = 0 then enterOff 0 s
  else mapTimers (fun t => { t with powerOff := startTimer ms }) s

/-- The end of a thermal warning (R117): HPWR_EN off; COOLING while the overheat status is TRIPPED, otherwise WARMING. -/
def endThermalWarning (s : State) : State :=
  if s.thermal.tripped then enterState .cooling s else enterWarming s

/-! ### Warnings (chapter 6) -/

/-- The code of a warning's cause (R109, Table 9-2). -/
def warningCauseCode : WarningCause → Nat
  | .checkinTimeout => 0
  | .powerFault => 1
  | .thermal => 2

/-- The code of a warning's action (R109). -/
def warningActionCode : WarningAction → Nat
  | .warm => 0
  | .cold _ => 1
  | .off => 2

/-- The grace remaining, in ms; 0 when the grace timer is stopped. -/
def graceLeft (s : State) : Nat :=
  match s.seq.timers.grace with
  | some t => t.left
  | none => 0

/-- The Restart Pending notice of the warning outstanding (R109, Table 10-9). -/
def sendRestartPending (w : Warning) (s : State) : State :=
  sendNotice 0x41
    ([oneByte (warningCauseCode w.cause), oneByte (warningActionCode w.action)] ++ twoBytes (secondsUp (graceLeft s)) ++
      [oneByte w.defersLeft, flagByte w.deferPermitted]) s

/-- The pending action is carried out and the warning left (R110, R117). -/
def carryOut (s : State) : State :=
  match s.seq.warning with
  | none => s
  | some w =>
    match w.action with
    | .warm => enterRestarting .warm 0 .ladder s
    | .cold offInterval => enterRestarting .cold offInterval .ladder s
    | .off => endThermalWarning s

/-- What follows the writing of a pending warning record in WARNED: WARNING_ISSUED, the Restart Pending notice, the
RESTART_PENDING cause, and, with a grace of 0, the action at once (R108, R109, R115, R116). -/
def announceWarning (w : Warning) (s : State) : State :=
  let n := raise .restartPending (sendRestartPending w (appendLog .warningIssued (BitVec.ofNat 16 (warningCauseCode w.cause)) s))
  if graceLeft n = 0 then carryOut n else n

/-- Entry into WARNED with a pending warning record and a grace in ms (R107, R108, R115). -/
def enterWarned (w : Warning) (grace : Nat) (s : State) : State :=
  let e := enterState .warned s
  announceWarning w
    (e.withSeq { e.seq with warning := some w, timers := { e.seq.timers with grace := startTimer grace } })

/-- The restart warning of a failure (R108). -/
def restartWarning (cause : WarningCause) (r : Rung) (s : State) : Warning :=
  ⟨cause,
    match r.action with
    | .warm => .warm
    | .cold => .cold r.offInterval,
    s.settings.timing.deferLimit, true⟩

/-- The thermal warning (R115, R116). -/
def thermalWarning : Warning := ⟨.thermal, .off, 0, false⟩

/-! ### The boot-slot cell (R99, R182) -/

/-- The first copy is the newer of the two (R182). -/
def firstIsNewer (a b : CellCopy) : Bool :=
  a.valid && (!b.valid || !decide (b.writeNumber = a.writeNumber + 1))

/-- The write that begins now: to the older copy, with a write number one above the newer copy's; to the first copy with
number 1 when neither is valid (R182). -/
def nextCellWrite (st : Store) : CellWrite :=
  if !st.copyA.valid && !st.copyB.valid then ⟨true, ⟨st.slot, st.flips, 1, true⟩⟩
  else if firstIsNewer st.copyA st.copyB then ⟨false, ⟨st.slot, st.flips, st.copyA.writeNumber + 1, true⟩⟩
  else ⟨true, ⟨st.slot, st.flips, st.copyB.writeNumber + 1, true⟩⟩

/-- The new contents are handed to the store: written at once, or queued behind the write in progress (R182). -/
def handToCell (st : Store) : Store :=
  match st.cellWrite with
  | none => { st with cellWrite := some (nextCellWrite st) }
  | some _ => { st with cellQueued := true }

/-- A slot flip (R99): the slot toggles and the flip count rises, SLOT_FLIP is appended, and the contents are handed to the
store. -/
def flipSlot (s : State) : State :=
  let f := s.withStore { s.store with slot := !s.store.slot, flips := bump s.store.flips }
  let g := appendLog .slotFlip (if f.store.slot then 1 else 0) f
  g.withStore (handToCell g.store)

/-! ### The ladder (R97, R98) and failures (R74) -/

/-- The ladder's answer to a failure (R98). -/
inductive LadderAnswer where
  | act (rung : Rung)
  | lockout
  deriving DecidableEq, Repr

/-- The flip that leaving a rung makes, when its flip flag is set (R97, R99). -/
def leaveRung (r : Rung) (s : State) : State := if r.flip then flipSlot s else s

/-- The ladder counts a failure and answers it (R97, R98). A position outside the table, which the ladder never holds, is
answered LOCKOUT. -/
def ladderFailure (s : State) : State × LadderAnswer :=
  match s.settings.ladder[s.ladder.rung]? with
  | none => (s, .lockout)
  | some r =>
    if s.ladder.failures < r.attempts then
      (s.withLadder ⟨s.ladder.rung, s.ladder.failures + 1⟩, .act r)
    else
      match s.settings.ladder[s.ladder.rung + 1]? with
      | some next => (leaveRung r (s.withLadder ⟨s.ladder.rung + 1, 1⟩), .act next)
      | none => (leaveRung r s, .lockout)

/-- The ladder's answer is acted on (R74). The warn flag has effect only for a failure taken in STARTING/BOOTING or
RUNNING. -/
def actOnAnswer (taken : SupervisorState) (cause : WarningCause) (answer : State × LadderAnswer) : State :=
  match answer.2 with
  | .lockout => appendLog .lockout 0 (enterState .lockedOut answer.1)
  | .act r =>
    if r.warn && (decide (taken = .booting) || decide (taken = .running)) then
      enterWarned (restartWarning cause r answer.1) (answer.1.settings.timing.warningGrace * 1000) answer.1
    else enterRestarting r.action r.offInterval .ladder answer.1

/-- A failure (R74): its record, in the state and at the position before the count; the timers of that state stop; the
ladder counts and answers. -/
def takeFailure (kind : RecordKind) (detail : Half) (cause : WarningCause) (s : State) : State :=
  actOnAnswer s.seq.state cause
    (ladderFailure (mapTimers (fun _ => SequencerTimers.stopped) (appendLog kind detail s)))

/-- An HPG loss that is a failure (R73, R76, R85). -/
def powerGoodFailure (s : State) : State := takeFailure .powerFault 1 .powerFault s

/-- An HPG loss by state (R73, Table 4-5, R118). -/
def powerGoodLoss (s : State) : State :=
  match s.seq.state with
  | .resetHold => powerGoodFailure s
  | .booting => powerGoodFailure s
  | .running => powerGoodFailure s
  | .resetPulse => powerGoodFailure s
  | .warned => carryOut (appendLog .powerFault 2 s)
  | .stopping => enterOff 1 s
  | .powering => s
  | .off => s
  | .warming => s
  | .powerDown => s
  | .cooling => s
  | .lockedOut => s

/-- A lockout is released (R102): the ladder is reset, LOCKOUT_RELEASED is appended, and WARMING is entered. -/
def releaseLockedOut (detail : Half) (s : State) : State :=
  enterWarming (appendLog .lockoutReleased detail (ladderReset s))

/-! ### Reports of the Thermal Controller (R44, R81, R82) -/

/-- Start permitted as decided now, handed to the sequencer at a change (R44); in WARMING its being given starts the
computer (R69). -/
def reportStart (permitted : Bool) (s : State) : State :=
  let t := s.withThermal { s.thermal with startPermitted := permitted }
  if permitted && !s.thermal.startPermitted && decide (s.seq.state = .warming) then startPowering t else t

/-- The off-requested flag of the restart record (R67). -/
def offRequested (s : State) : Bool :=
  match s.seq.restart with
  | some r => r.offRequested
  | none => false

/-- The thermal replacement of a restart warning (R116): the grace is shortened or kept, never lengthened. -/
def replaceWarning (s : State) : State :=
  let grace := min (graceLeft s) (s.settings.timing.thermalGrace * 1000)
  announceWarning thermalWarning
    (s.withSeq { s.seq with warning := some thermalWarning, timers := { s.seq.timers with grace := startTimer grace } })

/-- The outstanding warning is a thermal one. -/
def warnedThermal (s : State) : Bool :=
  match s.seq.warning with
  | some w => decide (w.cause = .thermal)
  | none => false

/-- A shutdown demand by state (R81). -/
def shutdownDemand (s : State) : State :=
  match s.seq.state with
  | .running => enterWarned thermalWarning (s.settings.timing.thermalGrace * 1000) s
  | .warned => if warnedThermal s then s else replaceWarning s
  | .powering => enterState .cooling s
  | .resetHold => enterState .cooling s
  | .booting => enterState .cooling s
  | .resetPulse => enterState .cooling s
  | .powerDown => if offRequested s then enterOff 2 s else enterState .cooling s
  | .stopping => enterOff 2 s
  | .off => s
  | .warming => s
  | .cooling => s
  | .lockedOut => s

/-- A resume (R82). -/
def resumeHost (s : State) : State :=
  match s.seq.state with
  | .cooling => enterWarming s
  | _ => s

/-! ### Chord actions (R83) -/

/-- A chord action is applied in this state (R83, Table 4-7); EVENT hands nothing over and counts as applied (R141). -/
def chordApplies (action : ChordAction) (st : SupervisorState) : Bool :=
  match action with
  | .event => true
  | .start => decide (st = .off)
  | .warmRestart => decide (st = .booting ∨ st = .running)
  | .coldRestart => decide (st = .booting ∨ st = .running)
  | .release => decide (st = .lockedOut)

/-- The change of state of an applied chord action (R83). -/
def applyChord (action : ChordAction) (s : State) : State :=
  match action with
  | .event => s
  | .start => enterWarming s
  | .warmRestart => enterRestarting .warm 0 .chord s
  | .coldRestart => enterRestarting .cold Config.chordOffInterval .chord s
  | .release => releaseLockedOut 1 s

end Sys2Proof.Machine
end

