-- ==== Sys2Proof/Machine/Sensing.lean ====
section
/-! DEFINITION. The Measurement Unit (chapter 1), and the debounce count that its readings set (R123, R124):
SCAN_CONVERSION_COMPLETE, REFERENCE_CONVERSION_COMPLETE, CONVERTER_FAULT, CONVERTER_OK, ONE_SHOT_COMPLETE, READ_SENSORS,
SAMPLE_CHANNEL. -/

namespace Sys2Proof.Machine

/-! ### Conversions and rounds (R1 to R3) -/

/-- The conversion that follows a completion (R1): the oldest one-shot, else the next of the round. -/
def nextConversion (m : Measurement) : Measurement :=
  match m.oneShots with
  | _ :: _ => { m with current := some .oneShot }
  | [] =>
    match m.todo with
    | c :: rest => { m with current := some (.scan c), todo := rest }
    | [] => { m with current := some .reference }

/-- A channel record at a round start (R3): newly disabled or newly enabled channels lose their four fields; the reason
stays CONVERTER_FAULT while the converter is in FAULT. -/
def recordAtRoundStart (fault was is : Bool) (r : ChannelRecord) : ChannelRecord :=
  if was && !is then ChannelRecord.empty (if fault then .converterFault else .disabled)
  else if !was && is then ChannelRecord.empty (if fault then .converterFault else .noData)
  else r

/-- A new scan round starts with the enabled channels in force (R2, R3). -/
def startRound (enable : Byte) (m : Measurement) : Measurement :=
  { m with
    enabled := enable
    todo := maskChannels enable
    channels := Vector.ofFn fun c => recordAtRoundStart m.fault (inMask m.enabled c) (inMask enable c) m.channels[c] }

/-- The Measurement Unit at the end of a reset, with a new round started (R17, Table 1-8). -/
def measurementAfterReset (enable : Byte) : Measurement :=
  nextConversion
    { fault := false
      failCount := 0
      passCount := 0
      refPtr := .hi
      enabled := enable
      current := none
      todo := maskChannels enable
      oneShots := []
      channels := Vector.ofFn fun c => ChannelRecord.empty (if inMask enable c then .noData else .disabled) }

/-! ### Filter, temperature, calibration (R11 to R14) -/

/-- The filter accumulator after a conversion (R11). -/
def filterStep (old : Option Nat) (code : Nat) : Nat :=
  match old with
  | none => 4 * code
  | some a => a - a / 4 + code

/-- The filtered code of an accumulator (R11). -/
def filteredCode (accumulator : Nat) : Nat := (accumulator + 2) / 4

/-- The temperature of a filtered code (R12). -/
def temperatureOf (low : Int) (span code : Nat) : Int :=
  clampInt (-550) 1250 (low + (((code * span + 512) / 1024 : Nat) : Int))

/-- The calibration of a channel: low end and span (R13). -/
def calibration (words : Vector Half 32) (c : Channel) : Int × Nat :=
  let low := words[4 + 2 * c.val]'(by omega)
  let span := words[5 + 2 * c.val]'(by omega)
  if low = 0xFFFF ∨ span = 0xFFFF then (-400, 1650)
  else (clampInt (-800) 0 low.toInt, min span.toNat 2500)

/-- The validity reason decided from a filtered code (R14). -/
def reasonOf (filtered : Nat) : Validity :=
  if filtered ≤ 7 ∨ 1016 ≤ filtered then .openOrShort else .valid

/-- A channel record after a scan conversion in OK (R10). -/
def recordAfterScan (cal : Int × Nat) (code : Nat) (r : ChannelRecord) : ChannelRecord :=
  let accumulator := filterStep r.accumulator code
  let filtered := filteredCode accumulator
  { raw := some code
    accumulator := some accumulator
    filtered := some filtered
    temperature := if reasonOf filtered = .valid then some (temperatureOf cal.1 cal.2 filtered) else none
    reason := reasonOf filtered }

/-! ### The debounce count (R122 to R124) -/

/-- The scan period in µs (R122). -/
def scanPeriod (settle : Nat) : Nat := 8 * (settle + 20)

/-- The debounce time in ms from the keypad channel's reading (R123). -/
def debounceTimeOf (curve : List Point) (temperature : Option Int) : Nat :=
  match temperature with
  | some t => curveValue curve t
  | none => curveLargest curve

/-- N = ceil(debounce time × 1000 / scan period), from 2 to 255 (R124). -/
def debounceCountOf (time settle : Nat) : Nat :=
  clampNat 2 255 ((time * 1000 + scanPeriod settle - 1) / scanPeriod settle)

/-- The scanner recomputes the debounce time and N from the keypad settings and the keypad channel's reading (R124). -/
def recomputeDebounce (s : State) : State :=
  let k := s.settings.keypad
  let time := debounceTimeOf k.curve (reading s k.channel)
  s.withKeypad { s.keypad with debounceTime := time, debounceCount := debounceCountOf time k.settle }

/-! ### SCAN_CONVERSION_COMPLETE -/

/-- A channel's record after a scan conversion: updated whole in OK (R10), the raw code alone in FAULT (R9). -/
def scannedRecord (s : State) (c : Channel) (code : Code) : ChannelRecord :=
  if s.meas.fault then { s.meas.channels[c] with raw := some code.toNat }
  else recordAfterScan (calibration s.store.words c) code.toNat s.meas.channels[c]

/-- A scan conversion of channel c completes (R1, R9, R10), and the scanner is told when c is the keypad channel (R15,
R124). -/
def completeScan (c : Channel) (code : Code) (s : State) : State :=
  let t := s.withMeas (nextConversion { s.meas with channels := put s.meas.channels c (scannedRecord s c code) })
  if c = s.settings.keypad.channel then recomputeDebounce t else t

/-- SCAN_CONVERSION_COMPLETE: the conversion in progress, of a channel of the round, completes (R10); when the conversion
in progress is another, the event does not occur (DESIGN CHOICE, log entry 7). -/
def scanConversionComplete (code : Code) (s : State) : State :=
  match s.meas.current with
  | some (.scan c) => completeScan c code s
  | some .reference => s
  | some .oneShot => s
  | none => s

/-- Meaning of SCAN_CONVERSION_COMPLETE. -/
def execScanConversionComplete (code : Code) (s : State) : Host.Outcome State Fault Refusal :=
  .next (scanConversionComplete code s)

/-! ### REFERENCE_CONVERSION_COMPLETE, CONVERTER_FAULT, CONVERTER_OK -/

/-- A code lies in its reference's window (Table 1-3). -/
def inWindow (r : Reference) (code : Nat) : Bool :=
  match r with
  | .hi => decide (1015 ≤ code ∧ code ≤ 1023)
  | .mid => decide (504 ≤ code ∧ code ≤ 520)
  | .lo => decide (code ≤ 8)

/-- The reference pointer advances (R2). -/
def nextReference : Reference → Reference
  | .hi => .mid
  | .mid => .lo
  | .lo => .hi

/-- The reference's channel number (Table 1-1). -/
def referenceNumber : Reference → Nat
  | .hi => 8
  | .mid => 9
  | .lo => 10

/-- The counts after a check (R7). -/
def countCheck (passed : Bool) (m : Measurement) : Measurement :=
  if passed then { m with failCount := 0, passCount := min (m.passCount + 1) 3 }
  else { m with passCount := 0, failCount := min (m.failCount + 1) 2 }

/-- Entry into FAULT (R8): every record is invalidated, its raw code kept; then CONVERTER_FAULT is appended and CONVERTER
set. -/
def enterFault (code : Code) (s : State) : State :=
  raise .converter
    (appendLog .converterFault (code.zeroExtend 16)
      (s.withMeas
        { s.meas with
          fault := true
          channels := mapEach (fun r => { ChannelRecord.empty .converterFault with raw := r.raw }) s.meas.channels }))

/-- Return to OK (R9): the reasons are reset, and CONVERTER_OK is appended. -/
def leaveFault (code : Code) (s : State) : State :=
  appendLog .converterOk (code.zeroExtend 16)
    (s.withMeas
      { s.meas with
        fault := false
        channels := Vector.ofFn fun c =>
          { s.meas.channels[c] with reason := if inMask s.meas.enabled c then .noData else .disabled } })

/-- The change of the converter status that a check brings, when it brings one (R7). -/
def actOnCheck (code : Code) (s : State) : State :=
  if !s.meas.fault && decide (s.meas.failCount = 2) then enterFault code s
  else if s.meas.fault && decide (s.meas.passCount = 3) then leaveFault code s
  else s

/-- A scan-round reference conversion completes (R7): the check, its consequence, the pointer's advance, and the start of
the next round (R2, R3, DEDUCED, log entry 9). -/
def completeReference (code : Code) (s : State) : State :=
  let checked := s.withMeas (countCheck (inWindow s.meas.refPtr code.toNat) s.meas)
  let acted := actOnCheck code checked
  acted.withMeas
    (nextConversion
      (startRound acted.settings.channelEnable { acted.meas with refPtr := nextReference acted.meas.refPtr }))

/-- REFERENCE_CONVERSION_COMPLETE (R7); when the conversion in progress is another, the event does not occur. -/
def referenceConversionComplete (code : Code) (s : State) : State :=
  match s.meas.current with
  | some .reference => completeReference code s
  | some (.scan _) => s
  | some .oneShot => s
  | none => s

/-- Meaning of REFERENCE_CONVERSION_COMPLETE. -/
def execReferenceConversionComplete (code : Code) (s : State) : Host.Outcome State Fault Refusal :=
  .next (referenceConversionComplete code s)

/-- CONVERTER_FAULT (R8): the reference completion that moves the converter from OK to FAULT; a completion that does not
is not this event (DEDUCED, log entry 6). -/
def converterFault (code : Code) (s : State) : State :=
  let t := referenceConversionComplete code s
  if !s.meas.fault && t.meas.fault then t else s

/-- Meaning of CONVERTER_FAULT. -/
def execConverterFault (code : Code) (s : State) : Host.Outcome State Fault Refusal :=
  .next (converterFault code s)

/-- CONVERTER_OK (R9): the reference completion that returns the converter from FAULT to OK (DEDUCED, log entry 6). -/
def converterOk (code : Code) (s : State) : State :=
  let t := referenceConversionComplete code s
  if s.meas.fault && !t.meas.fault then t else s

/-- Meaning of CONVERTER_OK. -/
def execConverterOk (code : Code) (s : State) : Host.Outcome State Fault Refusal :=
  .next (converterOk code s)

/-! ### ONE_SHOT_COMPLETE and SAMPLE_CHANNEL -/

/-- The reply payload of Sample Channel (R5). -/
def oneShotReply (r : OneShot) (code : Code) (fault : Bool) : List Byte :=
  [statusByte .ok, oneByte r.channel.val] ++ twoBytes code.toNat ++ [flagByte fault]

/-- ONE_SHOT_COMPLETE (R5): the request leaves the list, its reply is handed over, the link stops waiting (R167), and the
next conversion starts (R1). -/
def oneShotComplete (code : Code) (s : State) : State :=
  match s.meas.current, s.meas.oneShots with
  | some .oneShot, r :: rest =>
    setWaiting r.link false
      (sendReply r.link 0x11 r.tag (oneShotReply r code s.meas.fault)
        (s.withMeas (nextConversion { s.meas with oneShots := rest })))
  | _, _ => s

/-- Meaning of ONE_SHOT_COMPLETE. -/
def execOneShotComplete (code : Code) (s : State) : Host.Outcome State Fault Refusal :=
  .next (oneShotComplete code s)

/-- Sample Channel at its block (R4): length, then channel, then the request joins the list and the link waits (R167). -/
def sampleBody (l : Link) (tag : Byte) (payload : List Byte) (s : State) : State × Option (List Byte) :=
  match payload with
  | [channel] =>
    match readIndex 11 channel with
    | none => refuse .badValue s
    | some c =>
      (setWaiting l true (s.withMeas { s.meas with oneShots := s.meas.oneShots ++ [⟨l, tag, c⟩] }), none)
  | _ => refuse .badLength s

/-- SAMPLE_CHANNEL (R4). -/
def sampleChannel (l : Link) (tag : Byte) (payload : List Byte) (s : State) : State :=
  answer l 0x11 tag (sampleBody l tag payload) s

/-- Meaning of SAMPLE_CHANNEL. -/
def execSampleChannel (l : Link) (tag : Byte) (payload : List Byte) (s : State) : Host.Outcome State Fault Refusal :=
  .next (sampleChannel l tag payload s)

/-! ### READ_SENSORS -/

/-- The code of a validity reason (R16). -/
def validityCode : Validity → Byte
  | .valid => 0
  | .disabled => 1
  | .noData => 2
  | .openOrShort => 3
  | .converterFault => 4

/-- A channel block of the reply (R16). -/
def channelBlock (r : ChannelRecord) : List Byte :=
  validityCode r.reason :: codeBytes r.raw ++ codeBytes r.filtered ++ temperatureBytes r.temperature

/-- The reply payload of Read Sensors (R16). -/
def sensorsReply (s : State) : List Byte :=
  [statusByte .ok, flagByte s.meas.fault, oneByte s.meas.failCount, oneByte s.meas.passCount,
    oneByte (referenceNumber s.meas.refPtr)] ++ fourBytes s.timeBase ++ s.meas.channels.toList.flatMap channelBlock

/-- Read Sensors at its block (R16). -/
def readSensorsBody (payload : List Byte) (s : State) : State × Option (List Byte) :=
  match payload with
  | [] => (s, some (sensorsReply s))
  | _ :: _ => refuse .badLength s

/-- READ_SENSORS (R16). -/
def readSensors (l : Link) (tag : Byte) (payload : List Byte) (s : State) : State :=
  answer l 0x10 tag (readSensorsBody payload) s

/-- Meaning of READ_SENSORS. -/
def execReadSensors (l : Link) (tag : Byte) (payload : List Byte) (s : State) : Host.Outcome State Fault Refusal :=
  .next (readSensors l tag payload s)

end Sys2Proof.Machine
end

