-- ==== Sys2Proof/Machine/Heaters.lean ====
section
/-! DEFINITION. The heater zones (chapter 2) and the start gate, which is evaluated at the same expiries (chapter 3.1):
ALLOCATION_PERIOD_EXPIRY, GATE_RELEASE, DRIVE_FRAME_START, DRIVE_ON_TIME_END, SET_ZONE, SET_HEATER_CURVE, SET_BUDGET. -/

namespace Sys2Proof.Machine

/-! ### The allocation (R22 to R30) -/

/-- The demand duty of a zone (R24). -/
def demandDutyOf (s : State) (z : Zone) : Nat :=
  let zs := s.settings.zones[z]
  if s.meas.fault || s.thermal.tripped || decide (zs.rated = 0) then 0
  else
    match reading s zs.sensor with
    | none => 0
    | some t => min (curveValue zs.curve t) zs.clamp

/-- The demand power of a zone, in 0.1 W (R25). -/
def demandPowerOf (s : State) (z : Zone) : Nat :=
  demandDutyOf s z * s.settings.zones[z].rated / 1000

/-- The budget that the level of HPWR_EN selects (R26). -/
def selectedBudget (s : State) : Nat :=
  if s.seq.hpwrEn then s.settings.onBudget else s.settings.offBudget

/-- A zone put into its place in the grant order: before the first zone of a higher current priority (R27). -/
def insertZone (priority : Zone → Nat) (z : Zone) : List Zone → List Zone
  | [] => [z]
  | y :: rest => if priority z < priority y then z :: y :: rest else y :: insertZone priority z rest

/-- The grant order: by current priority, lowest first, and by index among equals (R27). -/
def grantOrder (priority : Zone → Nat) : List Zone :=
  (List.finRange 4).foldl (fun order z => insertZone priority z order) []

/-- The grant walk over zones in order with a remaining power (R28): the zones with what each is granted. -/
def grantWalk (demand : Zone → Nat) : List Zone → Nat → List (Zone × Nat)
  | [], _ => []
  | z :: rest, remaining => (z, min (demand z) remaining) :: grantWalk demand rest (remaining - min (demand z) remaining)

/-- What the walk granted a zone. -/
def grantOf (grants : List (Zone × Nat)) (z : Zone) : Nat :=
  match grants.find? (fun g => g.1 = z) with
  | some g => g.2
  | none => 0

/-- The granted power of each zone at an allocation (R26 to R28). -/
def grantedPowerOf (s : State) (z : Zone) : Nat :=
  grantOf (grantWalk (demandPowerOf s) (grantOrder fun y => s.zones[y].priority) (selectedBudget s)) z

/-- The granted duty of a grant (R29). -/
def grantedDutyOf (granted rated : Nat) : Nat := if rated = 0 then 0 else granted * 1000 / rated

/-- The current priority after aging (R30). -/
def agedPriority (granted demand current initial : Nat) : Nat :=
  if granted < demand then current - 1 else initial

/-- A zone's runtime fields after an allocation (R24 to R30). -/
def allocatedZone (s : State) (z : Zone) : ZoneState :=
  let demand := demandPowerOf s z
  let granted := grantedPowerOf s z
  { s.zones[z] with
    demandDuty := demandDutyOf s z
    demandPower := demand
    grantedPower := granted
    grantedDuty := grantedDutyOf granted s.settings.zones[z].rated
    priority := agedPriority granted demand s.zones[z].priority s.settings.zones[z].initialPriority }

/-- One allocation, as one update of the four zone records (R22). -/
def allocate (s : State) : State := s.withZones (Vector.ofFn (allocatedZone s))

/-! ### The start gate (R41 to R44) -/

/-- The reading of a zone is warm (R42, R45). -/
def zoneWarm (s : State) (z : Zone) : Bool :=
  match reading s s.settings.zones[z].sensor with
  | some t => decide (s.settings.zones[z].release ≤ t) && !s.thermal.tripped
  | none => false

/-- A counting zone becomes RELEASED when its timer has reached its length (R43). -/
def releaseIfReached (z : ZoneState) : ZoneState :=
  if z.gateLength ≤ z.gateTimer then { z with gate := .released } else z

/-- The step of a gate zone at a gate evaluation (R42, R43); the hold is in ms. -/
def gateStep (warm : Bool) (hold : Nat) (z : ZoneState) : ZoneState :=
  match z.gate, warm with
  | .blocking, true => releaseIfReached { z with gate := .counting, gateTimer := 0, gateLength := hold }
  | .blocking, false => z
  | .counting, true => releaseIfReached { z with gateTimer := z.gateTimer + Config.allocationPeriod }
  | .counting, false => { z with gate := .blocking, gateTimer := 0 }
  | .released, true => z
  | .released, false => { z with gate := .blocking, gateTimer := 0 }

/-- A gate zone as R42 finds it at a gate evaluation (R41): one newly flagged is set to BLOCKING with its timer at 0. -/
def flaggedZone (z : ZoneState) : ZoneState :=
  if z.lastFlag then z else { z with lastFlag := true, gate := .blocking, gateTimer := 0 }

/-- The gate evaluation of one zone (R41): a zone without the flag is RELEASED; a gate zone is evaluated by R42 and R43. -/
def gateZone (s : State) (z : Zone) : ZoneState :=
  if s.settings.zones[z].gateFlag then
    gateStep (zoneWarm s z) (s.settings.limits.gateHold * 1000) (flaggedZone s.zones[z])
  else { s.zones[z] with lastFlag := false, gate := .released, gateTimer := 0 }

/-- The gate evaluation of a gate zone takes it from BLOCKING or COUNTING to RELEASED (R43). A zone newly flagged comes to it
BLOCKING, so with a gate hold of 0 it is released at the evaluation that makes it a gate zone (R41). -/
def gateReleases (s : State) (z : Zone) : Bool :=
  s.settings.zones[z].gateFlag && decide ((flaggedZone s.zones[z]).gate ≠ .released) &&
    decide ((gateZone s z).gate = .released)

/-- Every gate zone is RELEASED (R44); a zone that is no gate zone stands RELEASED itself (R41). -/
def allReleased (zones : Vector ZoneState 4) : Bool :=
  (List.finRange 4).all fun z => decide (zones[z].gate = .released)

/-- One gate evaluation, and start permitted decided afresh and handed over (R41, R44). -/
def evaluateGate (s : State) : State :=
  let zones := Vector.ofFn (gateZone s)
  reportStart (allReleased zones) (s.withZones zones)

/-- One expiry of the allocation timer (R22): the timer restarts, the allocation, then the gate evaluation. -/
def allocationExpiry (s : State) : State :=
  evaluateGate
    (allocate (s.withThermal { s.thermal with allocationTimer := startTimer Config.allocationPeriod }))

/-- ALLOCATION_PERIOD_EXPIRY (R22); the allocation timer runs except through a reset. -/
def allocationPeriodExpiry (s : State) : State :=
  if s.thermal.allocationTimer.isSome then allocationExpiry s else s

/-- Meaning of ALLOCATION_PERIOD_EXPIRY. -/
def execAllocationPeriodExpiry (s : State) : Host.Outcome State Fault Refusal :=
  .next (allocationPeriodExpiry s)

/-- GATE_RELEASE (R43): the expiry at whose gate evaluation the zone, a gate zone, becomes RELEASED (DEDUCED, log entry 6). A
start that the release permits follows in the same step (R44). -/
def gateRelease (z : Zone) (s : State) : State :=
  if s.thermal.allocationTimer.isSome && gateReleases s z then allocationExpiry s else s

/-- Meaning of GATE_RELEASE. -/
def execGateRelease (z : Zone) (s : State) : Host.Outcome State Fault Refusal :=
  .next (gateRelease z s)

/-! ### Heater drives (R31, R32) -/

/-- DRIVE_FRAME_START (R31): a new frame of the zone's output begins; heaterOn then compares from 0. -/
def driveFrameStart (z : Zone) (s : State) : State :=
  if s.resetting.isNone then s.withZones (put s.zones z { s.zones[z] with frame := some 0 }) else s

/-- Meaning of DRIVE_FRAME_START. -/
def execDriveFrameStart (z : Zone) (s : State) : Host.Outcome State Fault Refusal :=
  .next (driveFrameStart z s)

/-- The on-time of a duty ends within the millisecond in progress, at which the frame's time, in 0.1 ms, stands (R31). -/
def endsWithin (duty elapsed : Nat) : Bool := decide (elapsed ≤ duty ∧ duty < elapsed / 10 * 10 + 10)

/-- DRIVE_ON_TIME_END (R31): the on-time, one tenth of the granted duty in ms, ends within the millisecond in progress, and the
output goes off. The frame's time is then that end, in 0.1 ms; at another moment the event does not occur (log entry 7). A
duty of 1000 has no such end within a frame: it keeps the output on throughout. -/
def driveOnTimeEnd (z : Zone) (s : State) : State :=
  match s.zones[z].frame with
  | some elapsed =>
    if s.zones[z].grantedDuty < 1000 ∧ endsWithin s.zones[z].grantedDuty elapsed = true then
      s.withZones (put s.zones z { s.zones[z] with frame := some s.zones[z].grantedDuty })
    else s
  | none => s

/-- Meaning of DRIVE_ON_TIME_END. -/
def execDriveOnTimeEnd (z : Zone) (s : State) : Host.Outcome State Fault Refusal :=
  .next (driveOnTimeEnd z s)

/-- The heater cut (R32): demands and grants become 0; the priorities stay. -/
def cutZone (z : ZoneState) : ZoneState :=
  { z with demandDuty := 0, demandPower := 0, grantedPower := 0, grantedDuty := 0 }

/-- A gate zone set to BLOCKING by an overheat trip (R45). A gate zone is one whose gate flag is set. -/
def blockZone (isGate : Bool) (z : ZoneState) : ZoneState :=
  if isGate then { z with gate := .blocking, gateTimer := 0 } else z

/-! ### SET_ZONE (R34, R35) -/

/-- The Set Zone payload of a zone (R34). -/
def zonePayload (z : Zone) (zs : ZoneSettings) : List Byte :=
  [oneByte z.val, oneByte zs.sensor.val] ++ twoBytes zs.rated ++ twoBytes zs.clamp ++
    [oneByte zs.initialPriority, flagByte zs.gateFlag] ++ signedBytes zs.release

/-- An applied Set Zone (R35): the setting fields are replaced, and a changed initial priority becomes the current one. -/
def applyZone (z : Zone) (zs : ZoneSettings) (s : State) : State :=
  let kept := { zs with curve := s.settings.zones[z].curve }
  let t := s.withSettings { s.settings with zones := put s.settings.zones z kept }
  if zs.initialPriority = s.settings.zones[z].initialPriority then t
  else t.withZones (put s.zones z { s.zones[z] with priority := zs.initialPriority })

/-- Set Zone at its block (R34). -/
def setZoneBody (payload : List Byte) (s : State) : State × Option (List Byte) :=
  match payload with
  | [index, sensor, r1, r0, c1, c0, priority, gate, t1, t0] =>
    match readIndex 4 index, readIndex 8 sensor with
    | some z, some c =>
      let zs : ZoneSettings :=
        ⟨c, clampNat 0 2000 (readHalf r1 r0), clampNat 0 1000 (readHalf c1 c0), clampNat 0 15 priority.toNat,
          decide (gate ≠ 0), clampInt (-400) 600 (readSigned t1 t0), []⟩
      (applyZone z zs s, some (statusByte (appliedStatus payload (zonePayload z zs)) :: zonePayload z zs))
    | _, _ => refuse .badValue s
  | _ => refuse .badLength s

/-- SET_ZONE (R34, R35). -/
def setZone (l : Link) (tag : Byte) (payload : List Byte) (s : State) : State :=
  answer l 0x12 tag (setZoneBody payload) s

/-- Meaning of SET_ZONE. -/
def execSetZone (l : Link) (tag : Byte) (payload : List Byte) (s : State) : Host.Outcome State Fault Refusal :=
  .next (setZone l tag payload s)

/-! ### SET_HEATER_CURVE (R36, R37) -/

/-- The Set Heater Curve payload of a zone (R36). -/
def curvePayload (z : Zone) (curve : List Point) : List Byte :=
  [oneByte z.val, oneByte curve.length] ++ curve.flatMap pointBytes

/-- Set Heater Curve at its block, its tests in the order of R36. -/
def setHeaterCurveBody (payload : List Byte) (s : State) : State × Option (List Byte) :=
  match payload with
  | index :: count :: rest =>
    match readIndex 4 index with
    | none => refuse .badValue s
    | some z =>
      if count.toNat = 0 ∨ 8 < count.toNat then refuse .badValue s
      else if rest.length ≠ 4 * count.toNat then refuse .badLength s
      else
        let curve := (readPoints rest).map (clampPoint 0 1000)
        if ascending curve then
          (s.withSettings
            { s.settings with zones := put s.settings.zones z { s.settings.zones[z] with curve := curve } },
            some (statusByte (appliedStatus payload (curvePayload z curve)) :: curvePayload z curve))
        else refuse .badValue s
  | _ => refuse .badLength s

/-- SET_HEATER_CURVE (R36, R37). -/
def setHeaterCurve (l : Link) (tag : Byte) (payload : List Byte) (s : State) : State :=
  answer l 0x13 tag (setHeaterCurveBody payload) s

/-- Meaning of SET_HEATER_CURVE. -/
def execSetHeaterCurve (l : Link) (tag : Byte) (payload : List Byte) (s : State) : Host.Outcome State Fault Refusal :=
  .next (setHeaterCurve l tag payload s)

/-! ### SET_BUDGET (R38) -/

/-- The Set Budget payload (R38). -/
def budgetPayload (off on : Nat) : List Byte := twoBytes off ++ twoBytes on

/-- Set Budget at its block (R38). -/
def setBudgetBody (payload : List Byte) (s : State) : State × Option (List Byte) :=
  match payload with
  | [f1, f0, n1, n0] =>
    let off := clampNat 0 6000 (readHalf f1 f0)
    let on := clampNat 0 6000 (readHalf n1 n0)
    (s.withSettings { s.settings with offBudget := off, onBudget := on },
      some (statusByte (appliedStatus payload (budgetPayload off on)) :: budgetPayload off on))
  | _ => refuse .badLength s

/-- SET_BUDGET (R38). -/
def setBudget (l : Link) (tag : Byte) (payload : List Byte) (s : State) : State :=
  answer l 0x14 tag (setBudgetBody payload) s

/-- Meaning of SET_BUDGET. -/
def execSetBudget (l : Link) (tag : Byte) (payload : List Byte) (s : State) : Host.Outcome State Fault Refusal :=
  .next (setBudget l tag payload s)

end Sys2Proof.Machine
end

