-- ==== Sys2Proof/Machine/Climate.lean ====
section
/-! DEFINITION. The warm timeout, the fan, the filter watch and the overheat monitor (chapter 3): WARM_TIMEOUT,
FAN_PERIOD_EXPIRY, TACH_PULSE, FAN_FAULT, FAN_OK, MINUTE_EXPIRY, FILTER_SERVICE, OVERHEAT_CHECK, THERMAL_TRIP,
THERMAL_RESUME, SET_FAN, SET_THERMAL_LIMITS, CLEAR_FILTER_SERVICE. -/

namespace Sys2Proof.Machine

/-! ### WARM_TIMEOUT (R47) -/

/-- WARM_TIMEOUT (R47): with action START and the overheat status CLEAR, WARM_TIMEOUT "started" and a forced start;
otherwise WARM_TIMEOUT "held" and THERMAL, and the timer does not expire again in this stay. -/
def warmTimeout (s : State) : State :=
  if s.thermal.warmTimer.isSome && decide (s.seq.state = .warming) then
    if s.settings.limits.warmStart && !s.thermal.tripped then startPowering (appendLog .warmTimeout 1 s)
    else
      raise .thermal (appendLog .warmTimeout 0 (s.withThermal { s.thermal with warmTimer := none }))
  else s

/-- Meaning of WARM_TIMEOUT. -/
def execWarmTimeout (s : State) : Host.Outcome State Fault Refusal := .next (warmTimeout s)

/-! ### The fan (R48 to R52) -/

/-- The measured speed of a period's pulse count: times 30, held at 65535 (R48). -/
def speedOf (pulses : Nat) : Nat := min (pulses * 30) 65535

/-- The fan duty by the fan channels and the curve (R49, steps 1 and 2). -/
def curveDuty (s : State) : Nat :=
  if s.meas.fault then 1000
  else
    match hottest (maskReadings s s.settings.fan.mask) with
    | none => 1000
    | some t => curveValue s.settings.fan.curve t

/-- The new fan duty of a fan period expiry (R49). -/
def fanDutyOf (s : State) : Nat :=
  if s.seq.hpwrEn then max (curveDuty s) s.settings.fan.minimum else curveDuty s

/-- The speed of the period just ended is taken, the count starts again, and the fan timer restarts (R48). -/
def measureFan (s : State) : State :=
  s.withThermal
    { s.thermal with speed := speedOf s.thermal.tach, tach := 0, fanTimer := startTimer Config.fanPeriod }

/-- The fan enters FAULT (R51). -/
def enterFanFault (s : State) : State :=
  raise .fan
    (appendLog .fanFault (BitVec.ofNat 16 s.thermal.speed)
      (s.withThermal { s.thermal with fanFault := true, stall := 0, recovery := 0 }))

/-- The fan returns to OK (R52). -/
def leaveFanFault (s : State) : State :=
  appendLog .fanOk (BitVec.ofNat 16 s.thermal.speed)
    (s.withThermal { s.thermal with fanFault := false, stall := 0, recovery := 0 })

/-- The stall test, while the fan status is OK (R51). -/
def stallTest (s : State) : State :=
  if 250 ≤ s.thermal.fanDuty ∧ s.thermal.speed < s.settings.fan.stallSpeed then
    if 3 ≤ s.thermal.stall + 1 then enterFanFault s
    else s.withThermal { s.thermal with stall := s.thermal.stall + 1 }
  else s.withThermal { s.thermal with stall := 0 }

/-- The recovery test, while the fan status is FAULT (R52). -/
def recoveryTest (s : State) : State :=
  if s.settings.fan.stallSpeed ≤ s.thermal.speed then
    if 3 ≤ s.thermal.recovery + 1 then leaveFanFault s
    else s.withThermal { s.thermal with recovery := s.thermal.recovery + 1 }
  else s.withThermal { s.thermal with recovery := 0 }

/-- The test of a fan period expiry, by the fan status (R48). -/
def fanTest (s : State) : State := if s.thermal.fanFault then recoveryTest s else stallTest s

/-- One fan period expiry (R48): the speed, the tests with the duty in force through the period, then the new duty. -/
def fanExpiry (s : State) : State :=
  let t := fanTest (measureFan s)
  t.withThermal { t.thermal with fanDuty := fanDutyOf t }

/-- FAN_PERIOD_EXPIRY (R48); the fan timer runs except through a reset. -/
def fanPeriodExpiry (s : State) : State := if s.thermal.fanTimer.isSome then fanExpiry s else s

/-- Meaning of FAN_PERIOD_EXPIRY. -/
def execFanPeriodExpiry (s : State) : Host.Outcome State Fault Refusal := .next (fanPeriodExpiry s)

/-- FAN_FAULT (R51): the fan period expiry that moves the fan status to FAULT (DEDUCED, log entry 6). -/
def fanFault (s : State) : State :=
  let t := fanPeriodExpiry s
  if !s.thermal.fanFault && t.thermal.fanFault then t else s

/-- Meaning of FAN_FAULT. -/
def execFanFault (s : State) : Host.Outcome State Fault Refusal := .next (fanFault s)

/-- FAN_OK (R52): the fan period expiry that returns the fan status to OK (DEDUCED, log entry 6). -/
def fanOk (s : State) : State :=
  let t := fanPeriodExpiry s
  if s.thermal.fanFault && !t.thermal.fanFault then t else s

/-- Meaning of FAN_OK. -/
def execFanOk (s : State) : Host.Outcome State Fault Refusal := .next (fanOk s)

/-- TACH_PULSE (R48): the edge is counted for the current fan period; none is counted through a reset (Table 3-6). -/
def tachPulse (s : State) : State :=
  if s.thermal.fanTimer.isSome then s.withThermal { s.thermal with tach := s.thermal.tach + 1 } else s

/-- Meaning of TACH_PULSE. -/
def execTachPulse (s : State) : Host.Outcome State Fault Refusal := .next (tachPulse s)

/-! ### The filter watch (R53 to R55) -/

/-- The minute just ended is strained (R53). -/
def strained (s : State) : Bool :=
  match reading s s.settings.limits.board, reading s s.settings.limits.inlet with
  | some board, some inlet =>
    decide (s.settings.limits.highDuty ≤ s.thermal.fanDuty) && decide ((s.settings.limits.rise : Int) ≤ board - inlet)
  | _, _ => false

/-- The watch count after a minute's step (R53). -/
def watchStep (s : State) : Nat := if strained s then s.thermal.watch + 1 else s.thermal.watch - 1

/-- The FILTER status is set (R54). -/
def enterFilterService (s : State) : State :=
  raise .filter
    (appendLog .filterService (BitVec.ofNat 16 s.thermal.watch) (s.withThermal { s.thermal with filterSet := true }))

/-- One minute expiry (R53, R54): the timer restarts; while the FILTER status is set the count stands. -/
def minuteStep (s : State) : State :=
  let t := s.withThermal { s.thermal with minuteTimer := startTimer Config.minute }
  if t.thermal.filterSet then t
  else
    let u := t.withThermal { t.thermal with watch := watchStep t }
    if u.settings.limits.serviceCount ≤ u.thermal.watch then enterFilterService u else u

/-- MINUTE_EXPIRY (R53); the minute timer runs except through a reset. -/
def minuteExpiry (s : State) : State := if s.thermal.minuteTimer.isSome then minuteStep s else s

/-- Meaning of MINUTE_EXPIRY. -/
def execMinuteExpiry (s : State) : Host.Outcome State Fault Refusal := .next (minuteExpiry s)

/-- FILTER_SERVICE (R54): the minute expiry that sets the FILTER status (DEDUCED, log entry 6). -/
def filterService (s : State) : State :=
  let t := minuteExpiry s
  if !s.thermal.filterSet && t.thermal.filterSet then t else s

/-- Meaning of FILTER_SERVICE. -/
def execFilterService (s : State) : Host.Outcome State Fault Refusal := .next (filterService s)

/-- Clear Filter Service at its block (R55). -/
def clearFilterBody (payload : List Byte) (s : State) : State × Option (List Byte) :=
  match payload with
  | [] => (s.withThermal { s.thermal with watch := 0, filterSet := false }, some [statusByte .ok])
  | _ :: _ => refuse .badLength s

/-- CLEAR_FILTER_SERVICE (R55). -/
def clearFilterService (l : Link) (tag : Byte) (payload : List Byte) (s : State) : State :=
  answer l 0x17 tag (clearFilterBody payload) s

/-- Meaning of CLEAR_FILTER_SERVICE. -/
def execClearFilterService (l : Link) (tag : Byte) (payload : List Byte) (s : State) :
    Host.Outcome State Fault Refusal :=
  .next (clearFilterService l tag payload s)

/-! ### The overheat monitor (R56 to R58) -/

/-- The monitor is hot (R56). -/
def monitorHot (s : State) : Bool :=
  (maskReadings s s.settings.limits.overheatMask).any fun t => decide (s.settings.limits.tripTemperature ≤ t)

/-- The monitor is cool (R58): the mask holds a channel, and every channel of it reads VALID at or below the resume
temperature. -/
def monitorCool (s : State) : Bool :=
  let channels := maskChannels s.settings.limits.overheatMask
  !channels.isEmpty && channels.all fun c =>
    match reading s c with
    | some t => decide (t ≤ s.settings.limits.resumeTemperature)
    | none => false

/-- A check's timer: started at 0 with the hold in force, or advanced by 100 ms (R56, R58). -/
def countCheckTimer (t : Option Counter) (hold : Nat) : Counter :=
  match t with
  | none => ⟨0, hold * 1000⟩
  | some c => { c with elapsed := c.elapsed + Config.checkPeriod }

/-- The highest temperature of the overheat mask as a record's detail (Table 9-2). -/
def hottestDetail (s : State) : Half :=
  match hottest (maskReadings s s.settings.limits.overheatMask) with
  | some t => BitVec.ofInt 16 t
  | none => 0

/-- The overheat status becomes TRIPPED (R57): the heater cut, the gate blocked and start permitted withdrawn, THERMAL_TRIP,
THERMAL, the shutdown demand. Without a gate zone, start permitted is withdrawn all the same, until the next gate
evaluation (DEDUCED, log entry 31). A gate zone is one whose gate flag is set in the working copy now, also between a Set
Zone and the gate evaluation at which the new flag takes hold by R35 (DESIGN CHOICE, log entry 35). -/
def trip (s : State) : State :=
  let cut := s.withZones
    (Vector.ofFn fun z => blockZone s.settings.zones[z].gateFlag (cutZone s.zones[z]))
  let blocked := cut.withThermal
    { cut.thermal with
      tripped := true
      tripTimer := none
      resumeTimer := none
      startPermitted := false }
  shutdownDemand (raise .thermal (appendLog .thermalTrip (hottestDetail s) blocked))

/-- The overheat status returns to CLEAR (R58): THERMAL_RESUME, and the resume. -/
def clearTrip (s : State) : State :=
  resumeHost
    (appendLog .thermalResume (hottestDetail s)
      (s.withThermal { s.thermal with tripped := false, tripTimer := none, resumeTimer := none }))

/-- A check while the status is CLEAR (R56). -/
def checkClear (s : State) : State :=
  if monitorHot s then
    let c := countCheckTimer s.thermal.tripTimer s.settings.limits.tripHold
    if c.length ≤ c.elapsed then trip s else s.withThermal { s.thermal with tripTimer := some c }
  else s.withThermal { s.thermal with tripTimer := none }

/-- A check while the status is TRIPPED (R58). -/
def checkTripped (s : State) : State :=
  if monitorCool s then
    let c := countCheckTimer s.thermal.resumeTimer s.settings.limits.resumeHold
    if c.length ≤ c.elapsed then clearTrip s else s.withThermal { s.thermal with resumeTimer := some c }
  else s.withThermal { s.thermal with resumeTimer := none }

/-- One overheat check (R56, R58): the check timer restarts, and the status decides the test. -/
def checkStep (s : State) : State :=
  let t := s.withThermal { s.thermal with checkTimer := startTimer Config.checkPeriod }
  if t.thermal.tripped then checkTripped t else checkClear t

/-- OVERHEAT_CHECK (R56, R58); the check timer runs except through a reset. -/
def overheatCheck (s : State) : State := if s.thermal.checkTimer.isSome then checkStep s else s

/-- Meaning of OVERHEAT_CHECK. -/
def execOverheatCheck (s : State) : Host.Outcome State Fault Refusal := .next (overheatCheck s)

/-- THERMAL_TRIP (R57): the overheat check that trips the monitor (DEDUCED, log entry 6). -/
def thermalTrip (s : State) : State :=
  let t := overheatCheck s
  if !s.thermal.tripped && t.thermal.tripped then t else s

/-- Meaning of THERMAL_TRIP. -/
def execThermalTrip (s : State) : Host.Outcome State Fault Refusal := .next (thermalTrip s)

/-- THERMAL_RESUME (R58): the overheat check that clears the trip (DEDUCED, log entry 6). -/
def thermalResume (s : State) : State :=
  let t := overheatCheck s
  if s.thermal.tripped && !t.thermal.tripped then t else s

/-- Meaning of THERMAL_RESUME. -/
def execThermalResume (s : State) : Host.Outcome State Fault Refusal := .next (thermalResume s)

/-! ### SET_FAN (R59) -/

/-- The Set Fan payload (R59). -/
def fanPayload (f : FanSettings) : List Byte :=
  f.mask :: twoBytes f.minimum ++ twoBytes f.stallSpeed ++ [oneByte f.curve.length] ++ f.curve.flatMap pointBytes

/-- An applied Set Fan (R59): the group is replaced, and while HPWR_EN is on the present duty is raised to the new fan
minimum at once (R50). -/
def applyFan (f : FanSettings) (s : State) : State :=
  (s.withSettings { s.settings with fan := f }).withThermal
    { s.thermal with fanDuty := if s.seq.hpwrEn then max s.thermal.fanDuty f.minimum else s.thermal.fanDuty }

/-- Set Fan at its block, its tests in the order of R59. -/
def setFanBody (payload : List Byte) (s : State) : State × Option (List Byte) :=
  match payload with
  | mask :: m1 :: m0 :: s1 :: s0 :: count :: rest =>
    if count.toNat = 0 ∨ 4 < count.toNat then refuse .badValue s
    else if rest.length ≠ 4 * count.toNat then refuse .badLength s
    else
      let f : FanSettings :=
        ⟨mask, clampNat 0 1000 (readHalf m1 m0), clampNat 0 10000 (readHalf s1 s0),
          (readPoints rest).map (clampPoint 0 1000)⟩
      if ascending f.curve then
        (applyFan f s, some (statusByte (appliedStatus payload (fanPayload f)) :: fanPayload f))
      else refuse .badValue s
  | _ => refuse .badLength s

/-- SET_FAN (R59). -/
def setFan (l : Link) (tag : Byte) (payload : List Byte) (s : State) : State :=
  answer l 0x15 tag (setFanBody payload) s

/-- Meaning of SET_FAN. -/
def execSetFan (l : Link) (tag : Byte) (payload : List Byte) (s : State) : Host.Outcome State Fault Refusal :=
  .next (setFan l tag payload s)

/-! ### SET_THERMAL_LIMITS (R60, R61) -/

/-- The Set Thermal Limits payload (R60). -/
def limitsPayload (x : LimitSettings) (enable : Byte) : List Byte :=
  x.overheatMask :: signedBytes x.tripTemperature ++ [oneByte x.tripHold] ++ signedBytes x.resumeTemperature ++
    twoBytes x.resumeHold ++ twoBytes x.gateHold ++ [oneByte x.warmTimeout, flagByte x.warmStart] ++
    twoBytes x.highDuty ++ twoBytes x.rise ++ twoBytes x.serviceCount ++
    [oneByte x.board.val, oneByte x.inlet.val, enable]

/-- Set Thermal Limits at its block (R60): length, channels, clamping, then the two temperatures. -/
def setLimitsBody (payload : List Byte) (s : State) : State × Option (List Byte) :=
  match payload with
  | [mask, t1, t0, tripHold, r1, r0, h1, h0, g1, g0, warm, action, d1, d0, i1, i0, c1, c0, board, inlet, enable] =>
    match readIndex 8 board, readIndex 8 inlet with
    | some b, some i =>
      let x : LimitSettings :=
        { overheatMask := mask
          tripTemperature := clampInt (-550) 1250 (readSigned t1 t0)
          tripHold := clampNat 0 60 tripHold.toNat
          resumeTemperature := clampInt (-550) 1250 (readSigned r1 r0)
          resumeHold := clampNat 0 600 (readHalf h1 h0)
          gateHold := clampNat 0 600 (readHalf g1 g0)
          warmTimeout := clampNat 0 240 warm.toNat
          warmStart := decide (action ≠ 0)
          highDuty := clampNat 0 1000 (readHalf d1 d0)
          rise := clampNat 0 1000 (readHalf i1 i0)
          serviceCount := clampNat 1 10000 (readHalf c1 c0)
          board := b
          inlet := i }
      if x.tripTemperature ≤ x.resumeTemperature then refuse .badValue s
      else
        (s.withSettings { s.settings with limits := x, channelEnable := enable },
          some (statusByte (appliedStatus payload (limitsPayload x enable)) :: limitsPayload x enable))
    | _, _ => refuse .badValue s
  | _ => refuse .badLength s

/-- SET_THERMAL_LIMITS (R60, R61). -/
def setThermalLimits (l : Link) (tag : Byte) (payload : List Byte) (s : State) : State :=
  answer l 0x16 tag (setLimitsBody payload) s

/-- Meaning of SET_THERMAL_LIMITS. -/
def execSetThermalLimits (l : Link) (tag : Byte) (payload : List Byte) (s : State) :
    Host.Outcome State Fault Refusal :=
  .next (setThermalLimits l tag payload s)

end Sys2Proof.Machine
end

