-- ==== Sys2Proof/Machine/Hosting.lean ====
section
/-! DEFINITION. The commands of the Host Power Sequencer and the Restart Ladder (chapters 4 to 6): the HPG events, the
expiries of Table 4-2, CHECK_IN, START_HOST, POWER_OFF, RESTART, READY, DEFER, RELEASE_LOCKOUT, SET_LADDER, SET_TIMING.
An expiry of Table 4-2 is taken in the state that owns its timer, once the timer has run out; one that another event of the
same moment forestalled, by restarting the timer or by leaving the state, does not occur (R66, R93, R112; log entries 4
and 7). -/

namespace Sys2Proof.Machine

/-! ### HPG (R65, R71, R73) -/

/-- The level of HPG as last taken (R65). -/
def setPowerGood (b : Bool) (s : State) : State := s.withSeq { s.seq with hpg := b }

/-- HPG_RISE (R65, R71): the level is present; in STARTING/POWERING the reset hold starts; elsewhere, and through a reset,
nothing else changes (R84). A rise of a level that is already present is no event (DEDUCED, log entry 18). -/
def hpgRise (s : State) : State :=
  if s.seq.hpg then s
  else if s.resetting.isNone && decide (s.seq.state = .powering) then enterResetHold (setPowerGood true s)
  else setPowerGood true s

/-- Meaning of HPG_RISE. -/
def execHpgRise (s : State) : Host.Outcome State Fault Refusal := .next (hpgRise s)

/-- HPG_FALL (R65, R73): the level is absent; while HPWR_EN is on and no reset is in progress it is an HPG loss. -/
def hpgFall (s : State) : State :=
  if s.seq.hpg then
    if s.resetting.isNone && s.seq.hpwrEn then powerGoodLoss (setPowerGood false s) else setPowerGood false s
  else s

/-- Meaning of HPG_FALL. -/
def execHpgFall (s : State) : Host.Outcome State Fault Refusal := .next (hpgFall s)

/-! ### Expiries (Table 4-2; each once its timer has run out) -/

/-- HPG_TIMEOUT (R71): POWER_FAULT "HPG timeout", and the failure to the ladder (R74); it is never warned (R108). -/
def hpgTimeout (s : State) : State :=
  if decide (s.seq.state = .powering) && expired s.seq.timers.hpg then takeFailure .powerFault 0 .powerFault s else s

/-- Meaning of HPG_TIMEOUT. -/
def execHpgTimeout (s : State) : Host.Outcome State Fault Refusal := .next (hpgTimeout s)

/-- RESET_HOLD_EXPIRY (R72): STARTING/BOOTING, HRST_N released, the boot window started. -/
def resetHoldExpiry (s : State) : State :=
  if decide (s.seq.state = .resetHold) && expired s.seq.timers.resetHold then enterBooting s else s

/-- Meaning of RESET_HOLD_EXPIRY. -/
def execResetHoldExpiry (s : State) : Host.Outcome State Fault Refusal := .next (resetHoldExpiry s)

/-- BOOT_WINDOW_EXPIRY (R89): CHECKIN_TIMEOUT "boot", and the failure to the ladder. -/
def bootWindowExpiry (s : State) : State :=
  if decide (s.seq.state = .booting) && expired s.seq.timers.bootWindow then
    takeFailure .checkinTimeout 0 .checkinTimeout s
  else s

/-- Meaning of BOOT_WINDOW_EXPIRY. -/
def execBootWindowExpiry (s : State) : Host.Outcome State Fault Refusal := .next (bootWindowExpiry s)

/-- RUN_TIMEOUT_EXPIRY (R91): CHECKIN_TIMEOUT "run", and the failure to the ladder. -/
def runTimeoutExpiry (s : State) : State :=
  if decide (s.seq.state = .running) && expired s.seq.timers.run then takeFailure .checkinTimeout 1 .checkinTimeout s
  else s

/-- Meaning of RUN_TIMEOUT_EXPIRY. -/
def execRunTimeoutExpiry (s : State) : Host.Outcome State Fault Refusal := .next (runTimeoutExpiry s)

/-- STABILITY_EXPIRY (R94). -/
def stabilityExpiry (s : State) : State :=
  if decide (s.seq.state = .running) && expired s.seq.timers.stability then stabilityReached s else s

/-- Meaning of STABILITY_EXPIRY. -/
def execStabilityExpiry (s : State) : Host.Outcome State Fault Refusal := .next (stabilityExpiry s)

/-- GRACE_EXPIRY (R110): the pending action is carried out. -/
def graceExpiry (s : State) : State :=
  if decide (s.seq.state = .warned) && expired s.seq.timers.grace then carryOut s else s

/-- Meaning of GRACE_EXPIRY. -/
def execGraceExpiry (s : State) : Host.Outcome State Fault Refusal := .next (graceExpiry s)

/-- PULSE_TIMER_EXPIRY (R76): with HPG present STARTING/BOOTING, boot stage 0; with HPG absent an HPG loss. -/
def pulseTimerExpiry (s : State) : State :=
  if decide (s.seq.state = .resetPulse) && expired s.seq.timers.pulse then
    if s.seq.hpg then setStage 0 (enterBooting s) else powerGoodFailure s
  else s

/-- Meaning of PULSE_TIMER_EXPIRY. -/
def execPulseTimerExpiry (s : State) : Host.Outcome State Fault Refusal := .next (pulseTimerExpiry s)

/-- OFF_INTERVAL_EXPIRY (R77): WARMING, or OFF with POWER_OFF "unpowered" when the off-requested flag is set. -/
def offIntervalExpiry (s : State) : State :=
  if decide (s.seq.state = .powerDown) && expired s.seq.timers.offInterval then
    if offRequested s then enterOff 3 s else enterWarming s
  else s

/-- Meaning of OFF_INTERVAL_EXPIRY. -/
def execOffIntervalExpiry (s : State) : Host.Outcome State Fault Refusal := .next (offIntervalExpiry s)

/-- POWER_OFF_TIMER_EXPIRY (R80): OFF with POWER_OFF "delay". -/
def powerOffTimerExpiry (s : State) : State :=
  if decide (s.seq.state = .stopping) && expired s.seq.timers.powerOff then enterOff 0 s else s

/-- Meaning of POWER_OFF_TIMER_EXPIRY. -/
def execPowerOffTimerExpiry (s : State) : Host.Outcome State Fault Refusal := .next (powerOffTimerExpiry s)

/-! ### CHECK_IN (R87 to R92, R113) -/

/-- A stray Check-In is discarded and counted (R87). -/
def strayCheckIn (l : Link) (s : State) : State :=
  s.withLink l { s.link l with strays := bump (s.link l).strays }

/-- A Check-In in STARTING/BOOTING: at or above the confirm stage it confirms the boot (R90). -/
def checkInBooting (stage : Nat) (s : State) : State :=
  if s.settings.timing.confirmStage ≤ stage then enterRunning .bootConfirmed (BitVec.ofNat 16 stage) s else s

/-- A Check-In in RUNNING: stage 0 announces a reboot (R92); any other restarts the run timeout (R91). -/
def checkInRunning (stage : Nat) (s : State) : State :=
  if stage = 0 then appendLog .hostReboot 0 (enterBooting s) else startRunTimeout s

/-- A Check-In in WARNED: at or above the confirm stage it cancels a CHECKIN_TIMEOUT warning (R113). -/
def checkInWarned (stage : Nat) (s : State) : State :=
  match s.seq.warning with
  | some w =>
    if w.cause = .checkinTimeout ∧ s.settings.timing.confirmStage ≤ stage then enterRunning .warningCancelled 0 s else s
  | none => s

/-- A Check-In of a stage on the host link, by state (Table 5-1): where it is taken the stage is recorded first (R88). -/
def takeCheckIn (stage : Nat) (s : State) : State :=
  match s.seq.state with
  | .booting => checkInBooting stage (setStage stage s)
  | .running => checkInRunning stage (setStage stage s)
  | .warned => checkInWarned stage (setStage stage s)
  | .off => strayCheckIn .host s
  | .warming => strayCheckIn .host s
  | .powering => strayCheckIn .host s
  | .resetHold => strayCheckIn .host s
  | .resetPulse => strayCheckIn .host s
  | .powerDown => strayCheckIn .host s
  | .stopping => strayCheckIn .host s
  | .cooling => strayCheckIn .host s
  | .lockedOut => strayCheckIn .host s

/-- CHECK_IN (R87, R88): posted, handed on also while the link waits (R166, test 3), never answered. -/
def checkIn (l : Link) (_tag : Byte) (payload : List Byte) (s : State) : State :=
  if receiving s then
    match l, payload with
    | .host, [stage] =>
      if stage.toNat ≤ 15 then takeCheckIn stage.toNat (setReceiver .host .hunting s)
      else strayCheckIn .host (setReceiver .host .hunting s)
    | l, _ => strayCheckIn l (setReceiver l .hunting s)
  else s

/-- Meaning of CHECK_IN. -/
def execCheckIn (l : Link) (tag : Byte) (payload : List Byte) (s : State) : Host.Outcome State Fault Refusal :=
  .next (checkIn l tag payload s)

/-! ### START_HOST (R68) and RELEASE_LOCKOUT (R102) -/

/-- Start Host at its block (R68). -/
def startHostBody (payload : List Byte) (s : State) : State × Option (List Byte) :=
  match payload with
  | [] => if s.seq.state = .off then (enterWarming s, some [statusByte .ok]) else refuse .notNow s
  | _ :: _ => refuse .badLength s

/-- START_HOST (R68). -/
def startHost (l : Link) (tag : Byte) (payload : List Byte) (s : State) : State :=
  answer l 0x09 tag (startHostBody payload) s

/-- Meaning of START_HOST. -/
def execStartHost (l : Link) (tag : Byte) (payload : List Byte) (s : State) : Host.Outcome State Fault Refusal :=
  .next (startHost l tag payload s)

/-- Release Lockout at its block (R102). -/
def releaseLockoutBody (payload : List Byte) (s : State) : State × Option (List Byte) :=
  match payload with
  | [] => if s.seq.state = .lockedOut then (releaseLockedOut 0 s, some [statusByte .ok]) else refuse .notNow s
  | _ :: _ => refuse .badLength s

/-- RELEASE_LOCKOUT (R102). -/
def releaseLockout (l : Link) (tag : Byte) (payload : List Byte) (s : State) : State :=
  answer l 0x0E tag (releaseLockoutBody payload) s

/-- Meaning of RELEASE_LOCKOUT. -/
def execReleaseLockout (l : Link) (tag : Byte) (payload : List Byte) (s : State) : Host.Outcome State Fault Refusal :=
  .next (releaseLockout l tag payload s)

/-! ### POWER_OFF (R79, R80, R119) -/

/-- The length of the power-off timer, in ms: from a thermal warning at most the grace remaining (R119). -/
def stopLength (delay : Nat) (s : State) : Nat :=
  if decide (s.seq.state = .warned) && warnedThermal s then min (delay * 1000) (graceLeft s) else delay * 1000

/-- Power Off taken while the computer is powered (R79, R80): STOPPING; from WARNED the warning is dropped with
WARNING_CANCELLED "power off" (R119, DEDUCED, log entry 11). -/
def stopHost (delay : Nat) (s : State) : State :=
  let entered := enterState .stopping s
  startStopTimer (stopLength delay s)
    (if s.seq.state = .warned then appendLog .warningCancelled 1 entered else entered)

/-- The off-requested flag is set (R79). -/
def requestOff (s : State) : State :=
  s.withSeq { s.seq with restart := s.seq.restart.map fun r => { r with offRequested := true } }

/-- Power Off by state (R79); none where it is answered NOT_NOW. -/
def powerOffEffect (delay : Nat) (s : State) : Option State :=
  match s.seq.state with
  | .powering => some (stopHost delay s)
  | .resetHold => some (stopHost delay s)
  | .booting => some (stopHost delay s)
  | .running => some (stopHost delay s)
  | .warned => some (stopHost delay s)
  | .stopping => some (startStopTimer (delay * 1000) s)
  | .warming => some (enterOff 3 s)
  | .cooling => some (enterOff 3 s)
  | .powerDown => some (requestOff s)
  | .resetPulse => none
  | .off => none
  | .lockedOut => none

/-- Power Off at its block (R79). -/
def powerOffBody (payload : List Byte) (s : State) : State × Option (List Byte) :=
  match payload with
  | [d1, d0] =>
    let delay := clampNat 0 600 (readHalf d1 d0)
    match powerOffEffect delay s with
    | some t => (t, some (statusByte (appliedStatus payload (twoBytes delay)) :: twoBytes delay))
    | none => refuse .notNow s
  | _ => refuse .badLength s

/-- POWER_OFF (R79). -/
def powerOff (l : Link) (tag : Byte) (payload : List Byte) (s : State) : State :=
  answer l 0x0A tag (powerOffBody payload) s

/-- Meaning of POWER_OFF. -/
def execPowerOff (l : Link) (tag : Byte) (payload : List Byte) (s : State) : Host.Outcome State Fault Refusal :=
  .next (powerOff l tag payload s)

/-! ### RESTART (R78) -/

/-- Restart at its block: length, action, then the state (R78). The clamping of the off interval is applied for WARM too. -/
def restartBody (payload : List Byte) (s : State) : State × Option (List Byte) :=
  match payload with
  | [action, o1, o0] =>
    if 1 < action.toNat then refuse .badValue s
    else if s.seq.state = .booting ∨ s.seq.state = .running then
      let off := clampNat 1 3600 (readHalf o1 o0)
      (enterRestarting (if action = 0 then .warm else .cold) off .request s,
        some (statusByte (appliedStatus payload (action :: twoBytes off)) :: action :: twoBytes off))
    else refuse .notNow s
  | _ => refuse .badLength s

/-- RESTART (R78). -/
def restart (l : Link) (tag : Byte) (payload : List Byte) (s : State) : State :=
  answer l 0x0B tag (restartBody payload) s

/-- Meaning of RESTART. -/
def execRestart (l : Link) (tag : Byte) (payload : List Byte) (s : State) : Host.Outcome State Fault Refusal :=
  .next (restart l tag payload s)

/-! ### READY (R111) and DEFER (R112) -/

/-- Ready at dispatch and at its block: the link (R166, test 5), the length, then the state (R111). -/
def readyBody (l : Link) (payload : List Byte) (s : State) : State × Option (List Byte) :=
  match l, payload with
  | .service, _ => refuse .wrongLink s
  | .host, [] => if s.seq.state = .warned then (carryOut s, some [statusByte .ok]) else refuse .notNow s
  | .host, _ :: _ => refuse .badLength s

/-- READY (R111). -/
def ready (l : Link) (tag : Byte) (payload : List Byte) (s : State) : State :=
  answer l 0x0C tag (readyBody l payload) s

/-- Meaning of READY. -/
def execReady (l : Link) (tag : Byte) (payload : List Byte) (s : State) : Host.Outcome State Fault Refusal :=
  .next (ready l tag payload s)

/-- The defers left on the warning outstanding, 0 when Defer is not permitted. -/
def defersAvailable (s : State) : Nat :=
  match s.seq.warning with
  | some w => if w.deferPermitted then w.defersLeft else 0
  | none => 0

/-- A granted Defer (R112): the grace restarts with the defer step in force, one defer is used, WARNING_DEFERRED is
appended. -/
def grantDefer (s : State) : State :=
  appendLog .warningDeferred (BitVec.ofNat 16 (defersAvailable s - 1))
    (s.withSeq
      { s.seq with
        timers := { s.seq.timers with grace := startTimer (s.settings.timing.deferStep * 1000) }
        warning := s.seq.warning.map fun w => { w with defersLeft := w.defersLeft - 1 } })

/-- Defer at dispatch and at its block (R112). With a defer step of 0 the grace expires at once and the action follows the
reply, so the reply is handed over here. -/
def deferBody (l : Link) (tag : Byte) (payload : List Byte) (s : State) : State × Option (List Byte) :=
  match l, payload with
  | .service, _ => refuse .wrongLink s
  | .host, [] =>
    if s.seq.state = .warned ∧ 0 < defersAvailable s then
      let reply := statusByte .ok :: twoBytes s.settings.timing.deferStep ++ [oneByte (defersAvailable s - 1)]
      if s.settings.timing.deferStep = 0 then (carryOut (sendReply .host 0x0D tag reply (grantDefer s)), none)
      else (grantDefer s, some reply)
    else refuse .notNow s
  | .host, _ :: _ => refuse .badLength s

/-- DEFER (R112). -/
def defer (l : Link) (tag : Byte) (payload : List Byte) (s : State) : State :=
  answer l 0x0D tag (deferBody l tag payload) s

/-- Meaning of DEFER. -/
def execDefer (l : Link) (tag : Byte) (payload : List Byte) (s : State) : Host.Outcome State Fault Refusal :=
  .next (defer l tag payload s)

/-! ### SET_LADDER (R103) -/

/-- The rungs of a Set Ladder payload, clamped (R103, step 5). -/
def readRungs : List Byte → List Rung
  | action :: attempts :: o1 :: o0 :: flags :: rest =>
    ⟨if action = 0 then .warm else .cold, clampNat 1 7 attempts.toNat, clampNat 1 3600 (readHalf o1 o0),
      flags.getLsbD 0, flags.getLsbD 1⟩ :: readRungs rest
  | _ => []

/-- A rung's five bytes (R103). -/
def rungBytes (r : Rung) : List Byte :=
  [match r.action with
    | .warm => 0
    | .cold => 1,
    oneByte r.attempts] ++ twoBytes r.offInterval ++ [flagByte r.warn ||| (flagByte r.flip <<< 1)]

/-- The Set Ladder payload (R103). -/
def ladderPayload (rungs : List Rung) : List Byte := oneByte rungs.length :: rungs.flatMap rungBytes

/-- The action in hand was taken from the present table: WARNED and RESTARTING (R103, test 4). -/
def actionInHand (st : SupervisorState) : Bool :=
  decide (st = .warned ∨ st = .resetPulse ∨ st = .powerDown)

/-- Set Ladder at its block, its tests in the order of R103. -/
def setLadderBody (payload : List Byte) (s : State) : State × Option (List Byte) :=
  match payload with
  | [] => refuse .badLength s
  | count :: rest =>
    if count.toNat = 0 ∨ 6 < count.toNat then refuse .badValue s
    else if rest.length ≠ 5 * count.toNat then refuse .badLength s
    else if actionInHand s.seq.state then refuse .notNow s
    else
      (ladderReset (s.withSettings { s.settings with ladder := readRungs rest }),
        some (statusByte (appliedStatus payload (ladderPayload (readRungs rest))) :: ladderPayload (readRungs rest)))

/-- SET_LADDER (R103). -/
def setLadder (l : Link) (tag : Byte) (payload : List Byte) (s : State) : State :=
  answer l 0x1B tag (setLadderBody payload) s

/-- Meaning of SET_LADDER. -/
def execSetLadder (l : Link) (tag : Byte) (payload : List Byte) (s : State) : Host.Outcome State Fault Refusal :=
  .next (setLadder l tag payload s)

/-! ### SET_TIMING (R104, R105) -/

/-- The Set Timing payload (Table 5-5). -/
def timingPayload (t : TimingSettings) : List Byte :=
  twoBytes t.bootWindow ++ twoBytes t.runTimeout ++ [oneByte t.confirmStage] ++ twoBytes t.stability ++
    twoBytes t.hpgTimeout ++ twoBytes t.resetHold ++ twoBytes t.warmPulse ++ twoBytes t.warningGrace ++
    twoBytes t.deferStep ++ [oneByte t.deferLimit, oneByte t.thermalGrace, flagByte t.autostart]

/-- Set Timing at its block (R104): every field is clamped to its range. -/
def setTimingBody (payload : List Byte) (s : State) : State × Option (List Byte) :=
  match payload with
  | [b1, b0, r1, r0, confirm, s1, s0, h1, h0, d1, d0, p1, p0, g1, g0, e1, e0, limit, grace, auto] =>
    let t : TimingSettings :=
      { bootWindow := clampNat 10 1800 (readHalf b1 b0)
        runTimeout := clampNat 1 600 (readHalf r1 r0)
        confirmStage := clampNat 1 15 confirm.toNat
        stability := clampNat 0 3600 (readHalf s1 s0)
        hpgTimeout := clampNat 10 5000 (readHalf h1 h0)
        resetHold := clampNat 10 2000 (readHalf d1 d0)
        warmPulse := clampNat 10 2000 (readHalf p1 p0)
        warningGrace := clampNat 0 300 (readHalf g1 g0)
        deferStep := clampNat 0 600 (readHalf e1 e0)
        deferLimit := clampNat 0 7 limit.toNat
        thermalGrace := clampNat 0 60 grace.toNat
        autostart := decide (auto ≠ 0) }
    (s.withSettings { s.settings with timing := t },
      some (statusByte (appliedStatus payload (timingPayload t)) :: timingPayload t))
  | _ => refuse .badLength s

/-- SET_TIMING (R104, R105). -/
def setTiming (l : Link) (tag : Byte) (payload : List Byte) (s : State) : State :=
  answer l 0x1C tag (setTimingBody payload) s

/-- Meaning of SET_TIMING. -/
def execSetTiming (l : Link) (tag : Byte) (payload : List Byte) (s : State) : Host.Outcome State Fault Refusal :=
  .next (setTiming l tag payload s)

end Sys2Proof.Machine
end

