-- ==== Sys2Proof/Machine/KeypadScan.lean ====
section
/-! DEFINITION. The Keypad Scanner and the chords (chapters 7 and 8): ROW_DWELL_END, SCAN_COMPLETION, PRESS_ACCEPTED,
RELEASE_ACCEPTED, KEY_REPEAT, KEY_STUCK, CHORD_FIRE, SET_KEYPAD, SET_KEY_ENTRIES, SET_CHORD, READ_KEYS. -/

namespace Sys2Proof.Machine

/-! ### Rows and columns (R121, R126) -/

/-- The row of a position (chapter 7.1). -/
def rowOf (p : Position) : Nat := p.val / 6

/-- The column of a position (chapter 7.1). -/
def columnOf (p : Position) : Nat := p.val % 6

/-- The position at a crossing (chapter 7.1). -/
def crossing (row : Fin 8) (column : Fin 6) : Position := ⟨row.val * 6 + column.val, by omega⟩

/-- The raw states of a row's six positions are sampled at the end of its dwell (R121). -/
def sampleRow (row : Fin 8) (columns : Columns) (positions : Vector KeyPosition 48) : Vector KeyPosition 48 :=
  Vector.ofFn fun p =>
    if rowOf p = row.val then { positions[p] with raw := columns.getLsbD (columnOf p) } else positions[p]

/-- ROW_DWELL_END (R121): the row is sampled and the next row is driven; the end of the ROW7 dwell is the scan completion
instead. -/
def rowDwellEnd (columns : Columns) (s : State) : State :=
  match s.keypad.row with
  | some row =>
    if h : row.val < 7 then
      s.withKeypad
        { s.keypad with
          positions := sampleRow row columns s.keypad.positions
          row := some ⟨row.val + 1, by omega⟩ }
    else s
  | none => s

/-- Meaning of ROW_DWELL_END. -/
def execRowDwellEnd (columns : Columns) (s : State) : Host.Outcome State Fault Refusal :=
  .next (rowDwellEnd columns s)

/-! ### Due changes and the ambiguity hold (R125, R126) -/

/-- The change count of a position at a scan completion, before any acceptance (R125). -/
def countChange (p : KeyPosition) : KeyPosition :=
  { p with count := if p.raw = p.debounced then 0 else p.count + 1 }

/-- A counted change is due (R125). -/
def changeDue (n : Nat) (p : KeyPosition) : Bool :=
  decide (p.raw ≠ p.debounced) && decide (n ≤ p.count)

/-- A due change from up to down (R125). -/
def pressDue (n : Nat) (p : KeyPosition) : Bool := changeDue n p && !p.debounced

/-- A due change from down to up (R125). -/
def releaseDue (n : Nat) (p : KeyPosition) : Bool := changeDue n p && p.debounced

/-- A position belongs to the candidate down-set (R126). -/
def candidate (n : Nat) (p : KeyPosition) : Bool := (p.debounced && !releaseDue n p) || pressDue n p

/-- At least three of four hold. -/
def threeOfFour (a b c d : Bool) : Bool := decide (3 ≤ a.toNat + b.toNat + c.toNat + d.toNat)

/-- A set of positions holds at least three of the four positions of some rectangle (R126). -/
def holdsThreeCorners (set : Position → Bool) : Bool :=
  (List.finRange 8).any fun r => (List.finRange 8).any fun q => decide (r < q) &&
    (List.finRange 6).any fun c => (List.finRange 6).any fun d => decide (c < d) &&
      threeOfFour (set (crossing r c)) (set (crossing r d)) (set (crossing q c)) (set (crossing q d))

/-- The matrix is ambiguous at this scan completion (R126), the positions being counted. -/
def ambiguous (n : Nat) (positions : Vector KeyPosition 48) : Bool :=
  holdsThreeCorners fun p => candidate n positions[p]

/-! ### Acceptances (R127, R128, R131) -/

/-- One position's record replaced. -/
def setPosition (p : Position) (x : KeyPosition) (s : State) : State :=
  s.withKeypad { s.keypad with positions := put s.keypad.positions p x }

/-- The event of an accepted release (R128, R131). -/
def releaseEvent (p : Position) (suppressed : Bool) (s : State) : State :=
  let key := s.settings.keys[p]
  if key.enabled then keyEvent (if suppressed then .unstuck p key.code else .release p key.code) s else s

/-- A release is accepted (R127, step 2). -/
def acceptRelease (p : Position) (s : State) : State :=
  let old := s.keypad.positions[p]
  let t := setPosition p { old with debounced := false, count := 0, suppressed := false, hold := none } s
  releaseEvent p old.suppressed (t.withKeypad { t.keypad with held := t.keypad.held.filter fun q => q ≠ p })

/-- The event of an accepted press, or the count of a refused keystroke (R128). -/
def pressEvent (p : Position) (s : State) : State :=
  let key := s.settings.keys[p]
  if key.enabled then keyEvent (.press p key.code) s
  else s.withKeypad { s.keypad with refused := bump s.keypad.refused }

/-- The hold timer of an accepted press (R130): started unless the stuck time is 0. -/
def holdTimer (stuckTime : Nat) : Option Timer :=
  if stuckTime = 0 then none else startTimer (stuckTime * 1000)

/-- A press is accepted (R127, step 3). -/
def acceptPress (p : Position) (s : State) : State :=
  let old := s.keypad.positions[p]
  let t := setPosition p
    { old with debounced := true, count := 0, hold := holdTimer s.settings.keypad.stuckTime } s
  pressEvent p (t.withKeypad { t.keypad with held := t.keypad.held ++ [p] })

/-- A press is deferred: its count is held at N (R126). -/
def deferPress (p : Position) (s : State) : State :=
  setPosition p { s.keypad.positions[p] with count := s.keypad.debounceCount } s

/-- The positions with a property, in ascending number. -/
def positionsWith (property : Position → Bool) : List Position := (List.finRange 48).filter property

/-! ### Stuck keys, repeat, chords (R129, R130, R139 to R141) -/

/-- A key is made stuck (R130). -/
def makeStuck (p : Position) (s : State) : State :=
  let t := setPosition p { s.keypad.positions[p] with suppressed := true, hold := none } s
  let key := s.settings.keys[p]
  if key.enabled then keyEvent (.stuck p key.code) t else t

/-- A held key whose hold timer has reached its length (R130). -/
def stuckDue (p : KeyPosition) : Bool := p.debounced && !p.suppressed && expired p.hold

/-- The target may repeat (R129). -/
def repeatEligible (p : Position) (s : State) : Bool :=
  s.settings.keys[p].enabled && s.settings.keys[p].repeats && !s.keypad.positions[p].suppressed

/-- The repeat target: the tail of the held list (R129). -/
def repeatTarget (held : List Position) : Option Position := held.getLast?

/-- The unchanged target's timer has expired: a REPEAT when it is eligible, and the timer restarts with the interval
(R129). -/
def repeatExpired (p : Position) (s : State) : State :=
  let t := s.withKeypad { s.keypad with repeatTimer := startTimer s.settings.keypad.repeatInterval }
  if repeatEligible p s then keyEvent (.repeated p s.settings.keys[p].code) t else t

/-- Step 5 of R127: the repeat target and the repeat timer (R129). -/
def repeatStep (s : State) : State :=
  let target := repeatTarget s.keypad.held
  if target = s.keypad.target then
    match target with
    | some p => if expired s.keypad.repeatTimer then repeatExpired p s else s
    | none => s
  else
    s.withKeypad
      { s.keypad with
        target := target
        repeatTimer := if target.isSome then startTimer s.settings.keypad.repeatDelay else none }

/-- The set D handed to chord matching: the debounced-down positions that are not suppressed (R139). -/
def downSet (positions : Vector KeyPosition 48) : BitVec 48 :=
  (List.finRange 48).foldl
    (fun d p => if positions[p].debounced && !positions[p].suppressed then d ||| (1 <<< p.val) else d) 0

/-- A chord entry matches the set D (R139). -/
def chordMatches (c : ChordSettings) (d : BitVec 48) : Bool := decide (d &&& ~~~c.ignored = c.members)

/-- A chord's runtime state replaced. -/
def setChordState (i : ChordIndex) (x : ChordState) (s : State) : State := s.withChords (put s.chords i x)

/-- The detail of a CHORD record (Table 9-2). -/
def chordDetail (i : ChordIndex) (applied : Bool) : Half :=
  BitVec.ofNat 16 (i.val * 256 + if applied then 1 else 0)

/-- A chord entry fires (R141): the CHORD event, the sequencer's decision, the CHORD record in the state of the decision,
and then the change of state of an applied action. -/
def fireChord (i : ChordIndex) (s : State) : State :=
  let action := s.settings.chords[i].action
  let t := keyEvent (.chord i) (setChordState i ⟨.fired, none⟩ s)
  let applied := chordApplies action t.seq.state
  let u := appendLog .chord (chordDetail i applied) t
  if applied then applyChord action u else u

/-- One chord entry at a scan completion (R140, Table 8-4). -/
def chordStep (d : BitVec 48) (s : State) (i : ChordIndex) : State :=
  let c := s.chords[i]
  match c.phase, chordMatches s.settings.chords[i] d with
  | .idle, true => setChordState i ⟨.holding, startTimer s.settings.chords[i].hold⟩ s
  | .idle, false => s
  | .holding, true => if expired c.hold then fireChord i s else s
  | .holding, false => setChordState i ⟨.idle, none⟩ s
  | .fired, true => s
  | .fired, false => setChordState i ⟨.idle, none⟩ s

/-! ### SCAN_COMPLETION (R127) -/

/-- The end of the ROW7 dwell: the row is sampled, every change is counted (R125), and the next cycle begins at ROW0 with
the settle time in force (R122). -/
def sampleLastRow (columns : Columns) (s : State) : State :=
  s.withKeypad
    { s.keypad with
      positions := mapEach countChange (sampleRow 7 columns s.keypad.positions)
      row := some 0
      settle := s.settings.keypad.settle }

/-- Steps 2 and 3 of R127, by the due changes of the counted positions. -/
def acceptChanges (s : State) : State :=
  let n := s.keypad.debounceCount
  let due := s.keypad.positions
  let released := (positionsWith fun p => releaseDue n due[p]).foldl (fun t p => acceptRelease p t) s
  let presses := positionsWith fun p => pressDue n due[p]
  if ambiguous n due then presses.foldl (fun t p => deferPress p t) released
  else presses.foldl (fun t p => acceptPress p t) released

/-- Step 4 of R127. -/
def stickKeys (s : State) : State :=
  (positionsWith fun p => stuckDue s.keypad.positions[p]).foldl (fun t p => makeStuck p t) s

/-- Step 6 of R127: the chord entries in index order, against the set D of this scan completion (R139, R140). -/
def matchChords (s : State) : State :=
  (List.finRange 4).foldl (chordStep (downSet s.keypad.positions)) s

/-- One scan completion, as one update (R127). -/
def completeCycle (columns : Columns) (s : State) : State :=
  matchChords (repeatStep (stickKeys (acceptChanges (sampleLastRow columns s))))

/-- SCAN_COMPLETION (R127): the dwell that ends is that of ROW7; otherwise the event does not occur (DESIGN CHOICE, log entry 7). -/
def scanCompletion (columns : Columns) (s : State) : State :=
  if s.keypad.row = some 7 then completeCycle columns s else s

/-- Meaning of SCAN_COMPLETION. -/
def execScanCompletion (columns : Columns) (s : State) : Host.Outcome State Fault Refusal :=
  .next (scanCompletion columns s)

/-! ### The rows named by an outcome of a scan completion (DESIGN CHOICE and DEDUCED, log entries 4 and 6) -/

/-- PRESS_ACCEPTED (R128): the scan completion that accepts the press of the position. -/
def pressAccepted (p : Position) (columns : Columns) (s : State) : State :=
  let t := scanCompletion columns s
  if !s.keypad.positions[p].debounced && t.keypad.positions[p].debounced then t else s

/-- Meaning of PRESS_ACCEPTED. -/
def execPressAccepted (p : Position) (columns : Columns) (s : State) : Host.Outcome State Fault Refusal :=
  .next (pressAccepted p columns s)

/-- RELEASE_ACCEPTED (R128, R131): the scan completion that accepts the release of the position. -/
def releaseAccepted (p : Position) (columns : Columns) (s : State) : State :=
  let t := scanCompletion columns s
  if s.keypad.positions[p].debounced && !t.keypad.positions[p].debounced then t else s

/-- Meaning of RELEASE_ACCEPTED. -/
def execReleaseAccepted (p : Position) (columns : Columns) (s : State) : Host.Outcome State Fault Refusal :=
  .next (releaseAccepted p columns s)

/-- KEY_REPEAT (R129): the repeat timer runs out; at the scan completion that follows, the target is unchanged and
eligible, and REPEAT is produced. -/
def keyRepeat (columns : Columns) (s : State) : State :=
  let ended := s.withKeypad { s.keypad with repeatTimer := runOut s.keypad.repeatTimer }
  let t := scanCompletion columns ended
  match s.keypad.target with
  | some p =>
    if decide (s.keypad.row = some 7) && s.keypad.repeatTimer.isSome && decide (t.keypad.target = some p) &&
        repeatEligible p t then t
    else s
  | none => s

/-- Meaning of KEY_REPEAT. -/
def execKeyRepeat (columns : Columns) (s : State) : Host.Outcome State Fault Refusal :=
  .next (keyRepeat columns s)

/-- KEY_STUCK (R130): the position's hold timer runs out; the scan completion that follows makes the key stuck. -/
def keyStuck (p : Position) (columns : Columns) (s : State) : State :=
  let t := scanCompletion columns
    (setPosition p { s.keypad.positions[p] with hold := runOut s.keypad.positions[p].hold } s)
  if !s.keypad.positions[p].suppressed && t.keypad.positions[p].suppressed then t else s

/-- Meaning of KEY_STUCK. -/
def execKeyStuck (p : Position) (columns : Columns) (s : State) : Host.Outcome State Fault Refusal :=
  .next (keyStuck p columns s)

/-- CHORD_FIRE (R141): the entry's hold timer runs out; at the scan completion that follows it still matches, and it
fires. -/
def chordFire (i : ChordIndex) (columns : Columns) (s : State) : State :=
  let t := scanCompletion columns (setChordState i { s.chords[i] with hold := runOut s.chords[i].hold } s)
  if decide (s.chords[i].phase = .holding) && decide (t.chords[i].phase = .fired) then t else s

/-- Meaning of CHORD_FIRE. -/
def execChordFire (i : ChordIndex) (columns : Columns) (s : State) : Host.Outcome State Fault Refusal :=
  .next (chordFire i columns s)

/-! ### SET_KEYPAD (R132, R133) -/

/-- The Set Keypad payload (R132). -/
def keypadPayload (k : KeypadSettings) : List Byte :=
  twoBytes k.settle ++ twoBytes k.repeatDelay ++ twoBytes k.repeatInterval ++ twoBytes k.stuckTime ++
    [oneByte k.channel.val, oneByte k.curve.length] ++ k.curve.flatMap pointBytes

/-- Set Keypad at its block, its tests in the order of R132; an applied one recomputes N at once (R133). -/
def setKeypadBody (payload : List Byte) (s : State) : State × Option (List Byte) :=
  match payload with
  | t1 :: t0 :: d1 :: d0 :: i1 :: i0 :: k1 :: k0 :: channel :: count :: rest =>
    match readIndex 8 channel with
    | none => refuse .badValue s
    | some c =>
      if count.toNat = 0 ∨ 4 < count.toNat then refuse .badValue s
      else if rest.length ≠ 4 * count.toNat then refuse .badLength s
      else
        let k : KeypadSettings :=
          { settle := clampNat 20 500 (readHalf t1 t0)
            repeatDelay := clampNat 100 2000 (readHalf d1 d0)
            repeatInterval := clampNat 20 1000 (readHalf i1 i0)
            stuckTime := clampNat 0 600 (readHalf k1 k0)
            channel := c
            curve := (readPoints rest).map (clampPoint 2 100) }
        if ascending k.curve then
          (recomputeDebounce (s.withSettings { s.settings with keypad := k }),
            some (statusByte (appliedStatus payload (keypadPayload k)) :: keypadPayload k))
        else refuse .badValue s
  | _ => refuse .badLength s

/-- SET_KEYPAD (R132, R133). -/
def setKeypad (l : Link) (tag : Byte) (payload : List Byte) (s : State) : State :=
  answer l 0x18 tag (setKeypadBody payload) s

/-- Meaning of SET_KEYPAD. -/
def execSetKeypad (l : Link) (tag : Byte) (payload : List Byte) (s : State) : Host.Outcome State Fault Refusal :=
  .next (setKeypad l tag payload s)

/-! ### SET_KEY_ENTRIES (R134) -/

/-- The entries of a Set Key Entries payload; the other flag bits are cleared (R134). -/
def readKeyEntries : List Byte → List KeyEntry
  | code :: flags :: rest => ⟨code, flags.getLsbD 0, flags.getLsbD 1⟩ :: readKeyEntries rest
  | _ => []

/-- A key table entry's two bytes (R134). -/
def keyEntryBytes (k : KeyEntry) : List Byte := [k.code, flagByte k.enabled ||| (flagByte k.repeats <<< 1)]

/-- The Set Key Entries payload (R134). -/
def keyEntriesPayload (first : Nat) (entries : List KeyEntry) : List Byte :=
  [oneByte first, oneByte entries.length] ++ entries.flatMap keyEntryBytes

/-- The key table with a run of entries replaced (R134). -/
def replaceKeys (first : Nat) (entries : List KeyEntry) (keys : Vector KeyEntry 48) : Vector KeyEntry 48 :=
  Vector.ofFn fun p => if first ≤ p.val then (entries[p.val - first]?).getD keys[p] else keys[p]

/-- Set Key Entries at its block, its tests in the order of R134. -/
def setKeyEntriesBody (payload : List Byte) (s : State) : State × Option (List Byte) :=
  match payload with
  | first :: count :: rest =>
    if 47 < first.toNat ∨ count.toNat = 0 ∨ 48 < first.toNat + count.toNat then refuse .badValue s
    else if rest.length ≠ 2 * count.toNat then refuse .badLength s
    else
      let entries := readKeyEntries rest
      (s.withSettings { s.settings with keys := replaceKeys first.toNat entries s.settings.keys },
        some (statusByte (appliedStatus payload (keyEntriesPayload first.toNat entries)) ::
          keyEntriesPayload first.toNat entries))
  | _ => refuse .badLength s

/-- SET_KEY_ENTRIES (R134). -/
def setKeyEntries (l : Link) (tag : Byte) (payload : List Byte) (s : State) : State :=
  answer l 0x19 tag (setKeyEntriesBody payload) s

/-- Meaning of SET_KEY_ENTRIES. -/
def execSetKeyEntries (l : Link) (tag : Byte) (payload : List Byte) (s : State) : Host.Outcome State Fault Refusal :=
  .next (setKeyEntries l tag payload s)

/-! ### SET_CHORD (R148, R149) -/

/-- The code of a chord action (R148). -/
def chordActionCode : ChordAction → Byte
  | .event => 0
  | .start => 1
  | .warmRestart => 2
  | .coldRestart => 3
  | .release => 4

/-- A chord action by its code (R148). -/
def readChordAction (b : Byte) : Option ChordAction :=
  match b.toNat with
  | 0 => some .event
  | 1 => some .start
  | 2 => some .warmRestart
  | 3 => some .coldRestart
  | 4 => some .release
  | _ => none

/-- How many positions a set holds. -/
def setSize (set : BitVec 48) : Nat := ((List.range 48).filter fun p => set.getLsbD p).length

/-- The Set Chord payload (R148). -/
def chordPayload (i : ChordIndex) (c : ChordSettings) : List Byte :=
  oneByte i.val :: maskBytes c.members ++ maskBytes c.ignored ++ twoBytes c.hold ++ [chordActionCode c.action]

/-- Set Chord at its block, its tests in the order of R148; an applied one returns the entry to IDLE (R149). -/
def setChordBody (payload : List Byte) (s : State) : State × Option (List Byte) :=
  match payload with
  | [index, m5, m4, m3, m2, m1, m0, i5, i4, i3, i2, i1, i0, h1, h0, code] =>
    match readIndex 4 index with
    | none => refuse .badValue s
    | some i =>
      let members := readMask m5 m4 m3 m2 m1 m0
      let ignored := readMask i5 i4 i3 i2 i1 i0
      if setSize members < 2 ∨ 4 < setSize members then refuse .badValue s
      else if members &&& ignored ≠ 0 then refuse .badValue s
      else
        match readChordAction code with
        | none => refuse .badValue s
        | some action =>
          let c : ChordSettings := ⟨members, ignored, clampNat 100 10000 (readHalf h1 h0), action⟩
          (setChordState i ⟨.idle, none⟩ (s.withSettings { s.settings with chords := put s.settings.chords i c }),
            some (statusByte (appliedStatus payload (chordPayload i c)) :: chordPayload i c))
  | _ => refuse .badLength s

/-- SET_CHORD (R148, R149). -/
def setChord (l : Link) (tag : Byte) (payload : List Byte) (s : State) : State :=
  answer l 0x1A tag (setChordBody payload) s

/-- Meaning of SET_CHORD. -/
def execSetChord (l : Link) (tag : Byte) (payload : List Byte) (s : State) : Host.Outcome State Fault Refusal :=
  .next (setChord l tag payload s)

/-! ### READ_KEYS (R146, R147) -/

/-- The kind code, the position or chord index, and the key code of a key event (Table 10-7). -/
def keyKindBytes : KeyKind → List Byte
  | .press p code => [1, oneByte p.val, code]
  | .release p code => [2, oneByte p.val, code]
  | .repeated p code => [3, oneByte p.val, code]
  | .stuck p code => [4, oneByte p.val, code]
  | .unstuck p code => [5, oneByte p.val, code]
  | .chord i => [6, oneByte i.val, 0]

/-- A key entry's ten bytes (Table 10-7). -/
def queueEntryBytes (e : QueueEntry) : List Byte :=
  halfBytes e.seq ++ fourBytes e.time ++ keyKindBytes e.kind ++ [oneByte (e.gap.getD 0)]

/-- The reply payload of Read Keys after its status (R147): n entries of the queue, and the entries held after it. -/
def readKeysReply (n held : Nat) (q : KeyQueue) : List Byte :=
  [oneByte n, oneByte held] ++ twoBytes q.lost ++ twoBytes q.flushed ++ (q.entries.take n).flatMap queueEntryBytes

/-- The n oldest entries leave the queue, and the key causes follow (R145, R147). -/
def removeEntries (n : Nat) (s : State) : State :=
  followQueue (s.withQueue { s.queue with entries := s.queue.entries.drop n })

/-- Read Keys at its block, its tests in the order of R146. A max count above 10 is answered CLAMPED also when the queue is
empty, for which R147 says OK (DESIGN CHOICE, log entry 36). -/
def readKeysBody (l : Link) (payload : List Byte) (s : State) : State × Option (List Byte) :=
  match payload with
  | [count, option] =>
    if count.toNat = 0 ∨ 1 < option.toNat then refuse .badValue s
    else if option = 0 ∧ l = .service then refuse .wrongLink s
    else
      let status := statusByte (if 10 < count.toNat then .clamped else .ok)
      let n := min (min count.toNat 10) s.queue.entries.length
      if option = 0 then
        (removeEntries n s, some (status :: readKeysReply n (s.queue.entries.length - n) s.queue))
      else (s, some (status :: readKeysReply n s.queue.entries.length s.queue))
  | _ => refuse .badLength s

/-- READ_KEYS (R146, R147). -/
def readKeys (l : Link) (tag : Byte) (payload : List Byte) (s : State) : State :=
  answer l 0x04 tag (readKeysBody l payload) s

/-- Meaning of READ_KEYS. -/
def execReadKeys (l : Link) (tag : Byte) (payload : List Byte) (s : State) : Host.Outcome State Fault Refusal :=
  .next (readKeys l tag payload s)

end Sys2Proof.Machine
end

