-- ==== Sys2Proof/Machine/Storing.lean ====
section
/-! DEFINITION. The Settings Store (chapter 11) and the requests of the Event Log and the time base (chapter 9):
CELL_WRITE_COMPLETE, SAVE_COMPLETE, FACTORY_WRITE_COMPLETE, READ_SETTINGS, SAVE_SETTINGS, READ_FACTORY_WORD,
PROGRAM_FACTORY_WORD, READ_LOG, SET_TIME. -/

namespace Sys2Proof.Machine

/-! ### CELL_WRITE_COMPLETE (R182) -/

/-- The write in progress ends: its copy holds what was written and is valid. -/
def endCellWrite (w : CellWrite) (st : Store) : Store :=
  if w.toFirst then { st with copyA := w.copy, cellWrite := none }
  else { st with copyB := w.copy, cellWrite := none }

/-- A queued write begins when the write in progress ends, with the contents as they stand then (R182). -/
def beginQueuedWrite (st : Store) : Store :=
  if st.cellQueued then { st with cellWrite := some (nextCellWrite st), cellQueued := false } else st

/-- CELL_WRITE_COMPLETE (R182), also through a pin or link reset, which lets the writes end. -/
def cellWriteComplete (s : State) : State :=
  match s.store.cellWrite with
  | some w => s.withStore (beginQueuedWrite (endCellWrite w s.store))
  | none => s

/-- Meaning of CELL_WRITE_COMPLETE. -/
def execCellWriteComplete (s : State) : Host.Outcome State Fault Refusal := .next (cellWriteComplete s)

/-! ### SAVE_COMPLETE (R179) -/

/-- The completion reply of a deferred request is handed over, and the link stops waiting (R167). -/
def completeReply (l : Link) (kind tag : Byte) (payload : List Byte) (s : State) : State :=
  setWaiting l false (sendReply l kind tag payload s)

/-- The reply of a save, when its link still awaits one: a reset drops it (R167, R180). -/
def saveReply (reply : Option (Link × Byte)) (agrees : Bool) (s : State) : State :=
  match reply with
  | some (l, tag) => completeReply l 0x1E tag [statusByte (if agrees then .ok else .storeFault)] s
  | none => s

/-- SAVE_COMPLETE (R179): the image holds the snapshot, or something that fails its check when the readback differs (log
entry 14). -/
def saveComplete (agrees : Bool) (s : State) : State :=
  match s.store.imageWrite with
  | some w =>
    saveReply w.reply agrees
      (s.withStore
        { s.store with image := ⟨w.snapshot, Config.designRevision, agrees⟩, imageWrite := none })
  | none => s

/-- Meaning of SAVE_COMPLETE. -/
def execSaveComplete (agrees : Bool) (s : State) : Host.Outcome State Fault Refusal := .next (saveComplete agrees s)

/-! ### FACTORY_WRITE_COMPLETE (R183) -/

/-- The reply of a programming, when the service link still awaits one. -/
def wordReply (w : WordWrite) (readback : Half) (s : State) : State :=
  match w.reply with
  | some tag =>
    completeReply .service 0x20 tag
      (if readback = w.value then statusByte .ok :: oneByte w.index.val :: halfBytes w.value
       else [statusByte .storeFault]) s
  | none => s

/-- FACTORY_WRITE_COMPLETE (R183): the word holds what the readback found. -/
def factoryWriteComplete (readback : Half) (s : State) : State :=
  match s.store.wordWrite with
  | some w =>
    wordReply w readback
      (s.withStore { s.store with words := put s.store.words w.index readback, wordWrite := none })
  | none => s

/-- Meaning of FACTORY_WRITE_COMPLETE. -/
def execFactoryWriteComplete (readback : Half) (s : State) : Host.Outcome State Fault Refusal :=
  .next (factoryWriteComplete readback s)

/-! ### READ_SETTINGS (R178) -/

/-- The ZONES group: for each zone the Set Zone payload and the Set Heater Curve payload (Table 11-1). -/
def zonesContents (x : Settings) : List Byte :=
  (List.finRange 4).flatMap fun z => zonePayload z x.zones[z] ++ curvePayload z x.zones[z].curve

/-- The CHORDS group: the four Set Chord payloads (Table 11-1). -/
def chordsContents (x : Settings) : List Byte :=
  (List.finRange 4).flatMap fun i => chordPayload i x.chords[i]

/-- A group's contents by its code, none above 10 (Table 11-1). -/
def groupContents (code : Nat) (x : Settings) : Option (List Byte) :=
  match code with
  | 0 => some (zonesContents x)
  | 1 => some (budgetPayload x.offBudget x.onBudget)
  | 2 => some (fanPayload x.fan)
  | 3 => some (limitsPayload x.limits x.channelEnable)
  | 4 => some (keypadPayload x.keypad)
  | 5 => some (keyEntriesPayload 0 x.keys.toList)
  | 6 => some (chordsContents x)
  | 7 => some (ladderPayload x.ladder)
  | 8 => some (timingPayload x.timing)
  | 9 => some (halfBytes x.mask)
  | 10 => some [x.channelEnable]
  | _ => none

/-- Read Settings at its block (R178). -/
def readSettingsBody (payload : List Byte) (s : State) : State × Option (List Byte) :=
  match payload with
  | [code] =>
    match groupContents code.toNat s.settings with
    | some contents => (s, some (statusByte .ok :: code :: contents))
    | none => refuse .badValue s
  | _ => refuse .badLength s

/-- READ_SETTINGS (R178). -/
def readSettings (l : Link) (tag : Byte) (payload : List Byte) (s : State) : State :=
  answer l 0x1D tag (readSettingsBody payload) s

/-- Meaning of READ_SETTINGS. -/
def execReadSettings (l : Link) (tag : Byte) (payload : List Byte) (s : State) : Host.Outcome State Fault Refusal :=
  .next (readSettings l tag payload s)

/-! ### SAVE_SETTINGS (R179) -/

/-- Save Settings at its block (R179): length, then a save in progress, then the snapshot, and the link waits (R167). -/
def saveSettingsBody (l : Link) (tag : Byte) (payload : List Byte) (s : State) : State × Option (List Byte) :=
  match payload with
  | [] =>
    if s.store.imageWrite.isSome then refuse .busy s
    else (setWaiting l true (s.withStore { s.store with imageWrite := some ⟨s.settings, some (l, tag)⟩ }), none)
  | _ :: _ => refuse .badLength s

/-- SAVE_SETTINGS (R179). -/
def saveSettings (l : Link) (tag : Byte) (payload : List Byte) (s : State) : State :=
  answer l 0x1E tag (saveSettingsBody l tag payload) s

/-- Meaning of SAVE_SETTINGS. -/
def execSaveSettings (l : Link) (tag : Byte) (payload : List Byte) (s : State) : Host.Outcome State Fault Refusal :=
  .next (saveSettings l tag payload s)

/-! ### READ_FACTORY_WORD (R184) and PROGRAM_FACTORY_WORD (R183) -/

/-- Read Factory Word at its block, its tests in the order of R184. -/
def readFactoryBody (payload : List Byte) (s : State) : State × Option (List Byte) :=
  match payload with
  | [first, count] =>
    if 31 < first.toNat ∨ count.toNat = 0 ∨ 32 < first.toNat + count.toNat then refuse .badValue s
    else
      (s, some (statusByte .ok :: first :: count ::
        ((s.store.words.toList.drop first.toNat).take count.toNat).flatMap halfBytes))
  | _ => refuse .badLength s

/-- READ_FACTORY_WORD (R184). -/
def readFactoryWord (l : Link) (tag : Byte) (payload : List Byte) (s : State) : State :=
  answer l 0x1F tag (readFactoryBody payload) s

/-- Meaning of READ_FACTORY_WORD. -/
def execReadFactoryWord (l : Link) (tag : Byte) (payload : List Byte) (s : State) : Host.Outcome State Fault Refusal :=
  .next (readFactoryWord l tag payload s)

/-- Program Factory Word at dispatch and at its block (R183): the service link is the one it is taken on, the host link the wrong one
(R183, Table 10-4; DEDUCED, log entry 32, where R166, test 5, names the service link); then length, index and value, then a
word that is not blank. Until the write ends the word reads as blank. -/
def programBody (l : Link) (tag : Byte) (payload : List Byte) (s : State) : State × Option (List Byte) :=
  match l, payload with
  | .host, _ => refuse .wrongLink s
  | .service, [index, v1, v0] =>
    match readIndex 32 index with
    | none => refuse .badValue s
    | some i =>
      let value : Half := v1 ++ v0
      if value = 0xFFFF then refuse .badValue s
      else if s.store.words[i] ≠ 0xFFFF then refuse .alreadySet s
      else (setWaiting .service true (s.withStore { s.store with wordWrite := some ⟨i, value, some tag⟩ }), none)
  | .service, _ => refuse .badLength s

/-- PROGRAM_FACTORY_WORD (R183). -/
def programFactoryWord (l : Link) (tag : Byte) (payload : List Byte) (s : State) : State :=
  answer l 0x20 tag (programBody l tag payload) s

/-- Meaning of PROGRAM_FACTORY_WORD. -/
def execProgramFactoryWord (l : Link) (tag : Byte) (payload : List Byte) (s : State) :
    Host.Outcome State Fault Refusal :=
  .next (programFactoryWord l tag payload s)

/-! ### SET_TIME (R153) -/

/-- Set Time at its block (R153): the time base takes the value, TIME_SET is appended with the new tag, and the reply
carries the old value. -/
def setTimeBody (payload : List Byte) (s : State) : State × Option (List Byte) :=
  match payload with
  | [a, b, c, d] =>
    (appendLog .timeSet 0 (s.withTimeBase (readFull a b c d)), some (statusByte .ok :: fourBytes s.timeBase))
  | _ => refuse .badLength s

/-- SET_TIME (R153). -/
def setTime (l : Link) (tag : Byte) (payload : List Byte) (s : State) : State :=
  answer l 0x0F tag (setTimeBody payload) s

/-- Meaning of SET_TIME. -/
def execSetTime (l : Link) (tag : Byte) (payload : List Byte) (s : State) : Host.Outcome State Fault Refusal :=
  .next (setTime l tag payload s)

/-! ### READ_LOG (R159, R160) -/

/-- How many numbers of the cycle 1 to 4 294 967 295 the first precedes the second by (R157). -/
def stepsBefore (first second : Nat) : Nat := (second + 4294967295 - first) % 4294967295

/-- A from-sequence that the ring does not hold is below the oldest held (R160). -/
def belowOldest (wrapped : Bool) (seq oldest : Nat) : Bool :=
  if seq = 0 then true
  else if wrapped then decide (1 ≤ stepsBefore seq oldest ∧ stepsBefore seq oldest ≤ 2147483647)
  else decide (seq < oldest)

/-- The oldest held sequence number; 0 for an empty ring, which no request can find (R161). -/
def oldestSeq (log : EventLog) : Full :=
  match log.ring.head? with
  | some r => r.seq
  | none => 0

/-- The newest sequence number. -/
def newestSeq (log : EventLog) : Full :=
  match log.ring.getLast? with
  | some r => r.seq
  | none => 0

/-- The records from a from-sequence onward (R160). -/
def recordsFrom (seq : Full) (log : EventLog) : List LogRecord :=
  match log.ring.findIdx? fun r => r.seq = seq with
  | some i => log.ring.drop i
  | none => if belowOldest log.wrapped seq.toNat (oldestSeq log).toNat then log.ring else []

/-- A log record's sixteen bytes (Table 10-8). -/
def recordBytes (r : LogRecord) : List Byte :=
  fourBytes r.seq ++ fourBytes r.time ++
    [oneByte (recordCode r.kind), oneByte ((stateCodes r.state).1 * 16 + (stateCodes r.state).2),
      oneByte (r.rung * 16 + r.failures), flagByte r.slot] ++
    temperatureBytes r.temperature ++ halfBytes r.detail

/-- The reply payload of Read Log after its status (R160). -/
def readLogReply (records : List LogRecord) (log : EventLog) : List Byte :=
  oneByte records.length :: fourBytes (oldestSeq log) ++ fourBytes (newestSeq log) ++ twoBytes log.overwrites ++
    records.flatMap recordBytes

/-- Read Log at its block, its tests in the order of R159. -/
def readLogBody (payload : List Byte) (s : State) : State × Option (List Byte) :=
  match payload with
  | [a, b, c, d, count] =>
    if count.toNat = 0 then refuse .badValue s
    else
      (s, some (statusByte (if 10 < count.toNat then .clamped else .ok) ::
        readLogReply ((recordsFrom (readFull a b c d) s.log).take (min count.toNat 10)) s.log))
  | _ => refuse .badLength s

/-- READ_LOG (R159, R160). -/
def readLog (l : Link) (tag : Byte) (payload : List Byte) (s : State) : State :=
  answer l 0x05 tag (readLogBody payload) s

/-- Meaning of READ_LOG. -/
def execReadLog (l : Link) (tag : Byte) (payload : List Byte) (s : State) : Host.Outcome State Fault Refusal :=
  .next (readLog l tag payload s)

end Sys2Proof.Machine
end

