-- ==== Sys2Proof/Machine/Reporting.lean ====
section
/-! DEFINITION. Identification, status, link counters and attention (chapter 10): IDENTIFY, GET_STATUS, GET_LINK_COUNTERS,
GET_ATTENTION, CLEAR_ATTENTION, SET_ATTENTION_MASK, NON_REQUEST_FRAME, UNKNOWN_REQUEST. -/

namespace Sys2Proof.Machine

/-! ### IDENTIFY (R169) -/

/-- The code of a reset kind (R169). -/
def resetCode : ResetKind → Nat
  | .powerOn => 0
  | .pin => 1
  | .link => 2

/-- The code of a link (R169). -/
def linkCode : Link → Byte
  | .host => 0
  | .service => 1

/-- The reply payload of Identify (R169). -/
def identifyReply (l : Link) (s : State) : List Byte :=
  statusByte .ok :: twoBytes Config.partCode ++ [Config.designRevision] ++ halfBytes s.store.words[0] ++
    halfBytes s.store.words[1] ++ halfBytes s.store.words[2] ++ [linkCode l, oneByte (resetCode s.lastReset)]

/-- Identify at its block (R169). -/
def identifyBody (l : Link) (payload : List Byte) (s : State) : State × Option (List Byte) :=
  match payload with
  | [] => (s, some (identifyReply l s))
  | _ :: _ => refuse .badLength s

/-- IDENTIFY (R169). -/
def identify (l : Link) (tag : Byte) (payload : List Byte) (s : State) : State :=
  answer l 0x01 tag (identifyBody l payload) s

/-- Meaning of IDENTIFY. -/
def execIdentify (l : Link) (tag : Byte) (payload : List Byte) (s : State) : Host.Outcome State Fault Refusal :=
  .next (identify l tag payload s)

/-! ### GET_STATUS (R170) -/

/-- Offsets 5 to 13 of the status (Table 10-5): the sequencer and the ladder. -/
def hostStatus (s : State) : List Byte :=
  [oneByte (stateCodes s.seq.state).1, oneByte (stateCodes s.seq.state).2,
    flagByte s.seq.hpwrEn ||| (flagByte s.seq.hrst <<< 1) ||| (flagByte s.seq.hpg <<< 2),
    oneByte s.seq.stage, oneByte s.ladder.rung, oneByte s.ladder.failures, flagByte s.store.slot] ++
    twoBytes s.store.flips

/-- Offsets 14 to 20 of the status (Table 10-5): the pending warning record. -/
def warningStatus (s : State) : List Byte :=
  match s.seq.warning with
  | some w =>
    [1, oneByte (warningCauseCode w.cause), oneByte (warningActionCode w.action)] ++
      twoBytes (secondsUp (graceLeft s)) ++ [oneByte w.defersLeft, flagByte w.deferPermitted]
  | none => [0, 0, 0, 0, 0, 0, 0]

/-- The code of a gate status (Table 10-5). -/
def gateCode : GateStatus → Byte
  | .blocking => 0
  | .counting => 1
  | .released => 2

/-- The eight bytes of a zone (Table 10-5); the gate timer in the whole seconds it has reached (DEDUCED, log entry 24). -/
def zoneStatus (z : ZoneState) : List Byte :=
  twoBytes z.demandDuty ++ twoBytes z.grantedDuty ++ [oneByte z.priority, gateCode z.gate] ++
    twoBytes (z.gateTimer / 1000)

/-- Offsets 56 to 69 of the status (Table 10-5). -/
def climateStatus (s : State) : List Byte :=
  twoBytes s.thermal.fanDuty ++ twoBytes s.thermal.speed ++
    [flagByte s.thermal.fanFault, flagByte s.thermal.filterSet] ++ twoBytes s.thermal.watch ++
    [oneByte s.queue.entries.length, oneByte s.keypad.debounceCount] ++ twoBytes s.keypad.refused ++
    halfBytes s.causes

/-- The 70-byte payload of Get Status (Table 10-5). -/
def statusReply (s : State) : List Byte :=
  statusByte .ok :: fourBytes s.timeBase ++ hostStatus s ++ warningStatus s ++
    [flagByte s.thermal.startPermitted, flagByte s.thermal.tripped, flagByte s.meas.fault] ++
    s.zones.toList.flatMap zoneStatus ++ climateStatus s

/-- Get Status at its block (R170). -/
def getStatusBody (payload : List Byte) (s : State) : State × Option (List Byte) :=
  match payload with
  | [] => (s, some (statusReply s))
  | _ :: _ => refuse .badLength s

/-- GET_STATUS (R170). -/
def getStatus (l : Link) (tag : Byte) (payload : List Byte) (s : State) : State :=
  answer l 0x02 tag (getStatusBody payload) s

/-- Meaning of GET_STATUS. -/
def execGetStatus (l : Link) (tag : Byte) (payload : List Byte) (s : State) : Host.Outcome State Fault Refusal :=
  .next (getStatus l tag payload s)

/-! ### GET_LINK_COUNTERS (R171) -/

/-- The five counters of a link (R171). -/
def counterBytes (x : LinkState) : List Byte :=
  twoBytes x.crcErrors ++ twoBytes x.lengthErrors ++ twoBytes x.timeouts ++ twoBytes x.strays ++
    twoBytes x.discarded

/-- A link with its five counters at 0. -/
def clearedCounters (x : LinkState) : LinkState :=
  { x with crcErrors := 0, lengthErrors := 0, timeouts := 0, strays := 0, discarded := 0 }

/-- Both links' counters set to 0. -/
def clearCounters (s : State) : State :=
  (s.withHost (clearedCounters s.host)).withService (clearedCounters s.service)

/-- Get Link Counters at its block (R171); the counters are cleared after the reply is formed and before it is handed over
(DESIGN CHOICE, log entry 17). -/
def getCountersBody (payload : List Byte) (s : State) : State × Option (List Byte) :=
  match payload with
  | [option] =>
    let reply := statusByte .ok :: counterBytes s.host ++ counterBytes s.service
    if option = 0 then (s, some reply)
    else if option = 1 then (clearCounters s, some reply)
    else refuse .badValue s
  | _ => refuse .badLength s

/-- GET_LINK_COUNTERS (R171). -/
def getLinkCounters (l : Link) (tag : Byte) (payload : List Byte) (s : State) : State :=
  answer l 0x21 tag (getCountersBody payload) s

/-- Meaning of GET_LINK_COUNTERS. -/
def execGetLinkCounters (l : Link) (tag : Byte) (payload : List Byte) (s : State) : Host.Outcome State Fault Refusal :=
  .next (getLinkCounters l tag payload s)

/-! ### Attention (R175) -/

/-- Get Attention at its block (R175). -/
def getAttentionBody (payload : List Byte) (s : State) : State × Option (List Byte) :=
  match payload with
  | [] => (s, some (statusByte .ok :: halfBytes s.causes ++ halfBytes s.settings.mask))
  | _ :: _ => refuse .badLength s

/-- GET_ATTENTION (R175). -/
def getAttention (l : Link) (tag : Byte) (payload : List Byte) (s : State) : State :=
  answer l 0x06 tag (getAttentionBody payload) s

/-- Meaning of GET_ATTENTION. -/
def execGetAttention (l : Link) (tag : Byte) (payload : List Byte) (s : State) : Host.Outcome State Fault Refusal :=
  .next (getAttention l tag payload s)

/-- The status of a cause set: CLAMPED when it names a weight above 512 (R175). -/
def causeSetStatus (set : Half) : Status := if set &&& ~~~causeWeights = 0 then .ok else .clamped

/-- Clear Attention at its block (R175): the latched causes named cease to be pending. -/
def clearAttentionBody (payload : List Byte) (s : State) : State × Option (List Byte) :=
  match payload with
  | [c1, c0] =>
    let named : Half := c1 ++ c0
    (s.withCauses (clearLatched s.causes named),
      some (statusByte (causeSetStatus named) :: halfBytes (clearLatched s.causes named)))
  | _ => refuse .badLength s

/-- CLEAR_ATTENTION (R175). -/
def clearAttention (l : Link) (tag : Byte) (payload : List Byte) (s : State) : State :=
  answer l 0x07 tag (clearAttentionBody payload) s

/-- Meaning of CLEAR_ATTENTION. -/
def execClearAttention (l : Link) (tag : Byte) (payload : List Byte) (s : State) : Host.Outcome State Fault Refusal :=
  .next (clearAttention l tag payload s)

/-- Set Attention Mask at its block (R175): the mask replaces the ATTN_MASK group; no notice follows (R174). -/
def setMaskBody (payload : List Byte) (s : State) : State × Option (List Byte) :=
  match payload with
  | [m1, m0] =>
    let given : Half := m1 ++ m0
    (s.withSettings { s.settings with mask := given &&& causeWeights },
      some (statusByte (causeSetStatus given) :: halfBytes (given &&& causeWeights)))
  | _ => refuse .badLength s

/-- SET_ATTENTION_MASK (R175). -/
def setAttentionMask (l : Link) (tag : Byte) (payload : List Byte) (s : State) : State :=
  answer l 0x08 tag (setMaskBody payload) s

/-- Meaning of SET_ATTENTION_MASK. -/
def execSetAttentionMask (l : Link) (tag : Byte) (payload : List Byte) (s : State) :
    Host.Outcome State Fault Refusal :=
  .next (setAttentionMask l tag payload s)

/-! ### Frames that name no request (R166, tests 1 and 2) -/

/-- NON_REQUEST_FRAME (R166, test 1): discarded without a reply and without a count; the receiver returns to hunting. -/
def nonRequestFrame (l : Link) (_kind _tag : Byte) (_payload : List Byte) (s : State) : State :=
  if receiving s then setReceiver l .hunting s else s

/-- Meaning of NON_REQUEST_FRAME. -/
def execNonRequestFrame (l : Link) (kind tag : Byte) (payload : List Byte) (s : State) :
    Host.Outcome State Fault Refusal :=
  .next (nonRequestFrame l kind tag payload s)

/-- UNKNOWN_REQUEST (R166, test 2): answered UNKNOWN, also while the link waits, since the busy test comes later. -/
def unknownRequest (l : Link) (kind tag : Byte) (_payload : List Byte) (s : State) : State :=
  if receiving s then sendReply l kind tag [statusByte .unknown] (setReceiver l .hunting s) else s

/-- Meaning of UNKNOWN_REQUEST. -/
def execUnknownRequest (l : Link) (kind tag : Byte) (payload : List Byte) (s : State) :
    Host.Outcome State Fault Refusal :=
  .next (unknownRequest l kind tag payload s)

end Sys2Proof.Machine
end

