-- ==== Sys2Proof/Machine/Resets.lean ====
section
/-! DEFINITION. The three resets, their end, the time base and the transmitters: POWER_ON_RESET, PIN_RESET, LINK_RESET,
RESET_END, RESET_SUPERVISOR, FRAME_SENT, TIME_BASE_TICK (R84, R161, R172, R152, and the tables of the state after reset). -/

namespace Sys2Proof.Machine

/-! ### The start of a reset, block by block -/

/-- A link through a reset (Table 10-10): only its counters can be kept. -/
def resetLink (kind : ResetKind) (x : LinkState) : LinkState :=
  match kind with
  | .powerOn => LinkState.fresh []
  | .pin => { x with receiver := .hunting, output := [], waiting := false }
  | .link => { x with receiver := .hunting, output := [], waiting := false }

/-- The Measurement Unit through a reset (R17, Table 1-8): no conversion is in progress. R17 and R181 give the CHANNEL_ENABLE in
force when the reset ends; that until then the working copy held before the reset decides which channels read NO_DATA and
which DISABLED is the model's choice (DESIGN CHOICE, log entry 40). -/
def resetMeasurement (enable : Byte) : Measurement :=
  { measurementAfterReset enable with current := none, todo := [] }

/-- A zone through a reset (Table 2-11, Table 3-6): nothing granted, the drive off, the gate timer 0. Table 3-6 gives the gate
status after the reset; that every zone, also one without the gate flag, stands at BLOCKING from the reset's start to RESET_END
is the model's choice (DESIGN CHOICE, log entry 38). So is the current priority, kept to RESET_END (DESIGN CHOICE, log entry 42). -/
def resetZone (z : ZoneState) : ZoneState :=
  { cutZone z with gate := .blocking, gateTimer := 0, gateLength := 0, frame := none }

/-- The Thermal Controller through a reset (Table 3-6): the watch is lost at a power-on reset only. -/
def resetThermal (kind : ResetKind) (t : Thermal) : Thermal where
  allocationTimer := none
  fanTimer := none
  minuteTimer := none
  checkTimer := none
  startPermitted := false
  warmTimer := none
  fanDuty := 1000
  speed := 0
  tach := 0
  fanFault := false
  stall := 0
  recovery := 0
  watch := if kind = .powerOn then 0 else t.watch
  filterSet := if kind = .powerOn then false else t.filterSet
  tripped := false
  tripTimer := none
  resumeTimer := none

/-- The sequencer through a reset (R84, Table 4-8): the state is OFF, and only a power-on reset moves HPWR_EN and HRST_N. -/
def resetSequencer (kind : ResetKind) (x : Sequencer) : Sequencer where
  state := .off
  hpwrEn := if kind = .powerOn then false else x.hpwrEn
  hrst := if kind = .powerOn then true else x.hrst
  hpg := x.hpg
  stage := 0
  timers := SequencerTimers.stopped
  warning := none
  restart := none

/-- The scanner through a reset (R135, Table 7-6): the rows are not driven. R135 sets the rest when the reset ends, as
startKeypad does; that the position records, the held list and the repeat target stand at those values from its start, and the
debounce time, N and the settle time keep theirs to RESET_END, is the model's choice (DESIGN CHOICE, log entry 42). -/
def resetKeypad (kind : ResetKind) (k : Keypad) : Keypad :=
  { k with
    positions := Vector.replicate 48 KeyPosition.fresh
    held := []
    target := none
    repeatTimer := none
    refused := if kind = .powerOn then 0 else k.refused
    row := none }

/-- The Key Queue through a reset (R150, Table 8-8). -/
def resetQueue (kind : ResetKind) (q : KeyQueue) : KeyQueue :=
  match kind with
  | .powerOn => ⟨[], 0, 0, 0⟩
  | .pin => flushedQueue q
  | .link => flushedQueue q

/-- The Event Log through a reset (R161). -/
def resetLog (kind : ResetKind) (log : EventLog) : EventLog :=
  match kind with
  | .powerOn => ⟨[], 1, false, 0⟩
  | .pin => log
  | .link => log

/-- The copy whose write a power-on reset interrupted is left bad (R182). -/
def spoilCell (st : Store) : Store :=
  match st.cellWrite with
  | some w =>
    if w.toFirst then { st with copyA := { st.copyA with valid := false } }
    else { st with copyB := { st.copyB with valid := false } }
  | none => st

/-- The contents read from the newer valid copy, slot 0 and count 0 when there is none (R182). -/
def readCell (st : Store) : Store :=
  if !st.copyA.valid && !st.copyB.valid then { st with slot := false, flips := 0 }
  else if firstIsNewer st.copyA st.copyB then { st with slot := st.copyA.slot, flips := st.copyA.flips }
  else { st with slot := st.copyB.slot, flips := st.copyB.flips }

/-- An image whose writing a power-on reset interrupted fails its check (R180). -/
def interruptImage (st : Store) : Store :=
  { st with
    image := if st.imageWrite.isSome then { st.image with checks := false } else st.image
    imageWrite := none }

/-- A word whose programming a power-on reset interrupted holds some value that nothing constrains (R183). -/
def interruptWord (freeIndex : Nat) (st : Store) : Store :=
  match st.wordWrite with
  | some w => { st with words := put st.words w.index (Config.interruptedWord freeIndex), wordWrite := none }
  | none => st

/-- The persistent stores at a power-on reset (Table 11-4): every write in progress is abandoned where it stands, and the
boot-slot cell is read. -/
def restartStore (freeIndex : Nat) (st : Store) : Store :=
  interruptWord freeIndex
    (interruptImage { readCell (spoilCell st) with cellWrite := none, cellQueued := false })

/-- The persistent stores at a pin or link reset (R167, R180, R183): the writes go on, their replies are dropped. -/
def dropReplies (st : Store) : Store :=
  { st with
    imageWrite := st.imageWrite.map fun w => { w with reply := none }
    wordWrite := st.wordWrite.map fun w => { w with reply := none } }

/-- The persistent stores through a reset (Table 11-4). -/
def resetStore (kind : ResetKind) (freeIndex : Nat) (st : Store) : Store :=
  match kind with
  | .powerOn => restartStore freeIndex st
  | .pin => dropReplies st
  | .link => dropReplies st

/-- A reset begins (R84, R150, R161, R176): every block is held in its state through the reset until RESET_END. R150 stops the
chord hold timers at the start and gives IDLE when the reset ends; that every chord entry is IDLE from the start is the model's
choice (DESIGN CHOICE, log entry 41), and so is that the kind of the last reset changes at RESET_END (DESIGN CHOICE, log
entry 42). -/
def beginReset (kind : ResetKind) (s : State) : State where
  pending := s.pending
  resetting := some kind
  resetReply := none
  lastReset := s.lastReset
  timeBase := if kind = .powerOn then 0 else s.timeBase
  log := resetLog kind s.log
  causes := 0
  host := resetLink kind s.host
  service := resetLink kind s.service
  meas := resetMeasurement s.settings.channelEnable
  zones := mapEach resetZone s.zones
  thermal := resetThermal kind s.thermal
  seq := resetSequencer kind s.seq
  ladder := ⟨0, 0⟩
  keypad := resetKeypad kind s.keypad
  chords := Vector.replicate 4 ⟨.idle, none⟩
  queue := resetQueue kind s.queue
  settings := s.settings
  store := resetStore kind s.freeIndex s.store
  freeIndex := if kind = .powerOn ∧ s.store.wordWrite.isSome then s.freeIndex + 1 else s.freeIndex

/-- POWER_ON_RESET (R84): in any state. -/
def powerOnReset (s : State) : State := beginReset .powerOn s

/-- Meaning of POWER_ON_RESET. -/
def execPowerOnReset (s : State) : Host.Outcome State Fault Refusal := .next (powerOnReset s)

/-- PIN_RESET (R84): in any state but during a power-on reset, which goes on (DESIGN CHOICE, log entry 30). -/
def pinReset (s : State) : State := if s.resetting = some .powerOn then s else beginReset .pin s

/-- Meaning of PIN_RESET. -/
def execPinReset (s : State) : Host.Outcome State Fault Refusal := .next (pinReset s)

/-- LINK_RESET (R172): the reset that a Reset Supervisor taken before has armed begins; without one there is no such event
(DESIGN CHOICE, log entries 7 and 25). -/
def linkReset (s : State) : State := if s.resetReply.isSome then beginReset .link s else s

/-- Meaning of LINK_RESET. -/
def execLinkReset (s : State) : Host.Outcome State Fault Refusal := .next (linkReset s)

/-! ### RESET_END (R161) -/

/-- A persistent write is in progress (R180, R182, R183). -/
def storeBusy (st : Store) : Bool := st.imageWrite.isSome || st.cellWrite.isSome || st.wordWrite.isSome

/-- The image passes both its checks (R181). -/
def imageGood (x : Image) : Bool := x.checks && decide (x.revision = Config.designRevision)

/-- The settings were loaded, and the image was bad (R181). -/
def defaulted (kind : ResetKind) (x : Image) : Bool := decide (kind ≠ .link) && !imageGood x

/-- The working copy at the end of a reset (R181). -/
def loadedSettings (kind : ResetKind) (s : State) : Settings :=
  match kind with
  | .link => s.settings
  | .powerOn => if imageGood s.store.image then s.store.image.contents else Settings.defaults
  | .pin => if imageGood s.store.image then s.store.image.contents else Settings.defaults

/-- A zone at the end of a reset (Table 2-11, Table 3-6): HTR0's frames begin now, the others' later (R31). -/
def startZone (settings : Settings) (zones : Vector ZoneState 4) (z : Zone) : ZoneState :=
  { resetZone zones[z] with
    priority := settings.zones[z].initialPriority
    gate := if settings.zones[z].gateFlag then .blocking else .released
    lastFlag := settings.zones[z].gateFlag
    frame := if z = 0 then some 0 else none }

/-- Some zone has its gate flag set. -/
def anyGateZone (settings : Settings) : Bool := (List.finRange 4).any fun z => settings.zones[z].gateFlag

/-- The Thermal Controller at the end of a reset (R62, Table 3-6): the periods start, and start is permitted when no gate zone
exists. -/
def startThermal (kind : ResetKind) (settings : Settings) (t : Thermal) : Thermal :=
  { resetThermal kind t with
    allocationTimer := startTimer Config.allocationPeriod
    fanTimer := startTimer Config.fanPeriod
    minuteTimer := startTimer Config.minute
    checkTimer := startTimer Config.checkPeriod
    startPermitted := !anyGateZone settings }

/-- The scanner at the end of a reset (R135, Table 7-6): a new scan cycle begins with the dwell of ROW0. -/
def startKeypad (kind : ResetKind) (settings : Settings) (k : Keypad) : Keypad :=
  { resetKeypad kind k with row := some 0, settle := settings.keypad.settle }

/-- The blocks at the end of a reset, with the settings in force, before any record (R17, R62, R135, R150, R176). -/
def startBlocks (kind : ResetKind) (s : State) : State :=
  let settings := loadedSettings kind s
  recomputeDebounce
    { s with
      resetting := none
      resetReply := none
      lastReset := kind
      meas := measurementAfterReset settings.channelEnable
      zones := Vector.ofFn (startZone settings s.zones)
      thermal := startThermal kind settings s.thermal
      keypad := startKeypad kind settings s.keypad
      chords := Vector.replicate 4 ⟨.idle, none⟩
      settings := settings }

/-- The reset record (R161). -/
def resetRecord (kind : ResetKind) (s : State) : State :=
  match kind with
  | .powerOn => appendLog .powerOn 0 s
  | .pin => appendLog .supervisorReset 1 s
  | .link => appendLog .supervisorReset 2 s

/-- SETTINGS_DEFAULTED and the SETTINGS cause, when the image was bad (R181). -/
def recordDefaulted (bad : Bool) (s : State) : State :=
  if bad then raise .settings (appendLog .settingsDefaulted 0 s) else s

/-- The adopted start (R85). -/
def adoptHost (s : State) : State := flush (appendLog .hostStart 1 (enterBooting s))

/-- The sequencer sets its state (R85, R86). -/
def settleHost (s : State) : State :=
  if s.seq.hpwrEn then
    if s.seq.hpg then adoptHost s else powerGoodFailure s
  else if s.settings.timing.autostart then enterWarming (enterState .off s)
  else enterState .off s

/-- The end of a reset of a kind (R161, R181, R85, R86). -/
def finishReset (kind : ResetKind) (s : State) : State :=
  settleHost (recordDefaulted (defaulted kind s.store.image) (resetRecord kind (startBlocks kind s)))

/-- RESET_END (R161): a pin or link reset does not end while a persistent write is in progress (DEDUCED, log entry 16). -/
def resetEnd (s : State) : State :=
  match s.resetting with
  | none => s
  | some kind => if storeBusy s.store then s else finishReset kind s

/-- Meaning of RESET_END. -/
def execResetEnd (s : State) : Host.Outcome State Fault Refusal := .next (resetEnd s)

/-! ### RESET_SUPERVISOR and FRAME_SENT (R172, R168) -/

/-- Reset Supervisor at its block (R172): the receivers discard from now on, the reply is handed over, and when it is
discarded the link reset begins at once. -/
def resetSupervisorBody (l : Link) (tag : Byte) (payload : List Byte) (s : State) : State × Option (List Byte) :=
  match payload with
  | [] =>
    let handed := sendReply l 0x22 tag [statusByte .ok] (s.withResetReply (some l))
    (if (s.link l).output.length < Config.outputFrames then handed else beginReset .link handed, none)
  | _ :: _ => refuse .badLength s

/-- RESET_SUPERVISOR (R172). -/
def resetSupervisor (l : Link) (tag : Byte) (payload : List Byte) (s : State) : State :=
  answer l 0x22 tag (resetSupervisorBody l tag payload) s

/-- Meaning of RESET_SUPERVISOR. -/
def execResetSupervisor (l : Link) (tag : Byte) (payload : List Byte) (s : State) : Host.Outcome State Fault Refusal :=
  .next (resetSupervisor l tag payload s)

/-- The frame is the reply OK of a Reset Supervisor (R172). -/
def isResetReply (f : Frame) : Bool := decide (f.kind = 0xA2 ∧ f.payload = [statusByte .ok])

/-- FRAME_SENT (R168): the oldest frame has left; with the reply of an armed Reset Supervisor the link reset begins
(R172). -/
def frameSent (l : Link) (s : State) : State :=
  match (s.link l).output with
  | [] => s
  | f :: rest =>
    let t := s.withLink l { s.link l with output := rest }
    if decide (s.resetReply = some l) && isResetReply f then beginReset .link t else t

/-- Meaning of FRAME_SENT. -/
def execFrameSent (l : Link) (s : State) : Host.Outcome State Fault Refusal := .next (frameSent l s)

/-! ### TIME_BASE_TICK (R152) -/

/-- One millisecond passes on the sequencer's timers. -/
def tickSequencer (t : SequencerTimers) : SequencerTimers where
  hpg := tickTimer t.hpg
  resetHold := tickTimer t.resetHold
  bootWindow := tickTimer t.bootWindow
  run := tickTimer t.run
  stability := tickTimer t.stability
  grace := tickTimer t.grace
  pulse := tickTimer t.pulse
  offInterval := tickTimer t.offInterval
  powerOff := tickTimer t.powerOff

/-- One millisecond passes on the Thermal Controller's timers. -/
def tickThermal (t : Thermal) : Thermal :=
  { t with
    allocationTimer := tickTimer t.allocationTimer
    fanTimer := tickTimer t.fanTimer
    minuteTimer := tickTimer t.minuteTimer
    checkTimer := tickTimer t.checkTimer
    warmTimer := tickTimer t.warmTimer }

/-- The time in a drive frame, in 0.1 ms, at the next whole millisecond; a frame is 100 ms long (R31). An on-time that ended
within the millisecond in progress has put the time between two whole ones, and never ahead (DESIGN CHOICE, log entry 23). -/
def nextMillisecond (elapsed : Nat) : Nat := min (elapsed / 10 * 10 + 10) 999

/-- One millisecond passes in a zone's drive frame (R31). -/
def tickZone (z : ZoneState) : ZoneState := { z with frame := z.frame.map nextMillisecond }

/-- One millisecond passes on the keypad's timers. -/
def tickKeypad (k : Keypad) : Keypad :=
  { k with
    positions := mapEach (fun p => { p with hold := tickTimer p.hold }) k.positions
    repeatTimer := tickTimer k.repeatTimer }

/-- One millisecond passes since a receiver's last byte (R165). -/
def tickLink (x : LinkState) : LinkState :=
  match x.receiver with
  | .hunting => x
  | .assembling bytes age => { x with receiver := .assembling bytes (age + 1) }

/-- TIME_BASE_TICK (R152): one millisecond passes (DEDUCED, log entry 5). The time base counts, through a pin or link reset too, and
stays 0 through a power-on reset; every running timer has a millisecond less to go. -/
def timeBaseTick (s : State) : State :=
  { s with
    timeBase := if s.resetting = some .powerOn then s.timeBase else s.timeBase + 1
    host := tickLink s.host
    service := tickLink s.service
    zones := mapEach tickZone s.zones
    thermal := tickThermal s.thermal
    seq := { s.seq with timers := tickSequencer s.seq.timers }
    keypad := tickKeypad s.keypad
    chords := mapEach (fun c => { c with hold := tickTimer c.hold }) s.chords }

/-- Meaning of TIME_BASE_TICK. -/
def execTimeBaseTick (s : State) : Host.Outcome State Fault Refusal := .next (timeBaseTick s)

end Sys2Proof.Machine
end

