-- ==== Sys2Proof/Machine/Receive.lean ====
section
/-! DEFINITION. The receivers (R164, R165) and the dispatch of a taken frame (R166): INTER_BYTE_TIMEOUT, LENGTH_ERROR,
CRC_ERROR. -/

namespace Sys2Proof.Machine

/-! ### Dispatch (R166) -/

/-- The frame taken is dispatched by its kind (Table 10-2, R166): the same effects that the request's own command has. -/
def takeFrame (l : Link) (f : Frame) (s : State) : State :=
  match f.kind.toNat with
  | 0x01 => identify l f.tag f.payload s
  | 0x02 => getStatus l f.tag f.payload s
  | 0x03 => checkIn l f.tag f.payload s
  | 0x04 => readKeys l f.tag f.payload s
  | 0x05 => readLog l f.tag f.payload s
  | 0x06 => getAttention l f.tag f.payload s
  | 0x07 => clearAttention l f.tag f.payload s
  | 0x08 => setAttentionMask l f.tag f.payload s
  | 0x09 => startHost l f.tag f.payload s
  | 0x0A => powerOff l f.tag f.payload s
  | 0x0B => restart l f.tag f.payload s
  | 0x0C => ready l f.tag f.payload s
  | 0x0D => defer l f.tag f.payload s
  | 0x0E => releaseLockout l f.tag f.payload s
  | 0x0F => setTime l f.tag f.payload s
  | 0x10 => readSensors l f.tag f.payload s
  | 0x11 => sampleChannel l f.tag f.payload s
  | 0x12 => setZone l f.tag f.payload s
  | 0x13 => setHeaterCurve l f.tag f.payload s
  | 0x14 => setBudget l f.tag f.payload s
  | 0x15 => setFan l f.tag f.payload s
  | 0x16 => setThermalLimits l f.tag f.payload s
  | 0x17 => clearFilterService l f.tag f.payload s
  | 0x18 => setKeypad l f.tag f.payload s
  | 0x19 => setKeyEntries l f.tag f.payload s
  | 0x1A => setChord l f.tag f.payload s
  | 0x1B => setLadder l f.tag f.payload s
  | 0x1C => setTiming l f.tag f.payload s
  | 0x1D => readSettings l f.tag f.payload s
  | 0x1E => saveSettings l f.tag f.payload s
  | 0x1F => readFactoryWord l f.tag f.payload s
  | 0x20 => programFactoryWord l f.tag f.payload s
  | 0x21 => getLinkCounters l f.tag f.payload s
  | 0x22 => resetSupervisor l f.tag f.payload s
  | k =>
    if 0x23 ≤ k ∧ k ≤ 0x3F then unknownRequest l f.kind f.tag f.payload s
    else nonRequestFrame l f.kind f.tag f.payload s

/-! ### The receiver (R164) -/

/-- A length error is counted, and the receiver hunts again. -/
def countLengthError (l : Link) (s : State) : State :=
  s.withLink l { s.link l with receiver := .hunting, lengthErrors := bump (s.link l).lengthErrors }

/-- A CRC error is counted, and the receiver hunts again. -/
def countCrcError (l : Link) (s : State) : State :=
  s.withLink l { s.link l with receiver := .hunting, crcErrors := bump (s.link l).crcErrors }

/-- An inter-byte timeout is counted, and the receiver hunts again (R165). -/
def countTimeout (l : Link) (s : State) : State :=
  s.withLink l { s.link l with receiver := .hunting, timeouts := bump (s.link l).timeouts }

/-- The frame that the bytes from the length to the payload spell (Table 10-1). -/
def frameOfBody : List Byte → Frame
  | _ :: kind :: tag :: payload => ⟨kind, tag, payload⟩
  | _ => ⟨0, 0, []⟩

/-- The bytes received after the sync byte are a frame whose check value agrees (R163); its last two bytes are the check
value. -/
def checkAgrees (got : List Byte) : Bool :=
  decide (halfBytes (crc16 (got.take (got.length - 2))) = got.drop (got.length - 2))

/-- What the receiver makes of the bytes it has received after a sync byte (R164). -/
inductive Assembly where
  /-- the frame is not complete -/
  | partially
  /-- the length is out of range -/
  | badLength
  /-- the check value does not agree -/
  | badCheck
  /-- the frame is taken -/
  | complete (f : Frame)
  deriving DecidableEq, Repr

/-- The verdict on the bytes received after a sync byte (R164). -/
def assemble (got : List Byte) : Assembly :=
  match got with
  | [] => .partially
  | length :: _ =>
    if lengthOutOfRange length then .badLength
    else if got.length < length.toNat + 3 then .partially
    else if checkAgrees got then .complete (frameOfBody (got.take (got.length - 2)))
    else .badCheck

/-- Bytes arrive on a link (R164). After a length error the length byte is examined again, after a CRC error every byte
that followed the sync byte. The first argument bounds the examinations (DESIGN CHOICE, log entry 27). -/
def scanBytes : Nat → Link → List Byte → State → State
  | 0, _, _, s => s
  | _ + 1, _, [], s => s
  | fuel + 1, l, b :: rest, s =>
    if receiving s then
      match (s.link l).receiver with
      | .hunting =>
        if b = syncByte then scanBytes fuel l rest (setReceiver l (.assembling [] 0) s)
        else scanBytes fuel l rest s
      | .assembling bytes _ =>
        match assemble (bytes ++ [b]) with
        | .partially => scanBytes fuel l rest (setReceiver l (.assembling (bytes ++ [b]) 0) s)
        | .badLength => scanBytes fuel l (b :: rest) (countLengthError l s)
        | .badCheck => scanBytes fuel l (bytes ++ b :: rest) (countCrcError l s)
        | .complete f => scanBytes fuel l rest (takeFrame l f s)
    else s

/-- The bytes a receiver holds. -/
def heldBytes : Receiver → List Byte
  | .hunting => []
  | .assembling bytes _ => bytes

/-- Examinations enough for bytes arriving at a receiver: each start of a frame lies further on than the one before. -/
def scanFuel (n : Nat) : Nat := (n + 2) * (n + 2)

/-- Bytes arrive on a link, one after another without a gap (R164). -/
def receive (l : Link) (bytes : List Byte) (s : State) : State :=
  scanBytes (scanFuel ((heldBytes (s.link l).receiver).length + bytes.length)) l bytes s

/-- The frame being assembled, when one is. -/
def assembling (x : LinkState) : Bool :=
  match x.receiver with
  | .hunting => false
  | .assembling _ _ => true

/-! ### The error events -/

/-- INTER_BYTE_TIMEOUT (R165): these bytes arrive, and then none for more than 20 ms; a frame that is then being assembled
is abandoned and counted. From the moment a Reset Supervisor is taken no timeout is counted, also not of a frame that was partly
assembled then (DESIGN CHOICE, log entry 39). -/
def interByteTimeout (l : Link) (bytes : List Byte) (s : State) : State :=
  let t := receive l bytes s
  if receiving t && assembling (t.link l) then countTimeout l t else t

/-- Meaning of INTER_BYTE_TIMEOUT. -/
def execInterByteTimeout (l : Link) (bytes : List Byte) (s : State) : Host.Outcome State Fault Refusal :=
  .next (interByteTimeout l bytes s)

/-- LENGTH_ERROR (R164): a sync byte and this length byte arrive at a receiver that hunts (DESIGN CHOICE, log entry 8). -/
def lengthError (l : Link) (length : Byte) (s : State) : State :=
  if receiving s then receive l [syncByte, length] (setReceiver l .hunting s) else s

/-- Meaning of LENGTH_ERROR. -/
def execLengthError (l : Link) (length : Byte) (s : State) : Host.Outcome State Fault Refusal :=
  .next (lengthError l length s)

/-- CRC_ERROR (R164): a sync byte, these bytes and this check value arrive at a receiver that hunts (DESIGN CHOICE, log entry 8). -/
def crcError (l : Link) (body : List Byte) (check : Half) (s : State) : State :=
  if receiving s then receive l (syncByte :: body ++ halfBytes check) (setReceiver l .hunting s) else s

/-- Meaning of CRC_ERROR. -/
def execCrcError (l : Link) (body : List Byte) (check : Half) (s : State) : Host.Outcome State Fault Refusal :=
  .next (crcError l body check s)

end Sys2Proof.Machine
end

