-- ==== Sys2Proof/Machine/Dispatch.lean ====
section
/-! DEFINITION. One arm per command: the direct call of its meaning. -/

namespace Sys2Proof.Machine

def exec (i : Instr) (s : State) : Host.Outcome State Fault Refusal :=
  match i with
  | .powerOnReset => Sys2Proof.Machine.execPowerOnReset s
  | .pinReset => Sys2Proof.Machine.execPinReset s
  | .linkReset => Sys2Proof.Machine.execLinkReset s
  | .resetEnd => Sys2Proof.Machine.execResetEnd s
  | .scanConversionComplete code => Sys2Proof.Machine.execScanConversionComplete code s
  | .referenceConversionComplete code => Sys2Proof.Machine.execReferenceConversionComplete code s
  | .converterFault code => Sys2Proof.Machine.execConverterFault code s
  | .converterOk code => Sys2Proof.Machine.execConverterOk code s
  | .oneShotComplete code => Sys2Proof.Machine.execOneShotComplete code s
  | .allocationPeriodExpiry => Sys2Proof.Machine.execAllocationPeriodExpiry s
  | .gateRelease zone => Sys2Proof.Machine.execGateRelease zone s
  | .warmTimeout => Sys2Proof.Machine.execWarmTimeout s
  | .fanPeriodExpiry => Sys2Proof.Machine.execFanPeriodExpiry s
  | .tachPulse => Sys2Proof.Machine.execTachPulse s
  | .fanFault => Sys2Proof.Machine.execFanFault s
  | .fanOk => Sys2Proof.Machine.execFanOk s
  | .minuteExpiry => Sys2Proof.Machine.execMinuteExpiry s
  | .filterService => Sys2Proof.Machine.execFilterService s
  | .overheatCheck => Sys2Proof.Machine.execOverheatCheck s
  | .thermalTrip => Sys2Proof.Machine.execThermalTrip s
  | .thermalResume => Sys2Proof.Machine.execThermalResume s
  | .hpgRise => Sys2Proof.Machine.execHpgRise s
  | .hpgFall => Sys2Proof.Machine.execHpgFall s
  | .hpgTimeout => Sys2Proof.Machine.execHpgTimeout s
  | .resetHoldExpiry => Sys2Proof.Machine.execResetHoldExpiry s
  | .bootWindowExpiry => Sys2Proof.Machine.execBootWindowExpiry s
  | .runTimeoutExpiry => Sys2Proof.Machine.execRunTimeoutExpiry s
  | .stabilityExpiry => Sys2Proof.Machine.execStabilityExpiry s
  | .graceExpiry => Sys2Proof.Machine.execGraceExpiry s
  | .pulseTimerExpiry => Sys2Proof.Machine.execPulseTimerExpiry s
  | .offIntervalExpiry => Sys2Proof.Machine.execOffIntervalExpiry s
  | .powerOffTimerExpiry => Sys2Proof.Machine.execPowerOffTimerExpiry s
  | .scanCompletion columns => Sys2Proof.Machine.execScanCompletion columns s
  | .pressAccepted position columns => Sys2Proof.Machine.execPressAccepted position columns s
  | .releaseAccepted position columns => Sys2Proof.Machine.execReleaseAccepted position columns s
  | .keyRepeat columns => Sys2Proof.Machine.execKeyRepeat columns s
  | .keyStuck position columns => Sys2Proof.Machine.execKeyStuck position columns s
  | .chordFire chord columns => Sys2Proof.Machine.execChordFire chord columns s
  | .cellWriteComplete => Sys2Proof.Machine.execCellWriteComplete s
  | .saveComplete agrees => Sys2Proof.Machine.execSaveComplete agrees s
  | .factoryWriteComplete readback => Sys2Proof.Machine.execFactoryWriteComplete readback s
  | .interByteTimeout link bytes => Sys2Proof.Machine.execInterByteTimeout link bytes s
  | .lengthError link length => Sys2Proof.Machine.execLengthError link length s
  | .crcError link body check => Sys2Proof.Machine.execCrcError link body check s
  | .nonRequestFrame link kind tag payload => Sys2Proof.Machine.execNonRequestFrame link kind tag payload s
  | .unknownRequest link kind tag payload => Sys2Proof.Machine.execUnknownRequest link kind tag payload s
  | .frameSent link => Sys2Proof.Machine.execFrameSent link s
  | .identify link tag payload => Sys2Proof.Machine.execIdentify link tag payload s
  | .getStatus link tag payload => Sys2Proof.Machine.execGetStatus link tag payload s
  | .checkIn link tag payload => Sys2Proof.Machine.execCheckIn link tag payload s
  | .readKeys link tag payload => Sys2Proof.Machine.execReadKeys link tag payload s
  | .readLog link tag payload => Sys2Proof.Machine.execReadLog link tag payload s
  | .getAttention link tag payload => Sys2Proof.Machine.execGetAttention link tag payload s
  | .clearAttention link tag payload => Sys2Proof.Machine.execClearAttention link tag payload s
  | .setAttentionMask link tag payload => Sys2Proof.Machine.execSetAttentionMask link tag payload s
  | .startHost link tag payload => Sys2Proof.Machine.execStartHost link tag payload s
  | .powerOff link tag payload => Sys2Proof.Machine.execPowerOff link tag payload s
  | .restart link tag payload => Sys2Proof.Machine.execRestart link tag payload s
  | .ready link tag payload => Sys2Proof.Machine.execReady link tag payload s
  | .defer link tag payload => Sys2Proof.Machine.execDefer link tag payload s
  | .releaseLockout link tag payload => Sys2Proof.Machine.execReleaseLockout link tag payload s
  | .setTime link tag payload => Sys2Proof.Machine.execSetTime link tag payload s
  | .readSensors link tag payload => Sys2Proof.Machine.execReadSensors link tag payload s
  | .sampleChannel link tag payload => Sys2Proof.Machine.execSampleChannel link tag payload s
  | .setZone link tag payload => Sys2Proof.Machine.execSetZone link tag payload s
  | .setHeaterCurve link tag payload => Sys2Proof.Machine.execSetHeaterCurve link tag payload s
  | .setBudget link tag payload => Sys2Proof.Machine.execSetBudget link tag payload s
  | .setFan link tag payload => Sys2Proof.Machine.execSetFan link tag payload s
  | .setThermalLimits link tag payload => Sys2Proof.Machine.execSetThermalLimits link tag payload s
  | .clearFilterService link tag payload => Sys2Proof.Machine.execClearFilterService link tag payload s
  | .setKeypad link tag payload => Sys2Proof.Machine.execSetKeypad link tag payload s
  | .setKeyEntries link tag payload => Sys2Proof.Machine.execSetKeyEntries link tag payload s
  | .setChord link tag payload => Sys2Proof.Machine.execSetChord link tag payload s
  | .setLadder link tag payload => Sys2Proof.Machine.execSetLadder link tag payload s
  | .setTiming link tag payload => Sys2Proof.Machine.execSetTiming link tag payload s
  | .readSettings link tag payload => Sys2Proof.Machine.execReadSettings link tag payload s
  | .saveSettings link tag payload => Sys2Proof.Machine.execSaveSettings link tag payload s
  | .readFactoryWord link tag payload => Sys2Proof.Machine.execReadFactoryWord link tag payload s
  | .programFactoryWord link tag payload => Sys2Proof.Machine.execProgramFactoryWord link tag payload s
  | .getLinkCounters link tag payload => Sys2Proof.Machine.execGetLinkCounters link tag payload s
  | .resetSupervisor link tag payload => Sys2Proof.Machine.execResetSupervisor link tag payload s
  | .timeBaseTick => Sys2Proof.Machine.execTimeBaseTick s
  | .rowDwellEnd columns => Sys2Proof.Machine.execRowDwellEnd columns s
  | .driveFrameStart zone => Sys2Proof.Machine.execDriveFrameStart zone s
  | .driveOnTimeEnd zone => Sys2Proof.Machine.execDriveOnTimeEnd zone s

end Sys2Proof.Machine
end

