-- ==== Sys2Proof/Safety.lean ====
section
/-! DEFINITION. The laws of the device: what holds in every state that a run from reset reaches, block by block. Each is a
decidable proposition about one state. -/

namespace Sys2Proof.Machine

/-! ### Settings (R177) -/

/-- A temperature that the part holds, reports or logs (R12): −55.0 °C to +125.0 °C. -/
abbrev TemperatureInRange (t : Int) : Prop := -550 ≤ t ∧ t ≤ 1250

/-- A curve of at most n points with values from low to high (R21, R36, R59, R132). -/
abbrev CurveInRange (n low high : Nat) (curve : List Point) : Prop :=
  1 ≤ curve.length ∧ curve.length ≤ n ∧ ascending curve = true ∧
    ∀ p ∈ curve, TemperatureInRange p.temperature ∧ low ≤ p.value ∧ p.value ≤ high

/-- A zone's setting fields (Table 2-1). -/
abbrev ZoneInRange (z : ZoneSettings) : Prop :=
  z.rated ≤ 2000 ∧ z.clamp ≤ 1000 ∧ z.initialPriority ≤ 15 ∧ -400 ≤ z.release ∧ z.release ≤ 600

/-- The FAN group (R59). -/
abbrev FanInRange (f : FanSettings) : Prop :=
  f.minimum ≤ 1000 ∧ f.stallSpeed ≤ 10000 ∧ CurveInRange 4 0 1000 f.curve

/-- The THERMAL_LIMITS group (R60). -/
abbrev LimitsInRange (x : LimitSettings) : Prop :=
  TemperatureInRange x.tripTemperature ∧ x.tripHold ≤ 60 ∧ TemperatureInRange x.resumeTemperature ∧
    x.resumeTemperature < x.tripTemperature ∧ x.resumeHold ≤ 600 ∧ x.gateHold ≤ 600 ∧ x.warmTimeout ≤ 240 ∧
    x.highDuty ≤ 1000 ∧ x.rise ≤ 1000 ∧ 1 ≤ x.serviceCount ∧ x.serviceCount ≤ 10000

/-- The KEYPAD group (R132). -/
abbrev KeypadInRange (k : KeypadSettings) : Prop :=
  20 ≤ k.settle ∧ k.settle ≤ 500 ∧ 100 ≤ k.repeatDelay ∧ k.repeatDelay ≤ 2000 ∧ 20 ≤ k.repeatInterval ∧
    k.repeatInterval ≤ 1000 ∧ k.stuckTime ≤ 600 ∧ CurveInRange 4 2 100 k.curve

/-- A chord entry's setting fields (R148). -/
abbrev ChordInRange (c : ChordSettings) : Prop :=
  2 ≤ setSize c.members ∧ setSize c.members ≤ 4 ∧ c.members &&& c.ignored = 0 ∧ 100 ≤ c.hold ∧ c.hold ≤ 10000

/-- A rung (Table 5-2). -/
abbrev RungInRange (r : Rung) : Prop :=
  1 ≤ r.attempts ∧ r.attempts ≤ 7 ∧ 1 ≤ r.offInterval ∧ r.offInterval ≤ 3600

/-- The rung table (R103). -/
abbrev LadderInRange (rungs : List Rung) : Prop :=
  1 ≤ rungs.length ∧ rungs.length ≤ 6 ∧ ∀ r ∈ rungs, RungInRange r

/-- The TIMING group (Table 5-5). -/
abbrev TimingInRange (t : TimingSettings) : Prop :=
  (10 ≤ t.bootWindow ∧ t.bootWindow ≤ 1800) ∧ (1 ≤ t.runTimeout ∧ t.runTimeout ≤ 600) ∧
    (1 ≤ t.confirmStage ∧ t.confirmStage ≤ 15) ∧ t.stability ≤ 3600 ∧
    (10 ≤ t.hpgTimeout ∧ t.hpgTimeout ≤ 5000) ∧ (10 ≤ t.resetHold ∧ t.resetHold ≤ 2000) ∧
    (10 ≤ t.warmPulse ∧ t.warmPulse ≤ 2000) ∧ t.warningGrace ≤ 300 ∧ t.deferStep ≤ 600 ∧ t.deferLimit ≤ 7 ∧
    t.thermalGrace ≤ 60

/-- Every setting lies in its range (R177). -/
abbrev SettingsInRange (x : Settings) : Prop :=
  (∀ z : Zone, ZoneInRange x.zones[z] ∧ CurveInRange 8 0 1000 x.zones[z].curve) ∧
    x.offBudget ≤ 6000 ∧ x.onBudget ≤ 6000 ∧ FanInRange x.fan ∧ LimitsInRange x.limits ∧ KeypadInRange x.keypad ∧
    (∀ i : ChordIndex, ChordInRange x.chords[i]) ∧ LadderInRange x.ladder ∧ TimingInRange x.timing ∧
    x.mask &&& ~~~causeWeights = 0

/-- Settings law (R177, R179, R181): the working copy, the snapshot being saved, and an image that passes its check lie in
their ranges. -/
abbrev SettingsLaw (s : State) : Prop :=
  SettingsInRange s.settings ∧ (∀ x ∈ s.store.imageWrite.toList, SettingsInRange x.snapshot) ∧
    (s.store.image.checks = true → SettingsInRange s.store.image.contents)

/-! ### Resets (R17, R62, R84, R135, R150, R176) -/

/-- Reset law: from the start of a reset to its end every block is held in its state through the reset. -/
abbrev ResetLaw (s : State) : Prop :=
  (s.resetReply.isSome = true → s.resetting = none) ∧
    (s.resetting.isSome = true →
      s.causes = 0 ∧ s.host.output = [] ∧ s.service.output = [] ∧ s.host.receiver = .hunting ∧
        s.service.receiver = .hunting ∧ s.host.waiting = false ∧ s.service.waiting = false ∧
        s.meas.current = none ∧ s.meas.oneShots = [] ∧ s.meas.fault = false ∧
        s.thermal.allocationTimer = none ∧ s.thermal.fanTimer = none ∧ s.thermal.minuteTimer = none ∧
        s.thermal.checkTimer = none ∧ s.thermal.warmTimer = none ∧ s.thermal.fanDuty = 1000 ∧
        s.thermal.tripped = false ∧ s.seq.state = .off ∧ s.ladder = ⟨0, 0⟩ ∧ s.keypad.row = none ∧
        s.queue.entries = [] ∧ (∀ z : Zone, s.zones[z].frame = none)) ∧
    (s.resetting = some .powerOn → s.seq.hpwrEn = false ∧ s.seq.hrst = true ∧ s.timeBase = 0)

/-! ### The Host Power Sequencer (R63, R64, R66, R67, R107) -/

/-- Sequencer law: HPWR_EN and HRST_N stand at the levels of Table 4-1 outside a reset, each timer of Table 4-2 runs in its
own state only, and the pending warning record and the restart record are present exactly in theirs. -/
abbrev SequencerLaw (s : State) : Prop :=
  (s.resetting = none → s.seq.hpwrEn = poweredIn s.seq.state ∧ s.seq.hrst = heldInReset s.seq.state) ∧
    (s.seq.warning.isSome = decide (s.seq.state = .warned)) ∧
    (s.seq.timers.grace.isSome = decide (s.seq.state = .warned)) ∧
    (s.seq.restart.isSome = decide (s.seq.state = .resetPulse ∨ s.seq.state = .powerDown)) ∧
    (s.seq.timers.hpg.isSome = decide (s.seq.state = .powering)) ∧
    (s.seq.timers.resetHold.isSome = decide (s.seq.state = .resetHold)) ∧
    (s.seq.timers.bootWindow.isSome = decide (s.seq.state = .booting)) ∧
    (s.seq.timers.run.isSome = decide (s.seq.state = .running)) ∧
    (s.seq.timers.pulse.isSome = decide (s.seq.state = .resetPulse)) ∧
    (s.seq.timers.offInterval.isSome = decide (s.seq.state = .powerDown)) ∧
    (s.seq.timers.powerOff.isSome = decide (s.seq.state = .stopping)) ∧
    (s.seq.timers.stability.isSome = true → s.seq.state = .running) ∧
    (s.thermal.warmTimer.isSome = true → s.seq.state = .warming) ∧
    s.seq.stage ≤ 15

/-- Ladder law (R98): the rung index is less than the rung count, and the failures counted are at most the rung's
attempts. -/
abbrev LadderLaw (s : State) : Prop :=
  ∃ h : s.ladder.rung < s.settings.ladder.length, s.ladder.failures ≤ (s.settings.ladder[s.ladder.rung]'h).attempts

/-! ### The Thermal Controller and the Measurement Unit (R29, R32, R50, R8, R12, R14) -/

/-- Heater law (R29, R31, R32): each zone's granted duty is at most its demand duty, and both are 0 while the overheat status
is TRIPPED; the time in a drive frame, in 0.1 ms, stays below the frame's 100 ms. -/
abbrev HeaterLaw (s : State) : Prop :=
  ∀ z : Zone, s.zones[z].grantedDuty ≤ s.zones[z].demandDuty ∧ s.zones[z].demandDuty ≤ 1000 ∧
    (s.thermal.tripped = true → s.zones[z].demandDuty = 0) ∧ ∀ elapsed ∈ s.zones[z].frame.toList, elapsed ≤ 999

/-- Fan law (R50): while HPWR_EN is on, the fan duty is at least the fan minimum; it is at most 1000 ‰. -/
abbrev FanLaw (s : State) : Prop :=
  (s.seq.hpwrEn = true → s.settings.fan.minimum ≤ s.thermal.fanDuty) ∧ s.thermal.fanDuty ≤ 1000

/-- Measurement law (R7, R8, R12, R14): a temperature is present exactly with the reason VALID and lies in range; in FAULT
every reason is CONVERTER_FAULT, in OK none is; the counts stay below the values at which the status changes. -/
abbrev MeasurementLaw (s : State) : Prop :=
  (∀ c : Channel,
      (s.meas.channels[c].temperature.isSome = decide (s.meas.channels[c].reason = .valid)) ∧
        (∀ t ∈ s.meas.channels[c].temperature.toList, TemperatureInRange t) ∧
        (decide (s.meas.channels[c].reason = .converterFault) = s.meas.fault)) ∧
    (s.meas.fault = false → s.meas.failCount ≤ 1) ∧ (s.meas.fault = true → s.meas.passCount ≤ 2) ∧
    s.meas.failCount ≤ 2 ∧ s.meas.passCount ≤ 3

/-! ### The Event Log (R155, R157) -/

/-- The number that follows a sequence number (R157). -/
def followingSeq (q : Full) : Full := if q = BitVec.allOnes 32 then 1 else q + 1

/-- The records run on from a sequence number without a gap, up to the next sequence number (R157). -/
def runsOn (first next : Full) : List LogRecord → Bool
  | [] => decide (first = next)
  | r :: rest => decide (r.seq = first) && runsOn (followingSeq first) next rest

/-- The records are consecutive and end with the newest (R157). -/
def consecutive (log : EventLog) : Bool :=
  match log.ring with
  | [] => decide (log.nextSeq = 1)
  | r :: rest => runsOn r.seq log.nextSeq (r :: rest)

/-- Log law (R155, R157, R160): at most 32 records with consecutive numbers, none of them 0; the counts agree until one of them
saturates or wraps; every temperature lies in range; the ring is empty through a power-on reset only. -/
abbrev LogLaw (s : State) : Prop :=
  s.log.ring.length ≤ 32 ∧ consecutive s.log = true ∧ s.log.nextSeq ≠ 0 ∧ (∀ r ∈ s.log.ring, r.seq ≠ 0) ∧
    (s.log.wrapped = false → s.log.overwrites < 65535 →
      s.log.nextSeq.toNat = s.log.overwrites + s.log.ring.length + 1) ∧
    s.log.overwrites ≤ 65535 ∧ (∀ r ∈ s.log.ring, ∀ t ∈ r.temperature.toList, TemperatureInRange t) ∧
    (s.log.ring = [] → s.resetting = some .powerOn)

/-! ### The keypad and the Key Queue (R124, R127, R130, R142, R145) -/

/-- Keypad law (R124, R127, R130): the held list names each debounced-down position once; a suppressed position is down; a
hold timer runs only for a position that is down and not suppressed; N lies from 2 to 255. -/
abbrev KeypadLaw (s : State) : Prop :=
  s.keypad.held.Nodup ∧
    (∀ p : Position,
      (decide (p ∈ s.keypad.held) = s.keypad.positions[p].debounced) ∧
        (s.keypad.positions[p].suppressed = true → s.keypad.positions[p].debounced = true) ∧
        (s.keypad.positions[p].hold.isSome = true →
          s.keypad.positions[p].debounced = true ∧ s.keypad.positions[p].suppressed = false)) ∧
    2 ≤ s.keypad.debounceCount ∧ s.keypad.debounceCount ≤ 255 ∧ s.keypad.refused ≤ 65535

/-- Queue law (R142 to R145, R173): at most 64 entries, the key causes pending exactly as their conditions say, gap counts
from 1 to 255, counts that hold at 65535. -/
abbrev QueueLaw (s : State) : Prop :=
  s.queue.entries.length ≤ 64 ∧
    (holdsCause s.causes .keys = decide (1 ≤ s.queue.entries.length)) ∧
    (holdsCause s.causes .keysHalf = decide (32 ≤ s.queue.entries.length)) ∧
    (holdsCause s.causes .keysFull = decide (64 ≤ s.queue.entries.length)) ∧
    (s.causes &&& ~~~causeWeights = 0) ∧
    (∀ e ∈ s.queue.entries, ∀ g ∈ e.gap.toList, 1 ≤ g ∧ g ≤ 255) ∧
    s.queue.lost ≤ 65535 ∧ s.queue.flushed ≤ 65535

/-! ### The links and the store (R163, R167, R168, R182, R183) -/

/-- One link's law (R163, R168, R171): at most four frames wait, each of a length that a frame can have, and no counter
passes 65535. -/
abbrev OneLinkLaw (x : LinkState) : Prop :=
  x.output.length ≤ 4 ∧ (∀ f ∈ x.output, f.payload.length ≤ 200) ∧ x.crcErrors ≤ 65535 ∧ x.lengthErrors ≤ 65535 ∧
    x.timeouts ≤ 65535 ∧ x.strays ≤ 65535 ∧ x.discarded ≤ 65535

/-- Link law, on both links. -/
abbrev LinkLaw (s : State) : Prop := OneLinkLaw s.host ∧ OneLinkLaw s.service

/-- How many replies a link still awaits: of one-shot conversions, of a save, of a programming (R167). -/
def repliesAwaited (s : State) (l : Link) : Nat :=
  (s.meas.oneShots.filter fun r => r.link = l).length +
    (match s.store.imageWrite with
      | some w =>
        match w.reply with
        | some (x, _) => if x = l then 1 else 0
        | none => 0
      | none => 0) +
    match s.store.wordWrite with
    | some w => if w.reply.isSome ∧ l = .service then 1 else 0
    | none => 0

/-- Waiting law (R167): a link waits for exactly one reply while its waiting flag is set, and for none otherwise; a
one-shot conversion is of a request that is in the list. -/
abbrev WaitingLaw (s : State) : Prop :=
  (repliesAwaited s .host = if s.host.waiting then 1 else 0) ∧
    (repliesAwaited s .service = if s.service.waiting then 1 else 0) ∧
    (s.meas.current = some .oneShot → s.meas.oneShots ≠ [])

/-- Store law (R182, R183): a word being programmed reads as blank; a cell write is queued only behind another. -/
abbrev StoreLaw (s : State) : Prop :=
  (∀ w ∈ s.store.wordWrite.toList, s.store.words[w.index] = 0xFFFF) ∧
    (s.store.cellQueued = true → s.store.cellWrite.isSome = true) ∧ s.store.flips ≤ 65535 ∧
    s.store.copyA.flips ≤ 65535 ∧ s.store.copyB.flips ≤ 65535 ∧
    (∀ w ∈ s.store.cellWrite.toList, w.copy.flips ≤ 65535)

/-! ### Requests -/

/-- A request taken on the link now reaches its owning block: the receivers take bytes (R172, R176), and the link awaits no
reply (R166, test 4; R167). -/
abbrev Dispatches (l : Link) (s : State) : Prop := receiving s = true ∧ (s.link l).waiting = false

/-- The payload length that a request of fixed length has, by its kind; none for Check-In, which is never answered, for the
requests whose length follows a count in the payload, and for the kinds that name no request. -/
def payloadLength (kind : Nat) : Option Nat :=
  match kind with
  | 0x01 => some 0
  | 0x02 => some 0
  | 0x04 => some 2
  | 0x05 => some 5
  | 0x06 => some 0
  | 0x07 => some 2
  | 0x08 => some 2
  | 0x09 => some 0
  | 0x0A => some 2
  | 0x0B => some 3
  | 0x0C => some 0
  | 0x0D => some 0
  | 0x0E => some 0
  | 0x0F => some 4
  | 0x10 => some 0
  | 0x11 => some 1
  | 0x12 => some 10
  | 0x14 => some 4
  | 0x16 => some 21
  | 0x17 => some 0
  | 0x1A => some 16
  | 0x1C => some 20
  | 0x1D => some 1
  | 0x1E => some 0
  | 0x1F => some 2
  | 0x20 => some 3
  | 0x21 => some 1
  | 0x22 => some 0
  | _ => none

/-- The shortest payload of a request whose length follows a count: up to its count byte (R36, R59, R132, R134, R103). -/
def headLength (kind : Nat) : Option Nat :=
  match kind with
  | 0x13 => some 2
  | 0x15 => some 6
  | 0x18 => some 10
  | 0x19 => some 2
  | 0x1B => some 1
  | _ => none

/-- The payload length that a request's count asks for, when the tests that come before the length pass; none otherwise and for
the other kinds (R36, R59, R132, R134, R103). -/
def countedLength (kind : Nat) (payload : List Byte) : Option Nat :=
  match kind, payload with
  | 0x13, zone :: count :: _ =>
    if zone.toNat ≤ 3 ∧ 1 ≤ count.toNat ∧ count.toNat ≤ 8 then some (2 + 4 * count.toNat) else none
  | 0x15, _ :: _ :: _ :: _ :: _ :: count :: _ =>
    if 1 ≤ count.toNat ∧ count.toNat ≤ 4 then some (6 + 4 * count.toNat) else none
  | 0x18, _ :: _ :: _ :: _ :: _ :: _ :: _ :: _ :: channel :: count :: _ =>
    if channel.toNat ≤ 7 ∧ 1 ≤ count.toNat ∧ count.toNat ≤ 4 then some (10 + 4 * count.toNat) else none
  | 0x19, first :: count :: _ =>
    if 1 ≤ count.toNat ∧ first.toNat + count.toNat ≤ 48 then some (2 + 2 * count.toNat) else none
  | 0x1B, count :: _ => if 1 ≤ count.toNat ∧ count.toNat ≤ 6 then some (1 + 5 * count.toNat) else none
  | _, _ => none

/-! ### Resets that keep the supply (R84, R135, R150, R161, R176, R180, R182, R183) -/

/-- A pin or link reset of a kind has begun in t, out of s: the supply lines, the time base, the log, the counters, the settings
and the persistent stores are kept, the replies of writes in progress are dropped, and everything else restarts (Tables
4-8, 7-6, 8-8, 9-4, 10-10 and 11-4). That the held list is empty from the reset's start on is the model's choice, log entry 42. -/
def HeldOver (kind : ResetKind) (s t : State) : Prop :=
  t.resetting = some kind ∧ t.resetReply = none ∧ t.timeBase = s.timeBase ∧ t.log = s.log ∧ t.causes = 0 ∧
    t.ladder = ⟨0, 0⟩ ∧ t.settings = s.settings ∧
    t.seq =
      { s.seq with state := .off, stage := 0, timers := SequencerTimers.stopped, warning := none, restart := none } ∧
    t.queue =
      { s.queue with
        entries := []
        lost := 0
        flushed := min (s.queue.flushed + s.queue.entries.length) 65535 } ∧
    t.thermal.watch = s.thermal.watch ∧ t.thermal.filterSet = s.thermal.filterSet ∧ t.thermal.fanDuty = 1000 ∧
    t.thermal.tripped = false ∧ t.thermal.startPermitted = false ∧
    (∀ z : Zone, t.zones[z].grantedDuty = 0 ∧ heaterOn t z = false) ∧
    t.meas.fault = false ∧ t.meas.current = none ∧ t.meas.oneShots = [] ∧
    t.keypad.refused = s.keypad.refused ∧ t.keypad.held = [] ∧ t.keypad.row = none ∧
    t.host = { s.host with receiver := .hunting, output := [], waiting := false } ∧
    t.service = { s.service with receiver := .hunting, output := [], waiting := false } ∧
    t.store =
      { s.store with
        imageWrite := s.store.imageWrite.map fun w => { w with reply := none }
        wordWrite := s.store.wordWrite.map fun w => { w with reply := none } }

/-! ### Warnings (R107 to R109, R115, R116) -/

/-- A warning with a grace in ms was announced on the way from s to t: WARNING_ISSUED was appended under a sequence number, in
WARNED, with the cause as its detail; RESTART_PENDING is pending; and the Restart Pending notice, with the bytes of Table
10-9, was handed to the host link when its queue had room for the notices (R108, R109, R168). -/
def WarningAnnounced (w : Warning) (grace : Nat) (seq : Full) (s t : State) : Prop :=
  (∃ r ∈ t.log.ring, r.seq = seq ∧ r.kind = .warningIssued ∧ r.state = .warned ∧
      r.detail = (match w.cause with
        | .checkinTimeout => 0
        | .powerFault => 1
        | .thermal => 2)) ∧
    holdsCause t.causes .restartPending = true ∧
    (s.host.output.length ≤ 1 →
      (⟨0x41, 0,
        ([match w.cause with
          | .checkinTimeout => 0
          | .powerFault => 1
          | .thermal => 2,
          match w.action with
          | .warm => 0
          | .cold _ => 1
          | .off => 2] : List Byte) ++
          twoBytes ((grace + 999) / 1000) ++ [oneByte w.defersLeft, if w.deferPermitted then 1 else 0]⟩ : Frame) ∈
        t.host.output)

/-! ### The boot-slot cell (R99, R182) -/

/-- A write of the contents to the older of two copies (R182): with a write number one above the newer copy's, 0 following 65535;
to the first copy with number 1 when neither is valid. A valid copy is newer than one that is not; of two valid ones the
second is newer when its number is one above the first's, else the first. -/
def WriteToOlder (a b : CellCopy) (slot : Bool) (flips : Nat) (w : CellWrite) : Prop :=
  (a.valid = false → b.valid = false → w = ⟨true, ⟨slot, flips, 1, true⟩⟩) ∧
    (a.valid = true → b.valid = false ∨ b.writeNumber ≠ a.writeNumber + 1 →
      w = ⟨false, ⟨slot, flips, a.writeNumber + 1, true⟩⟩) ∧
    (b.valid = true → a.valid = false ∨ b.writeNumber = a.writeNumber + 1 →
      w = ⟨true, ⟨slot, flips, b.writeNumber + 1, true⟩⟩)

/-- The boot slot was toggled on the way from s to t (R99, R182): the slot changed, the flip count rose and holds at 65535, the new
contents went to the store, or wait behind the write in progress, and SLOT_FLIP was appended under a sequence number, in
the state of s, with the position and the slot as t has them; the rest of the store is kept. -/
def SlotToggled (seq : Full) (s t : State) : Prop :=
  (t.store.slot = !s.store.slot ∧
      t.store.flips = (if s.store.flips < 65535 then s.store.flips + 1 else s.store.flips) ∧
      (s.store.cellWrite = none → t.store.cellQueued = s.store.cellQueued ∧
        ∃ w, t.store.cellWrite = some w ∧ WriteToOlder s.store.copyA s.store.copyB t.store.slot t.store.flips w) ∧
      (s.store.cellWrite.isSome = true → t.store.cellWrite = s.store.cellWrite ∧ t.store.cellQueued = true) ∧
      t.store =
        { s.store with
          slot := t.store.slot
          flips := t.store.flips
          cellWrite := t.store.cellWrite
          cellQueued := t.store.cellQueued }) ∧
    ∃ x ∈ t.log.ring, x.seq = seq ∧ x.kind = .slotFlip ∧ x.detail = (if t.store.slot then 1 else 0) ∧
      x.state = s.seq.state ∧ x.rung = t.ladder.rung ∧ x.failures = t.ladder.failures ∧ x.slot = t.store.slot

/-- A rung was left on the way from s to t: with its flip flag set the boot slot was toggled, otherwise the store is kept (R97). -/
def RungLeft (flip : Bool) (seq : Full) (s t : State) : Prop :=
  if flip then SlotToggled seq s t else t.store = s.store

/-! ### Failures and the ladder (R74, R75, R97, R98, R101, R108) -/

/-- The restart of a rung has begun in t (R74, R75): RESTARTING in the sub-phase of its action, with the restart record, source
LADDER, and its timer; the newest record is RESTART, under a sequence number, and shows the sub-phase and the position. -/
def RestartBegun (r : Rung) (seq : Full) (t : State) : Prop :=
  (match r.action with
    | .warm =>
      t.seq.state = .resetPulse ∧ t.seq.hpwrEn = true ∧ t.seq.hrst = true ∧
        t.seq.restart = some ⟨.warm, none, .ladder, false⟩ ∧
        t.seq.timers =
          { SequencerTimers.stopped with
            pulse := some ⟨t.settings.timing.warmPulse, t.settings.timing.warmPulse⟩ }
    | .cold =>
      t.seq.state = .powerDown ∧ t.seq.hpwrEn = false ∧ t.seq.hrst = true ∧
        t.seq.restart = some ⟨.cold, some r.offInterval, .ladder, false⟩ ∧
        t.seq.timers =
          { SequencerTimers.stopped with offInterval := some ⟨r.offInterval * 1000, r.offInterval * 1000⟩ }) ∧
    ∃ x, t.log.ring.getLast? = some x ∧ x.seq = seq ∧ x.kind = .restart ∧
      x.detail = (match r.action with
        | .warm => 0x0000
        | .cold => 0x0100) ∧
      x.state = t.seq.state ∧ x.rung = t.ladder.rung ∧ x.failures = t.ladder.failures

/-- An action of a rung is carried out in t after a failure of a cause in s (R74, R75, R108): a warning when the failure is one
that is warned of, the rung warns, and the warning grace is not 0; otherwise the restart at once, with its RESTART record. A
warning is announced in both cases, under a sequence number, before the RESTART record. -/
def RungCarriedOut (cause : WarningCause) (warned : Bool) (r : Rung) (seq : Full) (s t : State) : Prop :=
  (warned = true ∧ r.warn = true →
      WarningAnnounced
        ⟨cause,
          match r.action with
          | .warm => .warm
          | .cold => .cold r.offInterval,
          s.settings.timing.deferLimit, true⟩
        (s.settings.timing.warningGrace * 1000) seq s t) ∧
    if warned = true ∧ r.warn = true ∧ 0 < t.settings.timing.warningGrace then
      t.seq.state = .warned ∧
        t.seq.warning =
          some ⟨cause,
            match r.action with
            | .warm => .warm
            | .cold => .cold r.offInterval,
            t.settings.timing.deferLimit, true⟩ ∧
        t.seq.timers.grace =
          some ⟨t.settings.timing.warningGrace * 1000, t.settings.timing.warningGrace * 1000⟩
    else RestartBegun r (if warned = true ∧ r.warn = true then followingSeq seq else seq) t

/-- The computer is locked out in t (R74, R101): HPWR_EN off and HRST_N asserted, no timer running, and the newest record is
LOCKOUT, under a sequence number, and shows the position. -/
def LockedOutWithRecord (seq : Full) (t : State) : Prop :=
  t.seq.state = .lockedOut ∧ t.seq.hpwrEn = false ∧ t.seq.hrst = true ∧ t.seq.timers = SequencerTimers.stopped ∧
    ∃ x, t.log.ring.getLast? = some x ∧ x.seq = seq ∧ x.kind = .lockout ∧ x.detail = 0 ∧ x.state = .lockedOut ∧
      x.rung = t.ladder.rung ∧ x.failures = t.ladder.failures

/-- The state t follows from s by a failure of a cause, whose own record has the number s would give (R74, R97, R98, R99, R101):
the failure is counted on the rung while it has attempts left, else on the next rung, else the ladder locks the computer
out, with a LOCKOUT record; leaving a rung whose flip flag is set toggles the boot slot, with its SLOT_FLIP record. -/
def FailureAnswered (cause : WarningCause) (warned : Bool) (s t : State) : Prop :=
  t.settings = s.settings ∧ ∀ r : Rung, s.settings.ladder[s.ladder.rung]? = some r →
    (s.ladder.failures < r.attempts →
        t.ladder = ⟨s.ladder.rung, s.ladder.failures + 1⟩ ∧ t.store = s.store ∧
          RungCarriedOut cause warned r (followingSeq s.log.nextSeq) s t) ∧
      (r.attempts ≤ s.ladder.failures → ∀ next : Rung, s.settings.ladder[s.ladder.rung + 1]? = some next →
        t.ladder = ⟨s.ladder.rung + 1, 1⟩ ∧ RungLeft r.flip (followingSeq s.log.nextSeq) s t ∧
          RungCarriedOut cause warned next
            (if r.flip then followingSeq (followingSeq s.log.nextSeq) else followingSeq s.log.nextSeq) s t) ∧
      (r.attempts ≤ s.ladder.failures → s.settings.ladder[s.ladder.rung + 1]? = none →
        t.ladder = s.ladder ∧ RungLeft r.flip (followingSeq s.log.nextSeq) s t ∧
          LockedOutWithRecord
            (if r.flip then followingSeq (followingSeq s.log.nextSeq) else followingSeq s.log.nextSeq) t)

/-! ### The overheat monitor and the shutdown demand (R56 to R58, R81, R115, R116) -/

/-- A temperature is the highest that a channel of the overheat mask reads (R57, R58, Table 9-2). -/
def HighestInMask (s : State) (temperature : Int) : Prop :=
  (∃ c : Channel, s.settings.limits.overheatMask.getLsbD c.val = true ∧ reading s c = some temperature) ∧
    ∀ (c : Channel) (other : Int), s.settings.limits.overheatMask.getLsbD c.val = true → reading s c = some other →
      other ≤ temperature

/-- The computer is off in COOLING: HPWR_EN off and HRST_N asserted, no warning and no restart in hand, no timer running. -/
def CoolingOff (t : State) : Prop :=
  t.seq.state = .cooling ∧ t.seq.hpwrEn = false ∧ t.seq.hrst = true ∧ t.seq.warning = none ∧ t.seq.restart = none ∧
    t.seq.timers = SequencerTimers.stopped

/-- The computer is off in OFF after a shutdown demand, with its POWER_OFF record (R80, R81). -/
def DemandOff (t : State) : Prop :=
  t.seq.state = .off ∧ t.seq.hpwrEn = false ∧ t.seq.hrst = true ∧ t.seq.warning = none ∧ t.seq.restart = none ∧
    t.seq.timers = SequencerTimers.stopped ∧
    ∃ r, t.log.ring.getLast? = some r ∧ r.kind = .powerOff ∧ r.detail = 2 ∧ r.state = .off

/-- The thermal warning stands in t with a grace in ms, announced under a sequence number; with a grace of 0 its action has
been carried out at once (R115 to R117). -/
def ThermallyWarned (grace : Nat) (seq : Full) (s t : State) : Prop :=
  WarningAnnounced ⟨.thermal, .off, 0, false⟩ grace seq s t ∧
    if grace = 0 then CoolingOff t
    else
      t.seq.state = .warned ∧ t.seq.warning = some ⟨.thermal, .off, 0, false⟩ ∧
        t.seq.timers.grace = some ⟨grace, grace⟩

/-- The sequencer's part of t follows from s by a shutdown demand, which comes after a record with the number s would give
(R81, R115, R116). -/
def DemandAnswered (s t : State) : Prop :=
  match s.seq.state with
  | .running => ThermallyWarned (s.settings.timing.thermalGrace * 1000) (followingSeq s.log.nextSeq) s t
  | .warned =>
    ∀ w : Warning, s.seq.warning = some w →
      (w.cause = .thermal → t.seq = s.seq) ∧
        (w.cause ≠ .thermal → ∀ x : Timer, s.seq.timers.grace = some x →
          ThermallyWarned (min x.left (s.settings.timing.thermalGrace * 1000)) (followingSeq s.log.nextSeq) s t)
  | .powering => CoolingOff t
  | .resetHold => CoolingOff t
  | .booting => CoolingOff t
  | .resetPulse => CoolingOff t
  | .powerDown => ∀ r : RestartRecord, s.seq.restart = some r → if r.offRequested then DemandOff t else CoolingOff t
  | .stopping => DemandOff t
  | .off => t.seq = s.seq
  | .warming => t.seq = s.seq
  | .cooling => t.seq = s.seq
  | .lockedOut => t.seq = s.seq

/-! ### Scan completions (R125) -/

/-- The key records that a scan completion evaluates: ROW7 sampled and every change counted (R121, R125). -/
def countedPositions (columns : Columns) (s : State) : Vector KeyPosition 48 :=
  mapEach countChange (sampleRow 7 columns s.keypad.positions)

/-- The ROW7 dwell ends with these columns, and no change is due at the scan completion (R125). -/
abbrev Quiet (columns : Columns) (s : State) : Prop :=
  s.keypad.row = some 7 ∧
    ∀ p : Position, changeDue s.keypad.debounceCount (countedPositions columns s)[p] = false

/-! ### Chords (R139, R140) -/

/-- A chord entry matches a set of key records (R139): the positions that are down and not suppressed, without the entry's ignore
set, are exactly its member set. -/
abbrev EntryMatches (c : ChordSettings) (positions : Vector KeyPosition 48) : Prop :=
  ∀ p : Position, c.members.getLsbD p.val = true ↔
    positions[p].debounced = true ∧ positions[p].suppressed = false ∧ c.ignored.getLsbD p.val = false

/-- No chord entry can fire at a scan completion now: none is HOLDING with its hold timer at its length (Table 8-4). -/
abbrev NoChordDue (s : State) : Prop :=
  ∀ i : ChordIndex, s.chords[i].phase ≠ .holding ∨ expired s.chords[i].hold = false

/-! ### All of them -/

/-- The laws of the device together. -/
structure Lawful (s : State) : Prop where
  settings : SettingsLaw s
  reset : ResetLaw s
  sequencer : SequencerLaw s
  ladder : LadderLaw s
  heater : HeaterLaw s
  fan : FanLaw s
  measurement : MeasurementLaw s
  log : LogLaw s
  keypad : KeypadLaw s
  queue : QueueLaw s
  link : LinkLaw s
  waiting : WaitingLaw s
  store : StoreLaw s

end Sys2Proof.Machine
end

