-- ==== Sys2Proof/WellFormed.lean ====
section
/-! DEFINITION. Which commands the outside can send: the payload fits a frame, and a row that is named by a condition on
its bytes meets that condition. The operand types already rule out everything else (a code of 11 bits, a fifth zone). -/

namespace Sys2Proof

/-- A payload fits a frame (Table 10-1: 0 to 200 bytes). -/
def payloadFits (payload : List Byte) : Bool :=
  decide (payload.length ≤ 200)

/-- A kind that names no request: 0x00, or 0x40 to 0xFF (R166, test 1). -/
def kindIsNoRequest (kind : Byte) : Bool :=
  decide (kind.toNat = 0 ∨ 0x40 ≤ kind.toNat)

/-- A kind in the request range that names no request: 0x23 to 0x3F (R166, test 2). -/
def kindIsUnknown (kind : Byte) : Bool :=
  decide (0x23 ≤ kind.toNat ∧ kind.toNat ≤ 0x3F)

/-- The bytes after the sync byte of a frame whose length is in range and agrees with their number (R164). -/
def bodyComplete : List Byte → Bool
  | [] => false
  | length :: rest => !lengthOutOfRange length && decide (rest.length = length.toNat)

/-- A command that the outside can send. -/
def Instr.wellFormed (i : Instr) : Bool :=
  match i with
  | .lengthError _ length => lengthOutOfRange length
  | .crcError _ body check => bodyComplete body && decide (check ≠ crc16 body)
  | .nonRequestFrame _ kind _ payload => kindIsNoRequest kind && payloadFits payload
  | .unknownRequest _ kind _ payload => kindIsUnknown kind && payloadFits payload
  | i =>
    match frameOfCommand i with
    | some (_, f) => payloadFits f.payload
    | none => true

end Sys2Proof
end

