-- ==== Sys2Proof/Certificates/Slice0/Obligations.lean ====
section
/-! DEFINITION. The statements for the provers, chapter by chapter. Each docstring names the rules it formalises; the frame of
a command is the equation itself: the next state is written out as an update of the state before, and every field that the
update does not name is unchanged. -/

section

open Sys2Proof Sys2Proof.Machine

/-! ### The queue of commands -/

/-- A step runs the command at the front of the queue, on the state with the queue's rest; on an empty queue the part
idles (log entry 3). -/
def Obligations.StepRunsFrontCommand : Prop :=
  (∀ (c : Instr) (rest : List Instr) (s : State), s.pending = c :: rest → step s = exec c (s.withPending rest)) ∧
    ∀ s : State, s.pending = [] → step s = .next s

/-- Every command answers a next state in every state, and leaves the queue of waiting commands alone. That an event which
cannot occur in the present state is answered too, and changes nothing, is the model's choice of log entry 7, and what the
commands do through a reset is log entry 21. -/
def Obligations.EveryCommandAnswersAndKeepsTheQueue : Prop :=
  ∀ (i : Instr) (s : State), ∃ t, exec i s = .next t ∧ t.pending = s.pending

/-! ### Chapter 10: frames and receivers -/

/-- The bytes of a frame, arriving at a receiver that hunts, have exactly the effect of the command that the frame is (R163,
R164, R166): check value, length and dispatch together. The frame begins with the sync byte 0x5A, its length counts kind,
tag and payload, and its check value starts at 0xFFFF and takes each byte in eight shifts (R163, Table 10-1). That
INTER_BYTE_TIMEOUT carries the bytes that arrive before the silence, and that a frame they complete is taken, is the model's
choice of log entry 8. -/
def Obligations.WireFrameIsTakenAsItsCommand : Prop :=
  (∀ (l : Link) (f : Frame) (s : State), f.payload.length ≤ 200 → receiving s = true →
    (s.link l).receiver = .hunting → exec (.interByteTimeout l f.wire) s = exec (commandOfFrame l f) s) ∧
    (∀ kind tag : Byte, ∀ payload : List Byte,
      Frame.wire ⟨kind, tag, payload⟩ =
        0x5A :: (oneByte (payload.length + 2) :: kind :: tag :: payload) ++
          halfBytes (crc16 (oneByte (payload.length + 2) :: kind :: tag :: payload))) ∧
    (∀ h : Half, halfBytes h = [h.extractLsb' 8 8, h.extractLsb' 0 8]) ∧
    crc16 [] = 0xFFFF ∧
    ∀ (bytes : List Byte) (b : Byte),
      crc16 (bytes ++ [b]) =
        (fun r : Half => if r.getLsbD 15 then (r <<< 1) ^^^ 0x1021 else r <<< 1)^[8]
          (crc16 bytes ^^^ ((b.zeroExtend 16) <<< 8))

/-- Taking the frame that a command stands for gives back the command, and every frame is some command's: kinds 0x01 to 0x22
are the requests of Table 10-2 in its order, 0x23 to 0x3F are unknown requests, all others no requests (R166). -/
def Obligations.FrameAndCommandAgree : Prop :=
  (∀ (l : Link) (t : Byte) (p : List Byte),
      ((List.range 34).map fun k => commandOfFrame l ⟨oneByte (k + 1), t, p⟩) =
        [.identify l t p, .getStatus l t p, .checkIn l t p, .readKeys l t p, .readLog l t p, .getAttention l t p,
          .clearAttention l t p, .setAttentionMask l t p, .startHost l t p, .powerOff l t p, .restart l t p, .ready l t p,
          .defer l t p, .releaseLockout l t p, .setTime l t p, .readSensors l t p, .sampleChannel l t p, .setZone l t p,
          .setHeaterCurve l t p, .setBudget l t p, .setFan l t p, .setThermalLimits l t p, .clearFilterService l t p,
          .setKeypad l t p, .setKeyEntries l t p, .setChord l t p, .setLadder l t p, .setTiming l t p,
          .readSettings l t p, .saveSettings l t p, .readFactoryWord l t p, .programFactoryWord l t p,
          .getLinkCounters l t p, .resetSupervisor l t p]) ∧
    (∀ (l : Link) (f : Frame), 0x23 ≤ f.kind.toNat → f.kind.toNat ≤ 0x3F →
      commandOfFrame l f = .unknownRequest l f.kind f.tag f.payload) ∧
    (∀ (l : Link) (f : Frame), f.kind = 0 ∨ 0x40 ≤ f.kind.toNat →
      commandOfFrame l f = .nonRequestFrame l f.kind f.tag f.payload) ∧
    (∀ (i : Instr) (l : Link) (f : Frame), i.wellFormed = true → frameOfCommand i = some (l, f) →
      commandOfFrame l f = i) ∧
    ∀ (l : Link) (f : Frame), frameOfCommand (commandOfFrame l f) = some (l, f)

/-- What a receiver counts (R164, R165): a length out of range, a check value that does not agree, a frame that stays
incomplete; and a link on which no sync byte arrives counts nothing. After a length error the length byte is examined again,
and after a CRC error every byte that followed the sync byte: whatever bytes come next, all goes on as when those bytes
arrived at a hunting receiver with the error counted; a frame that they complete is taken, and without a sync byte among
them only the count remains. What the bytes of these rows continue is log entry 8. -/
def Obligations.ReceiveErrorsAreCounted : Prop :=
  (∀ (l : Link) (length : Byte) (s : State), receiving s = true → length.toNat < 2 ∨ 202 < length.toNat →
      exec (.lengthError l length) s =
        .next (s.withLink l
          { s.link l with receiver := .hunting, lengthErrors := bump (s.link l).lengthErrors })) ∧
    (∀ (l : Link) (length : Byte) (more : List Byte) (s : State), receiving s = true → (s.link l).receiver = .hunting →
      length.toNat < 2 ∨ 202 < length.toNat →
      exec (.interByteTimeout l (0x5A :: length :: more)) s =
        exec (.interByteTimeout l (length :: more))
          (s.withLink l { s.link l with lengthErrors := bump (s.link l).lengthErrors })) ∧
    (∀ (l : Link) (length : Byte) (rest body : List Byte) (check : Half) (s counted : State), receiving s = true →
      body = length :: rest → 2 ≤ length.toNat → length.toNat ≤ 202 → rest.length = length.toNat →
      check ≠ crc16 body →
      counted = s.withLink l { s.link l with receiver := .hunting, crcErrors := bump (s.link l).crcErrors } →
      (∃ t, exec (.crcError l body check) s = .next t ∧
          ∀ more : List Byte,
            exec (.interByteTimeout l more) t =
              exec (.interByteTimeout l (body ++ halfBytes check ++ more)) counted) ∧
        (0x5A ∉ body → 0x5A ∉ halfBytes check → exec (.crcError l body check) s = .next counted) ∧
        (∀ (before : List Byte) (f : Frame), body ++ halfBytes check = before ++ f.wire → 0x5A ∉ before →
          f.payload.length ≤ 200 → exec (.crcError l body check) s = exec (commandOfFrame l f) counted) ∧
        ((s.link l).receiver = .hunting →
          ∀ more : List Byte,
            exec (.interByteTimeout l (0x5A :: body ++ halfBytes check ++ more)) s =
              exec (.interByteTimeout l (body ++ halfBytes check ++ more)) counted)) ∧
    (∀ (l : Link) (bytes : List Byte) (age : Nat) (s : State), receiving s = true →
      (s.link l).receiver = .assembling bytes age →
      exec (.interByteTimeout l []) s =
        .next (s.withLink l { s.link l with receiver := .hunting, timeouts := bump (s.link l).timeouts })) ∧
    (∀ (l : Link) (length : Byte) (rest : List Byte) (s : State), receiving s = true →
      (s.link l).receiver = .hunting → 2 ≤ length.toNat → length.toNat ≤ 202 → rest.length < length.toNat + 2 →
      exec (.interByteTimeout l (0x5A :: length :: rest)) s =
        .next (s.withLink l { s.link l with receiver := .hunting, timeouts := bump (s.link l).timeouts })) ∧
    ∀ (l : Link) (bytes : List Byte) (s : State), (s.link l).receiver = .hunting → 0x5A ∉ bytes →
      exec (.interByteTimeout l bytes) s = .next s

/-- The tests of a dispatch that no block makes (R166, R167). Kinds 0x00 and 0x40 to 0xFF are discarded without a reply and
without a count; kinds 0x23 to 0x3F are answered UNKNOWN, also while the link waits; while a link waits for a reply, every
request of a known kind but Check-In is answered BUSY on it; Ready and Defer on the service link, and Program Factory Word
on the host link, are answered WRONG_LINK before their payloads are examined (Table 10-4, R183; log entry 32 says how R166
and R183 are reconciled). Nothing else changes. -/
def Obligations.DispatchTestsRefuse : Prop :=
  (∀ (l : Link) (kind tag : Byte) (payload : List Byte) (s : State), receiving s = true →
      (kind = 0 ∨ 0x40 ≤ kind.toNat →
          exec (.nonRequestFrame l kind tag payload) s = .next (setReceiver l .hunting s)) ∧
        (0x23 ≤ kind.toNat → kind.toNat ≤ 0x3F →
          exec (.unknownRequest l kind tag payload) s =
            .next (sendFrame l ⟨kind + 0x80, tag, [0x11]⟩ (setReceiver l .hunting s)))) ∧
    (∀ (l : Link) (f : Frame) (s : State), receiving s = true → (s.link l).waiting = true → 1 ≤ f.kind.toNat →
      f.kind.toNat ≤ 0x22 → f.kind.toNat ≠ 3 →
      exec (commandOfFrame l f) s =
        .next (sendFrame l ⟨f.kind + 0x80, f.tag, [0x10]⟩ (setReceiver l .hunting s))) ∧
    (∀ (tag : Byte) (payload : List Byte) (s : State), Dispatches .service s →
      exec (.ready .service tag payload) s =
          .next (sendFrame .service ⟨0x8C, tag, [0x15]⟩ (setReceiver .service .hunting s)) ∧
        exec (.defer .service tag payload) s =
          .next (sendFrame .service ⟨0x8D, tag, [0x15]⟩ (setReceiver .service .hunting s))) ∧
    ∀ (tag : Byte) (payload : List Byte) (s : State), Dispatches .host s →
      exec (.programFactoryWord .host tag payload) s =
        .next (sendFrame .host ⟨0xA0, tag, [0x15]⟩ (setReceiver .host .hunting s))

/-- A request with a payload of a wrong length is answered BAD_LENGTH, and nothing else changes, in every supervisor state.
A request of fixed length has that length alone (R16, R34, R38, R55, R60, R68, R102, R104, R146, R148, R153, R159, R169 to
R172, R175, R177 to R179, R183, R184), and where the link is the wrong one, that is answered first. A request whose length
follows a count has its count byte at least, and then the length that the count asks for, once the tests that come before
have passed (R36, R59, R103, R132, R134). -/
def Obligations.WrongLengthIsRefused : Prop :=
  (∀ (l : Link) (f : Frame) (s : State) (n : Nat), Dispatches l s → payloadLength f.kind.toNat = some n →
    f.payload.length ≠ n → (l = .service → f.kind ≠ 0x0C ∧ f.kind ≠ 0x0D) → (l = .host → f.kind ≠ 0x20) →
    exec (commandOfFrame l f) s =
      .next (sendFrame l ⟨f.kind + 0x80, f.tag, [0x12]⟩ (setReceiver l .hunting s))) ∧
    (∀ (l : Link) (f : Frame) (s : State) (n : Nat), Dispatches l s → headLength f.kind.toNat = some n →
      f.payload.length < n →
      exec (commandOfFrame l f) s =
        .next (sendFrame l ⟨f.kind + 0x80, f.tag, [0x12]⟩ (setReceiver l .hunting s))) ∧
    ∀ (l : Link) (f : Frame) (s : State) (n : Nat), Dispatches l s →
      countedLength f.kind.toNat f.payload = some n → f.payload.length ≠ n →
      exec (commandOfFrame l f) s =
        .next (sendFrame l ⟨f.kind + 0x80, f.tag, [0x12]⟩ (setReceiver l .hunting s))

/-- From the moment a Reset Supervisor is taken, and through every reset, no request and no byte has an effect (R172, R176).
That a frame partly assembled when the Reset Supervisor is taken counts no timeout of its gap is the model's choice of log
entry 39. -/
def Obligations.ReceiversAreDeafThroughResets : Prop :=
  (∀ s : State, receiving s = true ↔ s.resetting = none ∧ s.resetReply = none) ∧
    ∀ s : State, receiving s = false →
    (∀ (l : Link) (f : Frame), exec (commandOfFrame l f) s = .next s) ∧
      (∀ (l : Link) (bytes : List Byte), exec (.interByteTimeout l bytes) s = .next s) ∧
      (∀ (l : Link) (length : Byte), exec (.lengthError l length) s = .next s) ∧
      ∀ (l : Link) (body : List Byte) (check : Half), exec (.crcError l body check) s = .next s

/-- The output queue of a link (R168): a frame joins it while it holds fewer than four, otherwise it is discarded and counted; the
oldest frame leaves it when it has been sent. Reset Supervisor (R172): with room in the queue the reply OK is handed over and
the receivers fall deaf; when the reply has left, by FRAME_SENT or by LINK_RESET, the link reset begins; without room the
reply is discarded and the link reset begins at once. LINK_RESET as that moment is log entry 25, and that FRAME_SENT of an
empty queue changes nothing log entry 7. -/
def Obligations.FramesLeaveInOrderAndAResetMayFollow : Prop :=
  ((∀ (l : Link) (f : Frame) (s : State), (s.link l).output.length < 4 →
      sendFrame l f s = s.withLink l { s.link l with output := (s.link l).output ++ [f] }) ∧
    (∀ (l : Link) (f : Frame) (s : State), 4 ≤ (s.link l).output.length →
      sendFrame l f s = s.withLink l { s.link l with discarded := bump (s.link l).discarded }) ∧
    (∀ n : Nat, n ≤ 65535 → bump n = min (n + 1) 65535) ∧
    (∀ (l : Link) (f : Frame) (rest : List Frame) (s : State), (s.link l).output = f :: rest → s.resetReply ≠ some l →
      exec (.frameSent l) s = .next (s.withLink l { s.link l with output := rest })) ∧
    ∀ (l : Link) (s : State), (s.link l).output = [] → exec (.frameSent l) s = .next s) ∧
    ((∀ (l : Link) (tag : Byte) (s : State), Dispatches l s → (s.link l).output.length < 4 →
      exec (.resetSupervisor l tag []) s =
        .next ((s.withLink l
          { s.link l with receiver := .hunting, output := (s.link l).output ++ [⟨0xA2, tag, [0x00]⟩] }).withResetReply
            (some l))) ∧
    (∀ (l : Link) (tag : Byte) (s : State), Dispatches l s → 4 ≤ (s.link l).output.length →
      exec (.resetSupervisor l tag []) s =
        .next (beginReset .link
          (s.withLink l { s.link l with discarded := bump (s.link l).discarded }))) ∧
    (∀ (l : Link) (tag : Byte) (rest : List Frame) (s : State), s.resetReply = some l →
      (s.link l).output = ⟨0xA2, tag, [0x00]⟩ :: rest →
      exec (.frameSent l) s = .next (beginReset .link s)) ∧
    ∀ (l : Link) (s : State), s.resetReply = some l → exec .linkReset s = .next (beginReset .link s))

/-- Identify (R169) and Read Sensors (R16) answer at once with the bytes of their tables, and change nothing else. -/
def Obligations.IdentifyAndReadSensorsReply : Prop :=
  ∀ (l : Link) (tag : Byte) (s : State), Dispatches l s →
    exec (.identify l tag []) s =
        .next (sendFrame l
          ⟨0x81, tag, ([0x00, 0x04, 0x12, 0x01] : List Byte) ++ halfBytes s.store.words[0] ++ halfBytes s.store.words[1] ++
            halfBytes s.store.words[2] ++
            ([match l with
                | .host => 0
                | .service => 1,
              match s.lastReset with
                | .powerOn => 0
                | .pin => 1
                | .link => 2] : List Byte)⟩
          (setReceiver l .hunting s)) ∧
      exec (.readSensors l tag []) s =
        .next (sendFrame l
          ⟨0x90, tag, ([0x00, if s.meas.fault then 1 else 0, oneByte s.meas.failCount, oneByte s.meas.passCount,
            match s.meas.refPtr with
              | .hi => 8
              | .mid => 9
              | .lo => 10] : List Byte) ++ fourBytes s.timeBase ++
            s.meas.channels.toList.flatMap fun r =>
              ([match r.reason with
                | .valid => 0
                | .disabled => 1
                | .noData => 2
                | .openOrShort => 3
                | .converterFault => 4] : List Byte) ++
                (match r.raw with
                  | some c => halfBytes (BitVec.ofNat 16 c)
                  | none => [0xFF, 0xFF]) ++
                (match r.filtered with
                  | some c => halfBytes (BitVec.ofNat 16 c)
                  | none => [0xFF, 0xFF]) ++
                match r.temperature with
                | some t => halfBytes (BitVec.ofInt 16 t)
                | none => [0x80, 0x00]⟩
          (setReceiver l .hunting s))

/-- Get Status (R170, R43, Table 10-5): a reply of 70 bytes with every field at its offset; nothing else changes. The warning
fields are those of the pending warning record, and 0 when there is none. The grace remaining is read as log entry 29 says, in
seconds rounded up, and a gate timer in the whole seconds it has reached, by log entry 24. -/
def Obligations.StatusReplyHasSeventyBytes : Prop :=
  (∀ (l : Link) (tag : Byte) (s : State), Dispatches l s →
    ∃ p : List Byte, exec (.getStatus l tag []) s = .next (sendFrame l ⟨0x82, tag, p⟩ (setReceiver l .hunting s)) ∧
      p.length = 70 ∧ p.take 5 = 0x00 :: fourBytes s.timeBase ∧
      (p.drop 5).take 3 =
        [oneByte (stateCodes s.seq.state).1, oneByte (stateCodes s.seq.state).2,
          oneByte ((if s.seq.hpwrEn then 1 else 0) + (if s.seq.hrst then 2 else 0) + if s.seq.hpg then 4 else 0)] ∧
      (p.drop 8).take 4 =
        [oneByte s.seq.stage, oneByte s.ladder.rung, oneByte s.ladder.failures, if s.store.slot then 1 else 0] ∧
      (p.drop 12).take 2 = twoBytes s.store.flips ∧
      (s.seq.warning = none → (p.drop 14).take 7 = [0, 0, 0, 0, 0, 0, 0]) ∧
      (∀ (w : Warning) (left : Nat), s.seq.warning = some w →
        left = (match s.seq.timers.grace with
          | some x => x.left
          | none => 0) →
        (p.drop 14).take 7 =
          ([1,
            match w.cause with
            | .checkinTimeout => 0
            | .powerFault => 1
            | .thermal => 2,
            match w.action with
            | .warm => 0
            | .cold _ => 1
            | .off => 2] : List Byte) ++
            twoBytes ((left + 999) / 1000) ++ [oneByte w.defersLeft, if w.deferPermitted then 1 else 0]) ∧
      (p.drop 21).take 3 =
        [if s.thermal.startPermitted then 1 else 0, if s.thermal.tripped then 1 else 0,
          if s.meas.fault then 1 else 0] ∧
      (∀ z : Zone, (p.drop (24 + 8 * z.val)).take 8 =
        twoBytes s.zones[z].demandDuty ++ twoBytes s.zones[z].grantedDuty ++
          [oneByte s.zones[z].priority,
            match s.zones[z].gate with
            | .blocking => 0
            | .counting => 1
            | .released => 2] ++
          twoBytes (s.zones[z].gateTimer / 1000)) ∧
      (p.drop 56).take 4 = twoBytes s.thermal.fanDuty ++ twoBytes s.thermal.speed ∧
      (p.drop 60).take 4 =
        [if s.thermal.fanFault then 1 else 0, if s.thermal.filterSet then 1 else 0] ++ twoBytes s.thermal.watch ∧
      (p.drop 64).take 2 = [oneByte s.queue.entries.length, oneByte s.keypad.debounceCount] ∧
      p.drop 66 = twoBytes s.keypad.refused ++ halfBytes s.causes) ∧
    ∀ st : SupervisorState, stateCodes st =
      match st with
      | .off => (0, 0)
      | .warming => (1, 0)
      | .powering => (2, 1)
      | .resetHold => (2, 2)
      | .booting => (2, 3)
      | .running => (3, 0)
      | .warned => (4, 0)
      | .resetPulse => (5, 4)
      | .powerDown => (5, 5)
      | .stopping => (6, 0)
      | .cooling => (7, 0)
      | .lockedOut => (8, 0)

/-- Get Link Counters (R171): the ten counters in their order; option 1 then sets all ten to 0, option 0 changes nothing,
any other option is answered BAD_VALUE. That the clearing comes before the reply is handed over, so that a reply which a full
queue discards leaves that link's discarded counter at 1, is the model's choice of log entry 17. -/
def Obligations.LinkCountersAreReadAndCleared : Prop :=
  ∀ (l : Link) (tag : Byte) (s : State), Dispatches l s →
    (exec (.getLinkCounters l tag [0]) s =
        .next (sendFrame l ⟨0xA1, tag, 0x00 :: counterBytes s.host ++ counterBytes s.service⟩
          (setReceiver l .hunting s))) ∧
      (exec (.getLinkCounters l tag [1]) s =
        .next (sendFrame l ⟨0xA1, tag, 0x00 :: counterBytes s.host ++ counterBytes s.service⟩
          (setReceiver l .hunting
            { s with
              host :=
                { s.host with crcErrors := 0, lengthErrors := 0, timeouts := 0, strays := 0, discarded := 0 }
              service :=
                { s.service with crcErrors := 0, lengthErrors := 0, timeouts := 0, strays := 0, discarded := 0 } }))) ∧
      (∀ option : Byte, 1 < option.toNat →
        exec (.getLinkCounters l tag [option]) s =
          .next (sendFrame l ⟨0xA1, tag, [0x13]⟩ (setReceiver l .hunting s))) ∧
      ∀ x : LinkState, counterBytes x =
        twoBytes x.crcErrors ++ twoBytes x.lengthErrors ++ twoBytes x.timeouts ++ twoBytes x.strays ++
          twoBytes x.discarded

/-- Attention (R173 to R175). A cause is set: already pending, nothing happens; otherwise its weight joins the pending set, and
when the mask enables it one Attention Raised notice with its position and the new set is handed to the host link. ATTN_N
is asserted exactly when some pending cause is enabled in the mask. Get Attention reports the pending set and the mask; Clear
Attention takes away the latched causes named and no level cause; Set Attention Mask replaces the mask, weights above 512
cleared. Nothing else changes. The weight of a cause is that of its position in Table 10-6. -/
def Obligations.AttentionIsRaisedReadAndCleared : Prop :=
  ((∀ (c : Cause) (s : State), holdsCause s.causes c = true → raise c s = s) ∧
    (∀ (c : Cause) (s : State), holdsCause s.causes c = false → holdsCause s.settings.mask c = false →
      raise c s = { s with causes := s.causes ||| causeWeight c }) ∧
    (∀ (c : Cause) (s : State), holdsCause s.causes c = false → holdsCause s.settings.mask c = true →
      raise c s =
        sendFrame .host ⟨0x40, 0, oneByte (causePosition c) :: halfBytes (s.causes ||| causeWeight c)⟩
          { s with causes := s.causes ||| causeWeight c }) ∧
    (∀ (c : Cause) (set : Half),
      causePosition c =
          ([.keys, .keysHalf, .keysFull, .restartPending, .thermal, .fan, .filter, .converter, .log, .settings] :
            List Cause).idxOf c ∧
        causeWeight c = BitVec.ofNat 16 (2 ^ causePosition c) ∧ holdsCause set c = set.getLsbD (causePosition c)) ∧
    ∀ s : State, s.causes &&& 0xFC00 = 0 →
      (attnAsserted s = true ↔ ∃ c : Cause, holdsCause s.causes c = true ∧ holdsCause s.settings.mask c = true)) ∧
    (∀ (l : Link) (tag a b : Byte) (s : State), Dispatches l s →
    (exec (.getAttention l tag []) s =
        .next (sendFrame l ⟨0x86, tag, 0x00 :: halfBytes s.causes ++ halfBytes s.settings.mask⟩
          (setReceiver l .hunting s))) ∧
      (∃ set : Half, (∀ n < 16, set.getLsbD n = (s.causes.getLsbD n && (decide (n < 3) || !(a ++ b).getLsbD n))) ∧
        exec (.clearAttention l tag [a, b]) s =
          .next (sendFrame l
            ⟨0x87, tag, (if a.toNat < 4 then 0x00 else 0x01) :: halfBytes set⟩
            (setReceiver l .hunting { s with causes := set }))) ∧
      (∃ mask : Half, (∀ n < 16, mask.getLsbD n = (decide (n < 10) && (a ++ b).getLsbD n)) ∧
        exec (.setAttentionMask l tag [a, b]) s =
          .next (sendFrame l
            ⟨0x88, tag, (if a.toNat < 4 then 0x00 else 0x01) :: halfBytes mask⟩
            (setReceiver l .hunting { s with settings := { s.settings with mask := mask } }))))


/-! ### Chapter 9: the Event Log and the time base -/

/-- An append (R154, R155, R157, R158): the record takes the next sequence number and is stamped with the state in force; a ring
of 32 loses its oldest record and counts it; LOG is set; nothing else changes. That the numbering counts as passed (wrapped)
from the append of record 4 294 967 295 on is the model's choice of log entry 37. -/
def Obligations.RecordIsAppendedWithItsStamp : Prop :=
  ∀ (kind : RecordKind) (detail : Half) (s : State),
    ∃ r : LogRecord,
      r = { seq := s.log.nextSeq, time := s.timeBase, kind := kind, state := s.seq.state, rung := s.ladder.rung,
            failures := s.ladder.failures, slot := s.store.slot,
            temperature :=
              if s.meas.channels[s.settings.limits.board].reason = .valid then
                s.meas.channels[s.settings.limits.board].temperature
              else none,
            detail := detail } ∧
        appendLog kind detail s =
          raise .log
            { s with
              log :=
                { ring := if s.log.ring.length < 32 then s.log.ring ++ [r] else s.log.ring.drop 1 ++ [r]
                  nextSeq := if s.log.nextSeq = 0xFFFFFFFF then 1 else s.log.nextSeq + 1
                  wrapped := s.log.wrapped || decide (s.log.nextSeq = 0xFFFFFFFF)
                  overwrites := if s.log.ring.length < 32 then s.log.overwrites else bump s.log.overwrites } }

/-- The time base (R152, R153). In one millisecond it advances, and stays 0 through a power-on reset; each running timer has one
millisecond less to go; the log, the queue, the settings and the grants are untouched. Set Time gives it the value, appends
a TIME_SET record tagged with it, and answers the old value; every record and entry already held keeps its tag, and no timer
changes. A tick is one millisecond for every timer by log entry 5, and the reply follows the record by log entry 10. -/
def Obligations.TimeBaseCountsAndIsSet : Prop :=
  (∀ s : State, ∃ t : State, exec .timeBaseTick s = .next t ∧
    (s.resetting ≠ some .powerOn → t.timeBase = s.timeBase + 1) ∧
    (s.resetting = some .powerOn → t.timeBase = s.timeBase) ∧
    t.seq.timers =
      ⟨tickTimer s.seq.timers.hpg, tickTimer s.seq.timers.resetHold, tickTimer s.seq.timers.bootWindow,
        tickTimer s.seq.timers.run, tickTimer s.seq.timers.stability, tickTimer s.seq.timers.grace,
        tickTimer s.seq.timers.pulse, tickTimer s.seq.timers.offInterval, tickTimer s.seq.timers.powerOff⟩ ∧
    (∀ x : Timer, tickTimer (some x) = some ⟨x.length, x.left - 1⟩) ∧ tickTimer none = none ∧
    (∀ p : Position, t.keypad.positions[p] =
      { s.keypad.positions[p] with hold := tickTimer s.keypad.positions[p].hold }) ∧
    (∀ i : ChordIndex, t.chords[i] = { s.chords[i] with hold := tickTimer s.chords[i].hold }) ∧
    t.seq = { s.seq with timers := t.seq.timers } ∧
    t.thermal =
      { s.thermal with
        allocationTimer := tickTimer s.thermal.allocationTimer
        fanTimer := tickTimer s.thermal.fanTimer
        minuteTimer := tickTimer s.thermal.minuteTimer
        checkTimer := tickTimer s.thermal.checkTimer
        warmTimer := tickTimer s.thermal.warmTimer } ∧
    (∀ z : Zone, t.zones[z] = { s.zones[z] with frame := t.zones[z].frame }) ∧
    t = { s with
          timeBase := t.timeBase
          host := { s.host with receiver := t.host.receiver }
          service := { s.service with receiver := t.service.receiver }
          zones := t.zones
          thermal := t.thermal
          seq := t.seq
          keypad := { s.keypad with positions := t.keypad.positions, repeatTimer := tickTimer s.keypad.repeatTimer }
          chords := t.chords }) ∧
    (∀ (l : Link) (tag a b c d : Byte) (s : State), Dispatches l s →
    exec (.setTime l tag [a, b, c, d]) s =
      .next (sendFrame l ⟨0x8F, tag, 0x00 :: fourBytes s.timeBase⟩
        (appendLog .timeSet 0 (setReceiver l .hunting { s with timeBase := a ++ b ++ c ++ d }))))

/-- Read Log (R159, R160): the records from the from-sequence onward, at most ten and at most the count asked for, with the three
counts; a count above 10 is CLAMPED, one of 0 is answered BAD_VALUE; nothing else changes. Before the first wrap of the
numbering the numbers are compared as plain ones; after it a from-sequence that the ring does not hold is below the oldest
when it is 0 or one of the 2 147 483 647 numbers before it in the cycle, else above the newest. When the wrap counts as
passed is the model's choice of log entry 37. Each record has the 16 bytes of Table 10-8, with the kind codes of Table 9-2
and the state codes of Table 10-5. -/
def Obligations.ReadLogReturnsTheRunAskedFor : Prop :=
  (∀ (l : Link) (tag a b c d count : Byte) (s : State), Dispatches l s → LogLaw s → s.log.wrapped = false →
    s.log.ring.length < s.log.nextSeq.toNat → 0 < count.toNat →
    exec (.readLog l tag [a, b, c, d, count]) s =
      .next (sendFrame l
        ⟨0x85, tag,
          (if 10 < count.toNat then 0x01 else 0x00) ::
            oneByte ((s.log.ring.filter fun r => (a ++ b ++ c ++ d).toNat ≤ r.seq.toNat).take
              (min count.toNat 10)).length ::
            (fourBytes (oldestSeq s.log) ++ fourBytes (newestSeq s.log) ++ twoBytes s.log.overwrites ++
              ((s.log.ring.filter fun r => (a ++ b ++ c ++ d).toNat ≤ r.seq.toNat).take
                (min count.toNat 10)).flatMap recordBytes)⟩
        (setReceiver l .hunting s))) ∧
    (∀ (l : Link) (tag a b c d : Byte) (s : State), Dispatches l s →
      exec (.readLog l tag [a, b, c, d, 0]) s =
        .next (sendFrame l ⟨0x85, tag, [0x13]⟩ (setReceiver l .hunting s))) ∧
    (∀ (l : Link) (tag a b c d count : Byte) (start : Nat) (s : State), Dispatches l s → LogLaw s →
      s.log.wrapped = true → start = (a ++ b ++ c ++ d).toNat → 0 < count.toNat →
      ∃ records : List LogRecord,
        exec (.readLog l tag [a, b, c, d, count]) s =
          .next (sendFrame l
            ⟨0x85, tag,
              (if 10 < count.toNat then 0x01 else 0x00) :: oneByte (records.take (min count.toNat 10)).length ::
                (fourBytes (oldestSeq s.log) ++ fourBytes (newestSeq s.log) ++ twoBytes s.log.overwrites ++
                  (records.take (min count.toNat 10)).flatMap recordBytes)⟩
            (setReceiver l .hunting s)) ∧
        (∀ i : Nat, (s.log.ring[i]?.map fun r => r.seq.toNat) = some start → records = s.log.ring.drop i) ∧
        (start = 0 → records = s.log.ring) ∧
        ∀ oldest : LogRecord, s.log.ring.head? = some oldest → (∀ r ∈ s.log.ring, r.seq.toNat ≠ start) → start ≠ 0 →
          records =
            if 1 ≤ (oldest.seq.toNat + 4294967295 - start) % 4294967295 ∧
                (oldest.seq.toNat + 4294967295 - start) % 4294967295 ≤ 2147483647 then
              s.log.ring
            else []) ∧
    (∀ (first last : LogRecord) (log : EventLog), log.ring.head? = some first → log.ring.getLast? = some last →
      oldestSeq log = first.seq ∧ newestSeq log = last.seq) ∧
    ∀ r : LogRecord,
      (recordBytes r).length = 16 ∧ (recordBytes r).take 8 = fourBytes r.seq ++ fourBytes r.time ∧
        (recordBytes r).drop 8 =
          [oneByte
              (([.powerOn, .supervisorReset, .hostStart, .bootConfirmed, .stable, .hostReboot, .checkinTimeout, .powerFault,
                .warningIssued, .warningDeferred, .warningCancelled, .restart, .powerOff, .slotFlip, .lockout,
                .lockoutReleased, .warmTimeout, .thermalTrip, .thermalResume, .fanFault, .fanOk, .filterService,
                .converterFault, .converterOk, .chord, .settingsDefaulted, .timeSet] : List RecordKind).idxOf r.kind + 1),
            oneByte ((stateCodes r.state).1 * 16 + (stateCodes r.state).2), oneByte (r.rung * 16 + r.failures),
            if r.slot then 1 else 0] ++
            (match r.temperature with
            | some t => halfBytes (BitVec.ofInt 16 t)
            | none => [0x80, 0x00]) ++
            halfBytes r.detail

/-! ### Chapter 11: the stores -/

/-- Read Settings (R178, Table 11-1): for settings in range every group answers with its code and its contents, the payload of
the Set request that writes the group, zone by zone and entry by entry, of a length that the table gives; a code above 10 is
answered BAD_VALUE; nothing else changes. -/
def Obligations.ReadSettingsReturnsTheGroup : Prop :=
  ∀ (l : Link) (tag code : Byte) (s : State), Dispatches l s →
    (∀ contents : List Byte, code.toNat ≤ 10 →
      contents = (match code.toNat with
        | 0 => ([0, 1, 2, 3] : List Zone).flatMap fun z =>
          zonePayload z s.settings.zones[z] ++ curvePayload z s.settings.zones[z].curve
        | 1 => twoBytes s.settings.offBudget ++ twoBytes s.settings.onBudget
        | 2 => fanPayload s.settings.fan
        | 3 => limitsPayload s.settings.limits s.settings.channelEnable
        | 4 => keypadPayload s.settings.keypad
        | 5 => keyEntriesPayload 0 s.settings.keys.toList
        | 6 => ([0, 1, 2, 3] : List ChordIndex).flatMap fun i => chordPayload i s.settings.chords[i]
        | 7 => ladderPayload s.settings.ladder
        | 8 => timingPayload s.settings.timing
        | 9 => halfBytes s.settings.mask
        | _ => [s.settings.channelEnable]) →
      exec (.readSettings l tag [code]) s =
          .next (sendFrame l ⟨0x9D, tag, 0x00 :: code :: contents⟩ (setReceiver l .hunting s)) ∧
        (SettingsInRange s.settings →
          (code.toNat = 0 → 64 ≤ contents.length ∧ contents.length ≤ 176) ∧
            (code.toNat = 1 → contents.length = 4) ∧
            (code.toNat = 2 → 10 ≤ contents.length ∧ contents.length ≤ 22) ∧
            (code.toNat = 3 → contents.length = 21) ∧
            (code.toNat = 4 → 14 ≤ contents.length ∧ contents.length ≤ 26) ∧
            (code.toNat = 5 → contents.length = 98) ∧
            (code.toNat = 6 → contents.length = 64) ∧
            (code.toNat = 7 → 6 ≤ contents.length ∧ contents.length ≤ 31) ∧
            (code.toNat = 8 → contents.length = 20) ∧
            (code.toNat = 9 → contents.length = 2) ∧
            (code.toNat = 10 → contents.length = 1))) ∧
      (10 < code.toNat →
        exec (.readSettings l tag [code]) s = .next (sendFrame l ⟨0x9D, tag, [0x13]⟩ (setReceiver l .hunting s)))

/-- Save Settings, its end, and the supply (R167, R179 to R181): the snapshot is taken and the link waits, or BUSY is answered
while an image is being written; at the end the reply says whether the readback agreed, and the link stops waiting; the
working copy is not changed. The image then holds the snapshot and passes its check when the readback agreed; after one that
differs it holds whatever was found and fails its check, which the model writes as the snapshot with a failing check (log
entry 14). After a power-on reset and its end the working copy is the snapshot of a save that completed with OK, and the
defaults after a save that failed or was cut short. -/
def Obligations.SavedSettingsOutliveThePower : Prop :=
  ((∀ (l : Link) (tag : Byte) (s : State), Dispatches l s → s.store.imageWrite = none →
      exec (.saveSettings l tag []) s =
        .next (setWaiting l true
          (setReceiver l .hunting { s with store := { s.store with imageWrite := some ⟨s.settings, some (l, tag)⟩ } }))) ∧
    (∀ (l : Link) (tag : Byte) (s : State), Dispatches l s → s.store.imageWrite.isSome = true →
      exec (.saveSettings l tag []) s = .next (sendFrame l ⟨0x9E, tag, [0x10]⟩ (setReceiver l .hunting s))) ∧
    (∀ (l : Link) (tag : Byte) (saved : Settings) (agrees : Bool) (s : State),
      s.store.imageWrite = some ⟨saved, some (l, tag)⟩ →
      exec (.saveComplete agrees) s =
        .next (setWaiting l false
          (sendFrame l ⟨0x9E, tag, [if agrees then 0x00 else 0x17]⟩
            { s with store := { s.store with image := ⟨saved, 1, agrees⟩, imageWrite := none } }))) ∧
    ∀ (saved : Settings) (agrees : Bool) (s : State), s.store.imageWrite = some ⟨saved, none⟩ →
      exec (.saveComplete agrees) s =
        .next { s with store := { s.store with image := ⟨saved, 1, agrees⟩, imageWrite := none } }) ∧
    (∀ (saved : Settings) (reply : Option (Link × Byte)) (agrees : Bool) (s t u v : State),
    s.store.imageWrite = some ⟨saved, reply⟩ →
    (exec (.saveComplete agrees) s = .next t → exec .powerOnReset t = .next u → exec .resetEnd u = .next v →
      v.settings = if agrees then saved else Settings.defaults) ∧
    (exec .powerOnReset s = .next u → exec .resetEnd u = .next v → v.settings = Settings.defaults))

/-- Program Factory Word and its end (R183): a blank word is written and reads as blank until the write ends; then it holds what
the readback found, and the reply tells whether that is the value. An index above 31, the value 0xFFFF and a word that
is not blank are refused. -/
def Obligations.FactoryWordIsWrittenOnce : Prop :=
  (∀ (tag v1 v0 : Byte) (i : Fin 32) (s : State), Dispatches .service s → v1 ++ v0 ≠ (0xFFFF : Half) →
      s.store.words[i] = 0xFFFF →
      exec (.programFactoryWord .service tag [oneByte i.val, v1, v0]) s =
        .next (setWaiting .service true
          (setReceiver .service .hunting
            { s with store := { s.store with wordWrite := some ⟨i, v1 ++ v0, some tag⟩ } }))) ∧
    (∀ (tag index v1 v0 : Byte) (s : State), Dispatches .service s → 31 < index.toNat ∨ v1 ++ v0 = (0xFFFF : Half) →
      exec (.programFactoryWord .service tag [index, v1, v0]) s =
        .next (sendFrame .service ⟨0xA0, tag, [0x13]⟩ (setReceiver .service .hunting s))) ∧
    (∀ (tag v1 v0 : Byte) (i : Fin 32) (s : State), Dispatches .service s → v1 ++ v0 ≠ (0xFFFF : Half) →
      s.store.words[i] ≠ 0xFFFF →
      exec (.programFactoryWord .service tag [oneByte i.val, v1, v0]) s =
        .next (sendFrame .service ⟨0xA0, tag, [0x16]⟩ (setReceiver .service .hunting s))) ∧
    ∀ (tag : Byte) (i : Fin 32) (value readback : Half) (s : State), s.store.wordWrite = some ⟨i, value, some tag⟩ →
      exec (.factoryWriteComplete readback) s =
        .next (setWaiting .service false
          (sendFrame .service
            ⟨0xA0, tag, if readback = value then 0x00 :: oneByte i.val :: halfBytes value else [0x17]⟩
            { s with
              store := { s.store with words := put s.store.words i readback, wordWrite := none } }))

/-- Read Factory Word (R184), whole: its refusals, its reply, the words in their order, a blank word as 0xFFFF, and, from
either link, a word that is being programmed as blank. -/
def Obligations.FactoryWordsAreRead : Prop :=
  (∀ (l : Link) (tag first count : Byte) (s : State), Dispatches l s → first.toNat ≤ 31 → 1 ≤ count.toNat →
      first.toNat + count.toNat ≤ 32 →
      exec (.readFactoryWord l tag [first, count]) s =
        .next (sendFrame l
          ⟨0x9F, tag, 0x00 :: first :: count ::
            ((s.store.words.toList.drop first.toNat).take count.toNat).flatMap halfBytes⟩
          (setReceiver l .hunting s))) ∧
    (∀ (l : Link) (tag first count : Byte) (s : State), Dispatches l s →
      31 < first.toNat ∨ count.toNat = 0 ∨ 32 < first.toNat + count.toNat →
      exec (.readFactoryWord l tag [first, count]) s =
        .next (sendFrame l ⟨0x9F, tag, [0x13]⟩ (setReceiver l .hunting s))) ∧
    (∀ (l : Link) (tag : Byte) (payload : List Byte) (s : State), Dispatches l s → payload.length ≠ 2 →
      exec (.readFactoryWord l tag payload) s =
        .next (sendFrame l ⟨0x9F, tag, [0x12]⟩ (setReceiver l .hunting s))) ∧
    (∀ (l : Link) (tag : Byte) (w : WordWrite) (s : State), Dispatches l s → StoreLaw s → s.store.wordWrite = some w →
      exec (.readFactoryWord l tag [oneByte w.index.val, 1]) s =
        .next (sendFrame l ⟨0x9F, tag, [0x00, oneByte w.index.val, 1, 0xFF, 0xFF]⟩ (setReceiver l .hunting s))) ∧
    halfBytes 0xFFFF = [0xFF, 0xFF]

/-- The boot-slot cell (R99, R182): a write that ends puts its contents into its copy, and begins a queued write, of the
contents as they stand, to the older copy with a write number one above the newer one's; a flip is written in the same way,
or queued; the image and the factory words are untouched. A power-on reset with no write in progress reads the newer valid
copy, and slot 0 with count 0 when neither is valid; one during the write that a flip began, over a cell that would have
read its contents back, finds the contents before the flip. That CELL_WRITE_COMPLETE with no write in progress changes
nothing is the model's choice of log entry 7. -/
def Obligations.BootSlotCellSurvivesThePower : Prop :=
  (∀ (copy : CellCopy) (s : State), s.store.cellWrite = some ⟨true, copy⟩ → s.store.cellQueued = false →
      exec .cellWriteComplete s = .next { s with store := { s.store with copyA := copy, cellWrite := none } }) ∧
    (∀ (copy : CellCopy) (s : State), s.store.cellWrite = some ⟨false, copy⟩ → s.store.cellQueued = false →
      exec .cellWriteComplete s = .next { s with store := { s.store with copyB := copy, cellWrite := none } }) ∧
    (∀ (w : CellWrite) (a b : CellCopy) (s : State), s.store.cellWrite = some w → s.store.cellQueued = true →
      a = (if w.toFirst then w.copy else s.store.copyA) → b = (if w.toFirst then s.store.copyB else w.copy) →
      ∃ next : CellWrite, WriteToOlder a b s.store.slot s.store.flips next ∧ next.copy.slot = s.store.slot ∧
        next.copy.flips = s.store.flips ∧ next.copy.valid = true ∧
        exec .cellWriteComplete s =
          .next { s with
                  store :=
                    { s.store with copyA := a, copyB := b, cellWrite := some next, cellQueued := false } }) ∧
    (∀ s : State, s.store.cellWrite = none → exec .cellWriteComplete s = .next s) ∧
    (∀ s : State, SlotToggled s.log.nextSeq s (flipSlot s)) ∧
    (∀ s t : State, s.store.cellWrite = none → exec .powerOnReset s = .next t →
      (s.store.copyA.valid = false → s.store.copyB.valid = false → t.store.slot = false ∧ t.store.flips = 0) ∧
        (s.store.copyA.valid = true →
          s.store.copyB.valid = false ∨ s.store.copyB.writeNumber ≠ s.store.copyA.writeNumber + 1 →
          t.store.slot = s.store.copyA.slot ∧ t.store.flips = s.store.copyA.flips) ∧
        (s.store.copyB.valid = true →
          s.store.copyA.valid = false ∨ s.store.copyB.writeNumber = s.store.copyA.writeNumber + 1 →
          t.store.slot = s.store.copyB.slot ∧ t.store.flips = s.store.copyB.flips)) ∧
    ∀ s t u v : State, s.store.cellWrite = none → exec .powerOnReset s = .next v →
      v.store.slot = s.store.slot → v.store.flips = s.store.flips →
      t = flipSlot s → exec .powerOnReset t = .next u →
      t.store.slot = !s.store.slot ∧ t.store.flips = bump s.store.flips ∧ u.store.slot = s.store.slot ∧
        u.store.flips = s.store.flips

/-! ### Resets (R84, R85, R86, R150, R161, R176) -/

/-- The start of a reset (R84, R150, R161, R172, R176, R180, Tables 4-8, 8-8, 9-4 and 10-10): what a power-on reset restarts, and
what a pin reset and a link reset keep: the supply lines, the time base, the log, the counters, the settings and the
persistent stores, whose writes go on without their replies. That a pin reset does not count through a power-on reset is log
entry 30, and no clause is about one. That LINK_RESET is the moment at which the reply of a Reset Supervisor has left is log
entry 25. That a pin or link reset empties the held list at its start and not at its end is the model's
choice, log entry 42. -/
def Obligations.ResetsBegin : Prop :=
  (∀ s : State, ∃ t, exec .powerOnReset s = .next t ∧ t.resetting = some .powerOn ∧ t.seq.hpwrEn = false ∧
      t.seq.hrst = true ∧ t.seq.state = .off ∧ t.seq.timers = SequencerTimers.stopped ∧ t.seq.warning = none ∧
      t.seq.restart = none ∧ t.seq.stage = 0 ∧ t.timeBase = 0 ∧ t.log.ring = [] ∧ t.log.nextSeq = 1 ∧
      t.log.overwrites = 0 ∧ t.queue = ⟨[], 0, 0, 0⟩ ∧ t.causes = 0 ∧ t.ladder = ⟨0, 0⟩ ∧ t.thermal.watch = 0 ∧
      t.thermal.filterSet = false ∧ t.thermal.fanDuty = 1000 ∧ t.keypad.refused = 0 ∧
      t.host = LinkState.fresh [] ∧ t.service = LinkState.fresh [] ∧
      (s.store.imageWrite = none → t.store.image = s.store.image) ∧
      (s.store.imageWrite ≠ none → t.store.image.checks = false) ∧
      (s.store.wordWrite = none → t.store.words = s.store.words) ∧
      t.store.imageWrite = none ∧ t.store.cellWrite = none ∧ t.store.wordWrite = none) ∧
    (∀ s : State, s.resetting ≠ some .powerOn → ∃ t, exec .pinReset s = .next t ∧ HeldOver .pin s t) ∧
    (∀ s : State, s.resetReply.isSome = true → ∃ t, exec .linkReset s = .next t ∧ HeldOver .link s t) ∧
    ∀ (l : Link) (f : Frame) (rest : List Frame) (s : State), s.resetReply = some l → (s.link l).output = f :: rest →
      f.kind = 0xA2 → f.payload = [0x00] → ∃ t, exec (.frameSent l) s = .next t ∧ HeldOver .link s t

/-- The end of a reset in which no persistent write is left (R85, R86, R161, R181): the settings are loaded or kept; the reset
record comes first; when the image was bad SETTINGS_DEFAULTED follows, with the SETTINGS cause; then the sequencer adopts a
powered computer, with HOST_START "adopted", takes an HPG loss, with its POWER_FAULT record and the answer of the ladder's
first rung, never warned, or goes to OFF and with autostart on to WARMING. The blocks stand at Tables 1-8, 2-11, 3-6, 7-6 and
8-8 (R17, R39, R62, R135, R150): a new round by the enables loaded, with NO_DATA or DISABLED for each channel; each zone's
initial priority, its gate by its gate flag, and the frames begun with HTR0's; the four periods started, and start permitted
when no zone has its gate flag set; the warm timer started in WARMING alone (R46); the rows driven from ROW0, with the debounce
time the largest of the curve's points and N from it (R124); every chord IDLE. The level of HPG is the one last taken, by log
entry 2; that HOST_START "adopted" shows STARTING/BOOTING is log entry 12. A pin or link reset does not end while a persistent
write is in progress (Table 11-4; log entry 16), and outside a reset RESET_END changes nothing (log entry 7). -/
def Obligations.ResetsEnd : Prop :=
  (∀ (kind : ResetKind) (s : State), s.resetting = some kind → kind ≠ .powerOn →
      s.store.imageWrite ≠ none ∨ s.store.cellWrite ≠ none ∨ s.store.wordWrite ≠ none →
      exec .resetEnd s = .next s) ∧
    (∀ s : State, s.resetting = none → exec .resetEnd s = .next s) ∧
  ∀ (kind : ResetKind) (bad : Bool) (next : Full) (s : State), Lawful s → s.resetting = some kind →
    s.store.imageWrite = none → s.store.cellWrite = none → s.store.wordWrite = none →
    bad = (decide (kind ≠ .link) && !(s.store.image.checks && decide (s.store.image.revision = 1))) →
    next = (if bad then followingSeq (followingSeq s.log.nextSeq) else followingSeq s.log.nextSeq) →
    ∃ t, exec .resetEnd s = .next t ∧ t.resetting = none ∧ t.resetReply = none ∧ t.lastReset = kind ∧
      t.timeBase = s.timeBase ∧
      t.settings =
        (if kind = .link then s.settings
        else if s.store.image.checks = true ∧ s.store.image.revision = 1 then s.store.image.contents
        else Settings.defaults) ∧
      (∀ order : List Channel,
        order = (([0, 1, 2, 3, 4, 5, 6, 7] : List Channel).filter fun c => t.settings.channelEnable.getLsbD c.val) →
        t.meas =
          { fault := false
            failCount := 0
            passCount := 0
            refPtr := .hi
            enabled := t.settings.channelEnable
            current :=
              (match order with
              | c :: _ => some (.scan c)
              | [] => some .reference)
            todo := order.tail
            oneShots := []
            channels := Vector.ofFn fun c : Channel =>
              { raw := none
                accumulator := none
                filtered := none
                temperature := none
                reason := if t.settings.channelEnable.getLsbD c.val then .noData else .disabled } }) ∧
      (∀ z : Zone,
        t.zones[z] =
          { priority := t.settings.zones[z].initialPriority
            demandDuty := 0
            demandPower := 0
            grantedPower := 0
            grantedDuty := 0
            gate := if t.settings.zones[z].gateFlag then .blocking else .released
            gateTimer := 0
            gateLength := 0
            lastFlag := t.settings.zones[z].gateFlag
            frame := if z = 0 then some 0 else none }) ∧
      t.thermal =
        { allocationTimer := some ⟨250, 250⟩
          fanTimer := some ⟨1000, 1000⟩
          minuteTimer := some ⟨60000, 60000⟩
          checkTimer := some ⟨100, 100⟩
          startPermitted := decide (∀ z : Zone, t.settings.zones[z].gateFlag = false)
          warmTimer :=
            if t.seq.state = .warming ∧ t.settings.limits.warmTimeout ≠ 0 then
              some ⟨t.settings.limits.warmTimeout * 60000, t.settings.limits.warmTimeout * 60000⟩
            else none
          fanDuty := 1000
          speed := 0
          tach := 0
          fanFault := false
          stall := 0
          recovery := 0
          watch := if kind = .powerOn then 0 else s.thermal.watch
          filterSet := if kind = .powerOn then false else s.thermal.filterSet
          tripped := false
          tripTimer := none
          resumeTimer := none } ∧
      ((∃ p ∈ t.settings.keypad.curve, t.keypad.debounceTime = p.value) ∧
        (∀ p ∈ t.settings.keypad.curve, p.value ≤ t.keypad.debounceTime) ∧
        t.keypad =
          { positions := Vector.replicate 48 ⟨false, false, 0, false, none⟩
            debounceTime := t.keypad.debounceTime
            debounceCount :=
              max 2
                (min
                  ((t.keypad.debounceTime * 1000 + 8 * (t.settings.keypad.settle + 20) - 1) /
                    (8 * (t.settings.keypad.settle + 20)))
                  255)
            held := []
            target := none
            repeatTimer := none
            refused := if kind = .powerOn then 0 else s.keypad.refused
            row := some 0
            settle := t.settings.keypad.settle }) ∧
      (∀ i : ChordIndex, t.chords[i] = ⟨.idle, none⟩) ∧
      (∃ r ∈ t.log.ring, r.seq = s.log.nextSeq ∧ r.state = .off ∧ r.rung = 0 ∧ r.failures = 0 ∧
        r.temperature = none ∧
        r.kind = (if kind = .powerOn then .powerOn else .supervisorReset) ∧
        r.detail = (match kind with
          | .powerOn => 0
          | .pin => 1
          | .link => 2)) ∧
      (bad = true → holdsCause t.causes .settings = true ∧
        ∃ r ∈ t.log.ring, r.seq = followingSeq s.log.nextSeq ∧ r.kind = .settingsDefaulted ∧ r.detail = 0 ∧
          r.state = .off ∧ r.rung = 0 ∧ r.failures = 0) ∧
      (bad = false → holdsCause t.causes .settings = false ∧
        ∀ r ∈ t.log.ring, r.kind = .settingsDefaulted → r ∈ s.log.ring) ∧
      (s.seq.hpwrEn = true → s.seq.hpg = true →
        t.seq.state = .booting ∧ t.seq.hpwrEn = true ∧ t.seq.hrst = false ∧
          t.seq.timers =
            { SequencerTimers.stopped with
              bootWindow := some ⟨t.settings.timing.bootWindow * 1000, t.settings.timing.bootWindow * 1000⟩ } ∧
          t.queue.entries = [] ∧ t.queue.flushed = s.queue.flushed ∧ t.ladder = ⟨0, 0⟩ ∧
          ∃ r, t.log.ring.getLast? = some r ∧ r.seq = next ∧ r.kind = .hostStart ∧ r.detail = 1 ∧
            r.state = .booting ∧ r.rung = 0 ∧ r.failures = 0) ∧
      (s.seq.hpwrEn = true → s.seq.hpg = false →
        (t.seq.state = .resetPulse ∨ t.seq.state = .powerDown) ∧ t.ladder = ⟨0, 1⟩ ∧
          (∃ r ∈ t.log.ring, r.seq = next ∧ r.kind = .powerFault ∧ r.detail = 1 ∧ r.state = .off ∧ r.rung = 0 ∧
            r.failures = 0) ∧
          FailureAnswered .powerFault false
            { s with settings := t.settings, log := { s.log with nextSeq := next } } t) ∧
      (s.seq.hpwrEn = false → t.settings.timing.autostart = false →
        t.seq.state = .off ∧ t.seq.hrst = true ∧ t.log.nextSeq = next) ∧
      (s.seq.hpwrEn = false → t.settings.timing.autostart = true →
        (∃ z : Zone, t.settings.zones[z].gateFlag = true) → t.seq.state = .warming) ∧
      (s.seq.hpwrEn = false → t.settings.timing.autostart = true →
        (∀ z : Zone, t.settings.zones[z].gateFlag = false) →
          t.seq.state = (if s.seq.hpg then .resetHold else .powering) ∧ t.seq.hpwrEn = true)

/-! ### The laws of the device -/

/-- Every law holds of the state right after reset. That state rests on log entries 1 and 2. -/
def Obligations.LawsHoldAfterReset : Prop := Lawful State.reset

/-- Every step keeps every setting in its range, in the working copy and in what is saved (R177). -/
def Obligations.StepKeepsSettingsInRange : Prop :=
  ∀ s t : State, Lawful s → step s = .next t → SettingsLaw t

/-- Every step keeps the blocks held through a reset, each link's waiting flag true to the replies it awaits (R167), and the
stores consistent (R182, R183). -/
def Obligations.StepKeepsResetAndWaitingLaws : Prop :=
  ∀ s t : State, Lawful s → step s = .next t → ResetLaw t ∧ WaitingLaw t ∧ StoreLaw t

/-- Every step keeps HPWR_EN and HRST_N at the levels of the supervisor state, each sequencer timer within its state, the two
records within theirs (R63, R64, R66, R67, R107), the rung index below the rung count, and the failures within the rung's
attempts (R98). -/
def Obligations.StepKeepsSequencerAndLadderLaws : Prop :=
  ∀ s t : State, Lawful s → step s = .next t → SequencerLaw t ∧ LadderLaw t

/-- Every step keeps the heater law (R29, R32), the fan law (R50), and each channel's reason and temperature in agreement, with
every temperature in range and CONVERTER_FAULT for FAULT alone (R7, R8, R12, R14). -/
def Obligations.StepKeepsClimateAndMeasurementLaws : Prop :=
  ∀ s t : State, Lawful s → step s = .next t → HeaterLaw t ∧ FanLaw t ∧ MeasurementLaw t

/-- Every step keeps the log an unbroken run of at most 32 records (R157) with temperatures in range (R155), and at most four
frames in each output queue, each of a length that a frame can have (R163, R168). -/
def Obligations.StepKeepsLogAndLinkLaws : Prop :=
  ∀ s t : State, Lawful s → step s = .next t → LogLaw t ∧ LinkLaw t

/-- Every step keeps the held list and the key records in agreement (R127, R130), at most 64 entries in the Key Queue, and the
key causes as their conditions say (R142, R145). -/
def Obligations.StepKeepsKeyLaws : Prop :=
  ∀ s t : State, Lawful s → step s = .next t → KeypadLaw t ∧ QueueLaw t


/-! ### Chapter 1: sensing and conversion -/

/-- A scan conversion of a channel completes (R1, R2, R9 to R14): in OK the filter, the temperature and the reason follow the raw
code, by the calibration of the channel's two factory words, or the default one when either is blank (R13); in FAULT the raw
code alone is kept; the completion of the keypad channel brings the debounce time and the debounce count anew (R123, R124);
other channels and all other state are untouched, and the next conversion starts: the oldest one-shot, which leaves the rest
of the round as it was, else the round's next channel, else its reference. A channel reads as its temperature while
its reason is VALID, else as nothing; without a reading the debounce time is the largest of the curve's points (R123). -/
def Obligations.ScanConversionUpdatesItsChannel : Prop :=
  (∀ (c : Channel) (temperature : Int) (s : State), reading s c = some temperature ↔
      s.meas.channels[c].reason = .valid ∧ s.meas.channels[c].temperature = some temperature) ∧
    (∀ curve : List Point, curve ≠ [] →
      (∃ p ∈ curve, curveLargest curve = p.value) ∧ ∀ p ∈ curve, p.value ≤ curveLargest curve) ∧
  ∀ (c : Channel) (code : Code) (s : State), s.meas.current = some (.scan c) →
    ∃ t, exec (.scanConversionComplete code) s = .next t ∧
      (s.meas.fault = true → t.meas.channels[c] = { s.meas.channels[c] with raw := some code.toNat }) ∧
      (s.meas.fault = false →
        ∃ (a f : Nat) (low : Int) (span : Nat),
          (low, span) =
            (if s.store.words[4 + 2 * c.val]'(by omega) = 0xFFFF ∨ s.store.words[5 + 2 * c.val]'(by omega) = 0xFFFF then
              (-400, 1650)
            else
              (max (-800) (min (s.store.words[4 + 2 * c.val]'(by omega)).toInt 0),
                min (s.store.words[5 + 2 * c.val]'(by omega)).toNat 2500)) ∧
          (s.meas.channels[c].accumulator = none → a = 4 * code.toNat) ∧
          (∀ old, s.meas.channels[c].accumulator = some old → a = old - old / 4 + code.toNat) ∧
          f = (a + 2) / 4 ∧
          t.meas.channels[c] =
            { raw := some code.toNat
              accumulator := some a
              filtered := some f
              temperature :=
                if 8 ≤ f ∧ f ≤ 1015 then
                  some (max (-550) (min (low + (((f * span + 512) / 1024 : Nat) : Int)) 1250))
                else none
              reason := if 8 ≤ f ∧ f ≤ 1015 then .valid else .openOrShort }) ∧
      (∀ d : Channel, d ≠ c → t.meas.channels[d] = s.meas.channels[d]) ∧
      (s.meas.oneShots ≠ [] → t.meas.current = some .oneShot ∧ t.meas.todo = s.meas.todo) ∧
      (s.meas.oneShots = [] → s.meas.todo = [] → t.meas.current = some .reference ∧ t.meas.todo = []) ∧
      (∀ d rest, s.meas.oneShots = [] → s.meas.todo = d :: rest → t.meas.current = some (.scan d) ∧ t.meas.todo = rest) ∧
      (c ≠ s.settings.keypad.channel → t = { s with meas := t.meas }) ∧
      (c = s.settings.keypad.channel →
        t.keypad.debounceTime =
            (match reading t c with
            | some temperature => curveValue s.settings.keypad.curve temperature
            | none => curveLargest s.settings.keypad.curve) ∧
          t.keypad.debounceCount =
            max 2
              (min
                ((t.keypad.debounceTime * 1000 + 8 * (s.settings.keypad.settle + 20) - 1) /
                  (8 * (s.settings.keypad.settle + 20)))
                255)) ∧
      t = { s with
            meas := { s.meas with channels := t.meas.channels, current := t.meas.current, todo := t.meas.todo }
            keypad :=
              { s.keypad with debounceTime := t.keypad.debounceTime, debounceCount := t.keypad.debounceCount } }

/-- A reference conversion completes (R2, R3, R7, R8, R9): the check by the window of Table 1-3, the counts, and the pointer's
advance; the second failed check in a row enters FAULT with its record and cause, the third passed one leaves it with its
record; those two completions are the events CONVERTER_FAULT and CONVERTER_OK (log entry 6). The next round begins with the
enables in force: a channel newly disabled or newly enabled loses its four fields, and its reason becomes DISABLED or NO_DATA
outside FAULT; the others keep theirs, but for what entering FAULT or leaving it changes. That the next round begins here is
log entry 9. -/
def Obligations.ReferenceCheckMovesTheConverterStatus : Prop :=
  ∀ (code : Code) (passed : Bool) (order : List Channel) (s : State), s.meas.current = some .reference →
    passed = (match s.meas.refPtr with
      | .hi => decide (1015 ≤ code.toNat)
      | .mid => decide (504 ≤ code.toNat ∧ code.toNat ≤ 520)
      | .lo => decide (code.toNat ≤ 8)) →
    order = (([0, 1, 2, 3, 4, 5, 6, 7] : List Channel).filter fun c => s.settings.channelEnable.getLsbD c.val) →
    ∃ t, exec (.referenceConversionComplete code) s = .next t ∧
      t.meas.failCount = (if passed then 0 else min (s.meas.failCount + 1) 2) ∧
      t.meas.passCount = (if passed then min (s.meas.passCount + 1) 3 else 0) ∧
      t.meas.refPtr = (match s.meas.refPtr with
        | .hi => .mid
        | .mid => .lo
        | .lo => .hi) ∧
      t.meas.enabled = s.settings.channelEnable ∧ t.meas.oneShots = s.meas.oneShots ∧ t.settings = s.settings ∧
      (s.meas.oneShots ≠ [] → t.meas.current = some .oneShot ∧ t.meas.todo = order) ∧
      (s.meas.oneShots = [] → order = [] → t.meas.current = some .reference ∧ t.meas.todo = []) ∧
      (∀ c rest, s.meas.oneShots = [] → order = c :: rest → t.meas.current = some (.scan c) ∧ t.meas.todo = rest) ∧
      (∀ c : Channel, s.meas.enabled.getLsbD c.val ≠ s.settings.channelEnable.getLsbD c.val →
        t.meas.channels[c] =
          ⟨none, none, none, none,
            if t.meas.fault then .converterFault
            else if s.settings.channelEnable.getLsbD c.val then .noData else .disabled⟩) ∧
      (t.meas.fault = s.meas.fault →
        ∀ c : Channel, s.meas.enabled.getLsbD c.val = s.settings.channelEnable.getLsbD c.val →
          t.meas.channels[c] = s.meas.channels[c]) ∧
      (s.meas.fault = false → t.meas.failCount < 2 → t.meas.fault = false ∧ t = { s with meas := t.meas }) ∧
      (s.meas.fault = true → t.meas.passCount < 3 → t.meas.fault = true ∧ t = { s with meas := t.meas }) ∧
      (s.meas.fault = false → t.meas.failCount = 2 →
        t.meas.fault = true ∧ (∀ c : Channel, t.meas.channels[c].reason = .converterFault ∧
          t.meas.channels[c].temperature = none ∧ t.meas.channels[c].accumulator = none ∧
          t.meas.channels[c].filtered = none ∧
          (s.meas.enabled.getLsbD c.val = s.settings.channelEnable.getLsbD c.val →
            t.meas.channels[c].raw = s.meas.channels[c].raw)) ∧
          holdsCause t.causes .converter = true ∧ t.log.nextSeq = followingSeq s.log.nextSeq ∧
          (∃ r, t.log.ring.getLast? = some r ∧ r.kind = .converterFault ∧ r.detail.toNat = code.toNat ∧
            r.temperature = none) ∧
          exec (.converterFault code) s = .next t) ∧
      (s.meas.fault = true → t.meas.passCount = 3 →
        t.meas.fault = false ∧ t.log.nextSeq = followingSeq s.log.nextSeq ∧
          (∀ c : Channel, s.meas.enabled.getLsbD c.val = s.settings.channelEnable.getLsbD c.val →
            t.meas.channels[c] =
              { s.meas.channels[c] with
                reason := if s.settings.channelEnable.getLsbD c.val then .noData else .disabled }) ∧
          (∃ r, t.log.ring.getLast? = some r ∧ r.kind = .converterOk ∧ r.detail.toNat = code.toNat) ∧
          exec (.converterOk code) s = .next t) ∧
      (t.meas.fault = s.meas.fault →
        exec (.converterFault code) s = .next s ∧ exec (.converterOk code) s = .next s)

/-- Sample Channel and the completion of its one-shot (R1, R2, R4, R5, R167): the request joins the list and the link waits; at
the completion the oldest request is answered with its raw code on its own link, which stops waiting; no channel record
changes. The next conversion is the next one-shot of the list; without one, the next channel of the round; and after the last
channel the round's reference. -/
def Obligations.OneShotIsQueuedAndAnswered : Prop :=
  (∀ (l : Link) (tag : Byte) (c : Fin 11) (s : State), Dispatches l s →
      exec (.sampleChannel l tag [oneByte c.val]) s =
        .next (setWaiting l true
          (setReceiver l .hunting
            { s with meas := { s.meas with oneShots := s.meas.oneShots ++ [⟨l, tag, c⟩] } }))) ∧
    (∀ (l : Link) (tag channel : Byte) (s : State), Dispatches l s → 10 < channel.toNat →
      exec (.sampleChannel l tag [channel]) s = .next (sendFrame l ⟨0x91, tag, [0x13]⟩ (setReceiver l .hunting s))) ∧
    ∀ (code : Code) (r : OneShot) (rest : List OneShot) (s : State), s.meas.current = some .oneShot →
      s.meas.oneShots = r :: rest →
      ∃ m : Measurement,
        m = { s.meas with oneShots := rest, current := m.current, todo := m.todo } ∧
        (rest ≠ [] → m.current = some .oneShot ∧ m.todo = s.meas.todo) ∧
        (∀ (c : Channel) (more : List Channel), rest = [] → s.meas.todo = c :: more →
          m.current = some (.scan c) ∧ m.todo = more) ∧
        (rest = [] → s.meas.todo = [] → m.current = some .reference ∧ m.todo = []) ∧
        exec (.oneShotComplete code) s =
          .next (setWaiting r.link false
            (sendFrame r.link
              ⟨0x91, r.tag, [0x00, oneByte r.channel.val] ++ halfBytes (BitVec.ofNat 16 code.toNat) ++
                [if s.meas.fault then 1 else 0]⟩
              { s with meas := m }))

/-! ### Chapter 2: heater zones -/

/-- The allocation (R21, R22, R24 to R30): at an expiry of the allocation timer each zone's demand, grant and priority follow from
the readings, the settings and the selected budget; the grants never exceed the budget and use it up when the demand
does; a zone is granted anything only when every zone before it in the order is served in full. The expiry is taken while its
timer runs, by log entry 4. A curve has its first point's value up to that point, its last point's from that point on, and the
straight line between two neighbours, truncated toward zero; its temperatures are strictly ascending (R21). -/
def Obligations.AllocationSharesTheBudget : Prop :=
  (∀ (budget : Nat) (s : State), s.thermal.allocationTimer.isSome = true →
    budget = (if s.seq.hpwrEn then s.settings.onBudget else s.settings.offBudget) →
    ∃ t, exec .allocationPeriodExpiry s = .next t ∧
      (∀ z : Zone,
        t.zones[z].demandDuty =
            (if s.meas.fault = true ∨ s.thermal.tripped = true ∨ s.settings.zones[z].rated = 0 then 0
            else
              match reading s s.settings.zones[z].sensor with
              | none => 0
              | some temperature =>
                min (curveValue s.settings.zones[z].curve temperature) s.settings.zones[z].clamp) ∧
          t.zones[z].demandPower = t.zones[z].demandDuty * s.settings.zones[z].rated / 1000 ∧
          t.zones[z].grantedPower ≤ t.zones[z].demandPower ∧
          t.zones[z].grantedDuty =
            (if s.settings.zones[z].rated = 0 then 0
            else t.zones[z].grantedPower * 1000 / s.settings.zones[z].rated) ∧
          t.zones[z].priority =
            (if t.zones[z].grantedPower < t.zones[z].demandPower then s.zones[z].priority - 1
            else s.settings.zones[z].initialPriority) ∧
          t.zones[z].frame = s.zones[z].frame) ∧
      (t.zones[0].grantedPower + t.zones[1].grantedPower + t.zones[2].grantedPower + t.zones[3].grantedPower =
        min budget
          (t.zones[0].demandPower + t.zones[1].demandPower + t.zones[2].demandPower + t.zones[3].demandPower)) ∧
      ∀ y z : Zone, s.zones[y].priority < s.zones[z].priority ∨ s.zones[y].priority = s.zones[z].priority ∧ y < z →
        0 < t.zones[z].grantedPower → t.zones[y].grantedPower = t.zones[y].demandPower) ∧
    (∀ curve : List Point, ascending curve = true ↔
      ∀ (front back : List Point) (p q : Point), curve = front ++ p :: q :: back → p.temperature < q.temperature) ∧
    (∀ (p : Point) (rest : List Point) (t : Int), t ≤ p.temperature → curveValue (p :: rest) t = p.value) ∧
    (∀ (front : List Point) (p : Point) (t : Int), ascending (front ++ [p]) = true → p.temperature ≤ t →
      curveValue (front ++ [p]) t = p.value) ∧
    ∀ (front back : List Point) (p q : Point) (t : Int), ascending (front ++ p :: q :: back) = true →
      p.temperature ≤ t → t < q.temperature →
      curveValue (front ++ p :: q :: back) t =
        ((p.value : Int) +
          (((q.value : Int) - p.value) * (t - p.temperature)).tdiv (q.temperature - p.temperature)).toNat

/-- The gate evaluation at the same expiry (R22, R41 to R45, R69): the timer restarts; a reading is warm when it is VALID at or
above the release temperature, unless the status is TRIPPED; a zone without the flag is RELEASED, a gate zone that is not
warm is BLOCKING; a warm one counts from BLOCKING, or when newly flagged, advances by 250 ms while it counts, stays RELEASED,
and is RELEASED when its timer reaches the length taken at its start, with a gate hold of 0 at once. Start permitted is given
exactly when every zone stands RELEASED, and its being given in WARMING starts the computer; GATE_RELEASE is the expiry at
which the zone is released (log entry 6), else it changes nothing (log entry 7). The expiry is taken while its timer runs,
by log entry 4; that a RELEASED zone keeps its gate timer is log entry 13. -/
def Obligations.GateEvaluationPermitsTheStart : Prop :=
  (∀ (s : State) (z : Zone), zoneWarm s z = true ↔
      s.thermal.tripped = false ∧ s.meas.channels[s.settings.zones[z].sensor].reason = .valid ∧
        ∃ temperature : Int, s.meas.channels[s.settings.zones[z].sensor].temperature = some temperature ∧
          s.settings.zones[z].release ≤ temperature) ∧
    (∀ s : State, s.thermal.allocationTimer.isSome = true →
      ∃ t, exec .allocationPeriodExpiry s = .next t ∧ t.thermal.allocationTimer = some ⟨250, 250⟩ ∧
        (∀ z : Zone, t.zones[z].lastFlag = s.settings.zones[z].gateFlag) ∧
        (∀ z : Zone, s.settings.zones[z].gateFlag = false → t.zones[z].gate = .released ∧ t.zones[z].gateTimer = 0) ∧
        (∀ z : Zone, s.settings.zones[z].gateFlag = true → zoneWarm s z = false →
          t.zones[z].gate = .blocking ∧
            (s.zones[z].gate ≠ .blocking ∨ s.zones[z].lastFlag = false → t.zones[z].gateTimer = 0) ∧
            (s.zones[z].gate = .blocking → s.zones[z].lastFlag = true →
              t.zones[z].gateTimer = s.zones[z].gateTimer)) ∧
        (∀ z : Zone, s.settings.zones[z].gateFlag = true → zoneWarm s z = true →
          s.zones[z].gate = .blocking ∨ s.zones[z].lastFlag = false →
          t.zones[z].gateTimer = 0 ∧ t.zones[z].gateLength = s.settings.limits.gateHold * 1000 ∧
            t.zones[z].gate = (if s.settings.limits.gateHold = 0 then .released else .counting)) ∧
        (∀ z : Zone, s.settings.zones[z].gateFlag = true → s.zones[z].lastFlag = true → zoneWarm s z = true →
          s.zones[z].gate = .counting →
          t.zones[z].gateTimer = s.zones[z].gateTimer + 250 ∧ t.zones[z].gateLength = s.zones[z].gateLength ∧
            t.zones[z].gate =
              (if s.zones[z].gateLength ≤ s.zones[z].gateTimer + 250 then .released else .counting)) ∧
        (∀ z : Zone, s.settings.zones[z].gateFlag = true → s.zones[z].lastFlag = true → zoneWarm s z = true →
          s.zones[z].gate = .released →
          t.zones[z].gate = .released ∧ t.zones[z].gateTimer = s.zones[z].gateTimer ∧
            t.zones[z].gateLength = s.zones[z].gateLength) ∧
        (t.thermal.startPermitted = decide (∀ z : Zone, t.zones[z].gate = .released)) ∧
        (s.seq.state = .warming → s.thermal.startPermitted = false → t.thermal.startPermitted = true →
          t.seq.state = (if s.seq.hpg then .resetHold else .powering) ∧ t.seq.hpwrEn = true) ∧
        (s.seq.state ≠ .warming ∨ s.thermal.startPermitted = true ∨ t.thermal.startPermitted = false →
          t = { s with
                zones := t.zones
                thermal :=
                  { s.thermal with
                    allocationTimer := some ⟨250, 250⟩
                    startPermitted := t.thermal.startPermitted } })) ∧
    (∀ (z : Zone) (s : State), s.thermal.allocationTimer.isSome = true → s.settings.zones[z].gateFlag = true →
      zoneWarm s z = true →
      (s.zones[z].lastFlag = true ∧ s.zones[z].gate = .counting ∧ s.zones[z].gateLength ≤ s.zones[z].gateTimer + 250) ∨
        ((s.zones[z].gate = .blocking ∨ s.zones[z].lastFlag = false) ∧ s.settings.limits.gateHold = 0) →
      ∃ t, exec (.gateRelease z) s = .next t ∧ exec .allocationPeriodExpiry s = .next t ∧
        t.zones[z].gate = .released) ∧
    ∀ (z : Zone) (s : State),
      s.thermal.allocationTimer = none ∨ s.settings.zones[z].gateFlag = false ∨ zoneWarm s z = false ∨
        (s.zones[z].lastFlag = true ∧ s.zones[z].gate = .released) ∨
        (s.zones[z].lastFlag = true ∧ s.zones[z].gate = .counting ∧
          s.zones[z].gateTimer + 250 < s.zones[z].gateLength) ∨
        ((s.zones[z].gate = .blocking ∨ s.zones[z].lastFlag = false) ∧ 0 < s.settings.limits.gateHold) →
      exec (.gateRelease z) s = .next s

/-- The drive of a heater output (R31): at every instant it is on exactly while the time in its frame, in 0.1 ms, is less than
the granted duty in force, so that a frame that begins turns it on for one tenth of the granted duty in ms; each millisecond
brings the time to the next whole one, up to the frame's 100 ms; at the end of an on-time, within the millisecond in
progress, it goes off; a duty of 1000 keeps it on, and through a reset no frame begins. When a frame begins, and how its time
is held, is log entry 23; that an on-time that does not end now changes nothing is log entry 7. -/
def Obligations.DriveFramesFollowTheGrant : Prop :=
  (∀ (z : Zone) (elapsed : Nat) (s : State), s.zones[z].frame = some elapsed →
      heaterOn s z = decide (elapsed < s.zones[z].grantedDuty)) ∧
    (∀ (z : Zone) (s : State), s.zones[z].frame = none → heaterOn s z = false) ∧
    (∀ (z : Zone) (s : State), s.resetting = none →
      ∃ t, exec (.driveFrameStart z) s = .next t ∧ heaterOn t z = decide (0 < s.zones[z].grantedDuty) ∧
        t = { s with zones := put s.zones z { s.zones[z] with frame := some 0 } } ∧
        ∀ ms : Nat, ms ≤ 99 → heaterOn (timeBaseTick^[ms] t) z = decide (10 * ms < s.zones[z].grantedDuty)) ∧
    (∀ (z : Zone) (s : State), s.resetting.isSome = true → exec (.driveFrameStart z) s = .next s) ∧
    (∀ s : State, exec .timeBaseTick s = .next (timeBaseTick s) ∧
      (∀ (z : Zone) (elapsed : Nat), s.zones[z].frame = some elapsed →
        (timeBaseTick s).zones[z] = { s.zones[z] with frame := some (min (elapsed / 10 * 10 + 10) 999) }) ∧
      ∀ z : Zone, s.zones[z].frame = none → (timeBaseTick s).zones[z] = s.zones[z]) ∧
    (∀ (z : Zone) (elapsed : Nat) (s : State), s.zones[z].frame = some elapsed → s.zones[z].grantedDuty < 1000 →
      elapsed ≤ s.zones[z].grantedDuty → s.zones[z].grantedDuty < elapsed / 10 * 10 + 10 →
      ∃ t, exec (.driveOnTimeEnd z) s = .next t ∧ heaterOn t z = false ∧
        t = { s with zones := put s.zones z { s.zones[z] with frame := some s.zones[z].grantedDuty } }) ∧
    (∀ (z : Zone) (s : State),
      (∀ elapsed : Nat, s.zones[z].frame = some elapsed → 1000 ≤ s.zones[z].grantedDuty ∨
        s.zones[z].grantedDuty < elapsed ∨ elapsed / 10 * 10 + 10 ≤ s.zones[z].grantedDuty) →
      exec (.driveOnTimeEnd z) s = .next s) ∧
    ∀ (z : Zone) (elapsed : Nat) (s : State), s.zones[z].frame = some elapsed → elapsed ≤ 999 →
      1000 ≤ s.zones[z].grantedDuty → heaterOn s z = true

/-- Set Zone, Set Heater Curve, Set Fan and Set Thermal Limits (R34 to R37, R59 to R61, R177): values in range are answered OK and
echoed, and the working copy holds exactly them; any other bytes that pass the structural tests are brought into their
ranges field by field, the working copy holds the applied fields, and the reply carries their bytes, CLAMPED when they differ
from the bytes received. Only a changed initial priority (R35) and a fan duty below the new fan minimum of a powered computer
(R50) have an effect at once. -/
def Obligations.ClimateSettingsInRangeAreApplied : Prop :=
  ((∀ (l : Link) (tag : Byte) (z : Zone) (x : ZoneSettings) (s : State), Dispatches l s → ZoneInRange x →
      exec (.setZone l tag (zonePayload z x)) s =
        .next (sendFrame l ⟨0x92, tag, 0x00 :: zonePayload z x⟩
          (setReceiver l .hunting
            { s with
              settings :=
                { s.settings with
                  zones := put s.settings.zones z { x with curve := s.settings.zones[z].curve } }
              zones :=
                if x.initialPriority = s.settings.zones[z].initialPriority then s.zones
                else put s.zones z { s.zones[z] with priority := x.initialPriority } }))) ∧
    (∀ (l : Link) (tag : Byte) (z : Zone) (curve : List Point) (s : State), Dispatches l s →
      CurveInRange 8 0 1000 curve →
      exec (.setHeaterCurve l tag (curvePayload z curve)) s =
        .next (sendFrame l ⟨0x93, tag, 0x00 :: curvePayload z curve⟩
          (setReceiver l .hunting
            { s with
              settings :=
                { s.settings with
                  zones := put s.settings.zones z { s.settings.zones[z] with curve := curve } } }))) ∧
    (∀ (l : Link) (tag : Byte) (x : FanSettings) (s : State), Dispatches l s → FanInRange x →
      exec (.setFan l tag (fanPayload x)) s =
        .next (sendFrame l ⟨0x95, tag, 0x00 :: fanPayload x⟩
          (setReceiver l .hunting
            { s with
              settings := { s.settings with fan := x }
              thermal :=
                { s.thermal with
                  fanDuty := if s.seq.hpwrEn then max s.thermal.fanDuty x.minimum else s.thermal.fanDuty } }))) ∧
    ∀ (l : Link) (tag enable : Byte) (x : LimitSettings) (s : State), Dispatches l s → LimitsInRange x →
      exec (.setThermalLimits l tag (limitsPayload x enable)) s =
        .next (sendFrame l ⟨0x96, tag, 0x00 :: limitsPayload x enable⟩
          (setReceiver l .hunting { s with settings := { s.settings with limits := x, channelEnable := enable } }))) ∧
    (∀ (l : Link) (tag priority gate : Byte) (z : Zone) (c : Channel) (rated clamp release : Half) (x : ZoneSettings)
      (received applied : List Byte) (s : State), Dispatches l s →
      x = ⟨c, min rated.toNat 2000, min clamp.toNat 1000, min priority.toNat 15, decide (gate ≠ 0),
        max (-400) (min release.toInt 600), s.settings.zones[z].curve⟩ →
      received = [oneByte z.val, oneByte c.val] ++ halfBytes rated ++ halfBytes clamp ++ [priority, gate] ++
        halfBytes release →
      applied = [oneByte z.val, oneByte c.val] ++ twoBytes x.rated ++ twoBytes x.clamp ++
        [oneByte x.initialPriority, if gate = 0 then 0 else 1] ++ halfBytes (BitVec.ofInt 16 x.release) →
      exec (.setZone l tag received) s =
        .next (sendFrame l ⟨0x92, tag, (if applied = received then 0x00 else 0x01) :: applied⟩
          (setReceiver l .hunting
            { s with
              settings := { s.settings with zones := put s.settings.zones z x }
              zones :=
                if x.initialPriority = s.settings.zones[z].initialPriority then s.zones
                else put s.zones z { s.zones[z] with priority := x.initialPriority } }))) ∧
    (∀ (l : Link) (tag : Byte) (z : Zone) (points : List (Half × Half)) (curve : List Point)
      (received applied : List Byte) (s : State), Dispatches l s → 1 ≤ points.length → points.length ≤ 8 →
      curve = points.map (fun p => ⟨max (-550) (min p.1.toInt 1250), min p.2.toNat 1000⟩) → ascending curve = true →
      received = [oneByte z.val, oneByte points.length] ++ points.flatMap (fun p => halfBytes p.1 ++ halfBytes p.2) →
      applied = [oneByte z.val, oneByte points.length] ++
        curve.flatMap (fun p => halfBytes (BitVec.ofInt 16 p.temperature) ++ twoBytes p.value) →
      exec (.setHeaterCurve l tag received) s =
        .next (sendFrame l ⟨0x93, tag, (if applied = received then 0x00 else 0x01) :: applied⟩
          (setReceiver l .hunting
            { s with
              settings :=
                { s.settings with
                  zones := put s.settings.zones z { s.settings.zones[z] with curve := curve } } }))) ∧
    (∀ (l : Link) (tag mask : Byte) (minimum stall : Half) (points : List (Half × Half)) (x : FanSettings)
      (received applied : List Byte) (s : State), Dispatches l s → 1 ≤ points.length → points.length ≤ 4 →
      x = ⟨mask, min minimum.toNat 1000, min stall.toNat 10000,
        points.map (fun p => ⟨max (-550) (min p.1.toInt 1250), min p.2.toNat 1000⟩)⟩ → ascending x.curve = true →
      received = mask :: halfBytes minimum ++ halfBytes stall ++ [oneByte points.length] ++
        points.flatMap (fun p => halfBytes p.1 ++ halfBytes p.2) →
      applied = mask :: twoBytes x.minimum ++ twoBytes x.stallSpeed ++ [oneByte points.length] ++
        x.curve.flatMap (fun p => halfBytes (BitVec.ofInt 16 p.temperature) ++ twoBytes p.value) →
      exec (.setFan l tag received) s =
        .next (sendFrame l ⟨0x95, tag, (if applied = received then 0x00 else 0x01) :: applied⟩
          (setReceiver l .hunting
            { s with
              settings := { s.settings with fan := x }
              thermal :=
                { s.thermal with
                  fanDuty := if s.seq.hpwrEn then max s.thermal.fanDuty x.minimum else s.thermal.fanDuty } }))) ∧
    ∀ (l : Link) (tag mask tripHold warm action enable : Byte) (trip resume resumeHold gateHold duty rise count : Half)
      (board inlet : Channel) (x : LimitSettings) (received applied : List Byte) (s : State), Dispatches l s →
      x =
        { overheatMask := mask
          tripTemperature := max (-550) (min trip.toInt 1250)
          tripHold := min tripHold.toNat 60
          resumeTemperature := max (-550) (min resume.toInt 1250)
          resumeHold := min resumeHold.toNat 600
          gateHold := min gateHold.toNat 600
          warmTimeout := min warm.toNat 240
          warmStart := decide (action ≠ 0)
          highDuty := min duty.toNat 1000
          rise := min rise.toNat 1000
          serviceCount := max 1 (min count.toNat 10000)
          board := board
          inlet := inlet } →
      x.resumeTemperature < x.tripTemperature →
      received = mask :: halfBytes trip ++ [tripHold] ++ halfBytes resume ++ halfBytes resumeHold ++ halfBytes gateHold ++
        [warm, action] ++ halfBytes duty ++ halfBytes rise ++ halfBytes count ++
        [oneByte board.val, oneByte inlet.val, enable] →
      applied = mask :: halfBytes (BitVec.ofInt 16 x.tripTemperature) ++ [oneByte x.tripHold] ++
        halfBytes (BitVec.ofInt 16 x.resumeTemperature) ++ twoBytes x.resumeHold ++ twoBytes x.gateHold ++
        [oneByte x.warmTimeout, if action = 0 then 0 else 1] ++ twoBytes x.highDuty ++ twoBytes x.rise ++
        twoBytes x.serviceCount ++ [oneByte board.val, oneByte inlet.val, enable] →
      exec (.setThermalLimits l tag received) s =
        .next (sendFrame l ⟨0x96, tag, (if applied = received then 0x00 else 0x01) :: applied⟩
          (setReceiver l .hunting { s with settings := { s.settings with limits := x, channelEnable := enable } }))

/-- Structural errors (R177): each is answered BAD_VALUE, and nothing else changes. They are a zone, channel, position or chord
index out of range, a point, entry or rung count out of range, a curve that is not strictly ascending after clamping, a run of
key entries past the last position, a resume temperature at or above the trip temperature after clamping, chord sets that
intersect or whose member set has the wrong size, and a chord action code above 4. -/
def Obligations.StructuralErrorsChangeNothing : Prop :=
  (∀ (l : Link) (tag a b c d e f g h i j : Byte) (s : State), Dispatches l s → 3 < a.toNat ∨ 7 < b.toNat →
      exec (.setZone l tag [a, b, c, d, e, f, g, h, i, j]) s =
        .next (sendFrame l ⟨0x92, tag, [0x13]⟩ (setReceiver l .hunting s))) ∧
    (∀ (l : Link) (tag a b : Byte) (rest : List Byte) (s : State), Dispatches l s →
      3 < a.toNat ∨ b.toNat = 0 ∨ 8 < b.toNat ∨
        (∃ points : List (Half × Half), points.length = b.toNat ∧
          rest = points.flatMap (fun p => halfBytes p.1 ++ halfBytes p.2) ∧
          ascending (points.map fun p => ⟨max (-550) (min p.1.toInt 1250), min p.2.toNat 1000⟩) = false) →
      exec (.setHeaterCurve l tag (a :: b :: rest)) s =
        .next (sendFrame l ⟨0x93, tag, [0x13]⟩ (setReceiver l .hunting s))) ∧
    (∀ (l : Link) (tag mask m1 m0 s1 s0 count : Byte) (rest : List Byte) (s : State), Dispatches l s →
      count.toNat = 0 ∨ 4 < count.toNat ∨
        (∃ points : List (Half × Half), points.length = count.toNat ∧
          rest = points.flatMap (fun p => halfBytes p.1 ++ halfBytes p.2) ∧
          ascending (points.map fun p => ⟨max (-550) (min p.1.toInt 1250), min p.2.toNat 1000⟩) = false) →
      exec (.setFan l tag (mask :: m1 :: m0 :: s1 :: s0 :: count :: rest)) s =
        .next (sendFrame l ⟨0x95, tag, [0x13]⟩ (setReceiver l .hunting s))) ∧
    (∀ (l : Link) (tag mask tripHold board inlet enable : Byte) (trip resume : Half) (middle : List Byte) (s : State),
      Dispatches l s → middle.length = 12 →
      7 < board.toNat ∨ 7 < inlet.toNat ∨
        max (-550) (min trip.toInt 1250) ≤ max (-550) (min resume.toInt 1250) →
      exec (.setThermalLimits l tag
          (mask :: halfBytes trip ++ [tripHold] ++ halfBytes resume ++ middle ++ [board, inlet, enable])) s =
        .next (sendFrame l ⟨0x96, tag, [0x13]⟩ (setReceiver l .hunting s))) ∧
    (∀ (l : Link) (tag channel count : Byte) (head rest : List Byte) (s : State), Dispatches l s → head.length = 8 →
      7 < channel.toNat ∨ count.toNat = 0 ∨ 4 < count.toNat ∨
        (∃ points : List (Half × Half), points.length = count.toNat ∧
          rest = points.flatMap (fun p => halfBytes p.1 ++ halfBytes p.2) ∧
          ascending (points.map fun p => ⟨max (-550) (min p.1.toInt 1250), max 2 (min p.2.toNat 100)⟩) = false) →
      exec (.setKeypad l tag (head ++ channel :: count :: rest)) s =
        .next (sendFrame l ⟨0x98, tag, [0x13]⟩ (setReceiver l .hunting s))) ∧
    (∀ (l : Link) (tag first count : Byte) (rest : List Byte) (s : State), Dispatches l s →
      47 < first.toNat ∨ count.toNat = 0 ∨ 48 < first.toNat + count.toNat →
      exec (.setKeyEntries l tag (first :: count :: rest)) s =
        .next (sendFrame l ⟨0x99, tag, [0x13]⟩ (setReceiver l .hunting s))) ∧
    (∀ (l : Link) (tag index members : Byte) (rest : List Byte) (s : State), Dispatches l s → 3 < index.toNat →
      rest.length = 14 →
      exec (.setChord l tag (index :: members :: rest)) s =
        .next (sendFrame l ⟨0x9A, tag, [0x13]⟩ (setReceiver l .hunting s))) ∧
    (∀ (l : Link) (tag index a5 a4 a3 a2 a1 a0 b5 b4 b3 b2 b1 b0 h1 h0 action : Byte) (members ignored : BitVec 48)
      (s : State), Dispatches l s →
      members = a5 ++ a4 ++ a3 ++ a2 ++ a1 ++ a0 → ignored = b5 ++ b4 ++ b3 ++ b2 ++ b1 ++ b0 →
      ((List.range 48).filter fun p => members.getLsbD p).length < 2 ∨
        4 < ((List.range 48).filter fun p => members.getLsbD p).length ∨
        (∃ p : Position, members.getLsbD p.val = true ∧ ignored.getLsbD p.val = true) ∨ 4 < action.toNat →
      exec (.setChord l tag [index, a5, a4, a3, a2, a1, a0, b5, b4, b3, b2, b1, b0, h1, h0, action]) s =
        .next (sendFrame l ⟨0x9A, tag, [0x13]⟩ (setReceiver l .hunting s))) ∧
    ∀ (l : Link) (tag count : Byte) (rest : List Byte) (s : State), Dispatches l s →
      count.toNat = 0 ∨ 6 < count.toNat →
      exec (.setLadder l tag (count :: rest)) s =
        .next (sendFrame l ⟨0x9B, tag, [0x13]⟩ (setReceiver l .hunting s))

/-- Set Budget (R38), whole: any four bytes are brought to at most 6000 each and echoed, CLAMPED when one was brought down; a
payload of another length is answered BAD_LENGTH; the grants in force stand, and the next allocation selects between the
new values. -/
def Obligations.SetBudgetReplacesBothBudgets : Prop :=
  (∀ (l : Link) (tag f1 f0 n1 n0 : Byte) (off on : Nat) (s : State), Dispatches l s →
      off = min (f1 ++ f0).toNat 6000 → on = min (n1 ++ n0).toNat 6000 →
      exec (.setBudget l tag [f1, f0, n1, n0]) s =
        .next (sendFrame l
          ⟨0x94, tag,
            (if (f1 ++ f0).toNat ≤ 6000 ∧ (n1 ++ n0).toNat ≤ 6000 then 0x00 else 0x01) ::
              (halfBytes (BitVec.ofNat 16 off) ++ halfBytes (BitVec.ofNat 16 on))⟩
          (setReceiver l .hunting { s with settings := { s.settings with offBudget := off, onBudget := on } }))) ∧
    (∀ (l : Link) (tag : Byte) (payload : List Byte) (s : State), Dispatches l s → payload.length ≠ 4 →
      exec (.setBudget l tag payload) s = .next (sendFrame l ⟨0x94, tag, [0x12]⟩ (setReceiver l .hunting s))) ∧
    ∀ s t : State, s.thermal.allocationTimer.isSome = true → exec .allocationPeriodExpiry s = .next t →
      t.zones[0].grantedPower + t.zones[1].grantedPower + t.zones[2].grantedPower + t.zones[3].grantedPower ≤
        if s.seq.hpwrEn then s.settings.onBudget else s.settings.offBudget

/-! ### Chapter 3: warm timeout, fan, filter watch, overheat monitor -/

/-- The warm timeout (R47): with action START and no trip the computer is started by force after its record; otherwise the
record says "held", THERMAL is set, and the timer does not expire again. The expiry is taken while its timer runs, by log entry
4. -/
def Obligations.WarmTimeoutStartsOrHolds : Prop :=
  ∀ s : State, s.thermal.warmTimer.isSome = true → s.seq.state = .warming →
    (s.settings.limits.warmStart = true → s.thermal.tripped = false →
      ∃ t, exec .warmTimeout s = .next t ∧ t = startPowering (appendLog .warmTimeout 1 s) ∧ t.seq.hpwrEn = true ∧
        t.seq.state = (if s.seq.hpg then .resetHold else .powering) ∧ t.queue.entries = []) ∧
      (s.settings.limits.warmStart = false ∨ s.thermal.tripped = true →
        exec .warmTimeout s =
          .next (raise .thermal
            (appendLog .warmTimeout 0 { s with thermal := { s.thermal with warmTimer := none } })))

/-- The fan (R48, R49, R51, R52): a tach pulse is counted; a period expiry measures the speed, tests it with the duty in force,
and sets the duty anew; the third stalled period is FAN_FAULT, the third recovered one FAN_OK (log entry 6). The duty is 1000
in FAULT and when no fan channel reads VALID, otherwise the fan curve's value at the highest reading (R49). The expiry is
taken while its timer runs, by log entry 4. -/
def Obligations.FanPeriodsMeasureAndJudge : Prop :=
  (∀ s : State, s.thermal.fanTimer.isSome = true →
      exec .tachPulse s = .next { s with thermal := { s.thermal with tach := s.thermal.tach + 1 } }) ∧
    (∀ s : State, s.meas.fault = true ∨
        (∀ c : Channel, s.settings.fan.mask.getLsbD c.val = true → reading s c = none) → curveDuty s = 1000) ∧
    (∀ (c : Channel) (highest : Int) (s : State), s.meas.fault = false → s.settings.fan.mask.getLsbD c.val = true →
      reading s c = some highest →
      (∀ (d : Channel) (other : Int), s.settings.fan.mask.getLsbD d.val = true → reading s d = some other →
        other ≤ highest) →
      curveDuty s = curveValue s.settings.fan.curve highest) ∧
    ∀ (speed : Nat) (s : State), s.thermal.fanTimer.isSome = true → speed = min (s.thermal.tach * 30) 65535 →
      ∃ t, exec .fanPeriodExpiry s = .next t ∧ t.thermal.speed = speed ∧ t.thermal.tach = 0 ∧
        t.thermal.fanTimer = some ⟨1000, 1000⟩ ∧
        t.thermal.fanDuty =
          (if s.seq.hpwrEn then max (curveDuty s) s.settings.fan.minimum else curveDuty s) ∧
        (s.thermal.fanFault = false → ¬ (250 ≤ s.thermal.fanDuty ∧ speed < s.settings.fan.stallSpeed) →
          t.thermal.stall = 0 ∧ t = { s with thermal := t.thermal } ∧ t.thermal.fanFault = false) ∧
        (s.thermal.fanFault = false → 250 ≤ s.thermal.fanDuty → speed < s.settings.fan.stallSpeed →
          s.thermal.stall < 2 →
          t.thermal.stall = s.thermal.stall + 1 ∧ t = { s with thermal := t.thermal } ∧ t.thermal.fanFault = false) ∧
        (s.thermal.fanFault = false → 250 ≤ s.thermal.fanDuty → speed < s.settings.fan.stallSpeed →
          2 ≤ s.thermal.stall →
          t.thermal.fanFault = true ∧ t.thermal.stall = 0 ∧ t.thermal.recovery = 0 ∧
            holdsCause t.causes .fan = true ∧
            (∃ r, t.log.ring.getLast? = some r ∧ r.kind = .fanFault ∧ r.detail.toNat = speed) ∧
            exec .fanFault s = .next t) ∧
        (s.thermal.fanFault = true → speed < s.settings.fan.stallSpeed →
          t.thermal.recovery = 0 ∧ t = { s with thermal := t.thermal } ∧ t.thermal.fanFault = true) ∧
        (s.thermal.fanFault = true → s.settings.fan.stallSpeed ≤ speed → s.thermal.recovery < 2 →
          t.thermal.recovery = s.thermal.recovery + 1 ∧ t = { s with thermal := t.thermal } ∧
            t.thermal.fanFault = true) ∧
        (s.thermal.fanFault = true → s.settings.fan.stallSpeed ≤ speed → 2 ≤ s.thermal.recovery →
          t.thermal.fanFault = false ∧ t.thermal.stall = 0 ∧ t.thermal.recovery = 0 ∧
            (∃ r, t.log.ring.getLast? = some r ∧ r.kind = .fanOk ∧ r.detail.toNat = speed) ∧
            exec .fanOk s = .next t)

/-- The filter watch (R53, R54): a strained minute counts up, any other counts down; at the service count the FILTER status is
set, with its record and cause; while it is set the count stands. FILTER_SERVICE is the minute at which it is set. That row is
the whole minute by log entry 6, and the expiry is taken while its timer runs, by log entry 4. -/
def Obligations.FilterWatchCountsStrainedMinutes : Prop :=
  ∀ (count : Nat) (s : State), s.thermal.minuteTimer.isSome = true →
    count =
      (match reading s s.settings.limits.board, reading s s.settings.limits.inlet with
      | some board, some inlet =>
        if s.settings.limits.highDuty ≤ s.thermal.fanDuty ∧ (s.settings.limits.rise : Int) ≤ board - inlet then
          s.thermal.watch + 1
        else s.thermal.watch - 1
      | _, _ => s.thermal.watch - 1) →
    (s.thermal.filterSet = true →
      exec .minuteExpiry s = .next { s with thermal := { s.thermal with minuteTimer := some ⟨60000, 60000⟩ } }) ∧
      (s.thermal.filterSet = false → count < s.settings.limits.serviceCount →
        exec .minuteExpiry s =
          .next { s with thermal := { s.thermal with minuteTimer := some ⟨60000, 60000⟩, watch := count } }) ∧
      (s.thermal.filterSet = false → s.settings.limits.serviceCount ≤ count →
        ∃ t, t = raise .filter
            (appendLog .filterService (BitVec.ofNat 16 count)
              { s with
                thermal :=
                  { s.thermal with minuteTimer := some ⟨60000, 60000⟩, watch := count, filterSet := true } }) ∧
          exec .minuteExpiry s = .next t ∧ exec .filterService s = .next t)

/-- Clear Filter Service (R55), whole: the watch count becomes 0 and the FILTER status clears, whether it was set or not; the
minute timer and the FILTER cause stay; a payload that is not empty is refused; a minute that falls at the same moment is
undone or starts from 0; Get Status reports the two. -/
def Obligations.ClearFilterServiceRestartsTheWatch : Prop :=
  (∀ (l : Link) (tag : Byte) (s : State), Dispatches l s →
      exec (.clearFilterService l tag []) s =
        .next (sendFrame l ⟨0x97, tag, [0x00]⟩
          (setReceiver l .hunting { s with thermal := { s.thermal with watch := 0, filterSet := false } }))) ∧
    (∀ (l : Link) (tag : Byte) (payload : List Byte) (s : State), Dispatches l s → payload ≠ [] →
      exec (.clearFilterService l tag payload) s =
        .next (sendFrame l ⟨0x97, tag, [0x12]⟩ (setReceiver l .hunting s))) ∧
    (∀ (l : Link) (tag : Byte) (s t u : State), exec .minuteExpiry s = .next t → Dispatches l t →
      exec (.clearFilterService l tag []) t = .next u → u.thermal.watch = 0 ∧ u.thermal.filterSet = false) ∧
    (∀ (l : Link) (tag : Byte) (s t u : State), Dispatches l s → s.thermal.minuteTimer.isSome = true →
      exec (.clearFilterService l tag []) s = .next t → exec .minuteExpiry t = .next u → u.thermal.watch ≤ 1) ∧
    ∀ (l : Link) (tag : Byte) (s : State), Dispatches l s →
      ∃ p : List Byte,
        exec (.getStatus l tag []) s = .next (sendFrame l ⟨0x82, tag, p⟩ (setReceiver l .hunting s)) ∧
          (p.drop 61).take 3 = (if s.thermal.filterSet then 1 else 0) :: twoBytes s.thermal.watch

/-- The overheat monitor (R32, R45, R56, R57, R58, R81). It is hot when a channel of the overheat mask reads at or above the
trip temperature, and cool when the mask holds a channel and all of them read at or below the resume temperature. A first hot
check starts the trip timer at 0 with the trip hold, or trips at once when that is 0; each further one advances it by 100 ms;
one that is not hot clears it. At its length the monitor trips: the heaters are cut, the gate zones BLOCKING, start permitted
withdrawn, THERMAL_TRIP with the highest temperature, the THERMAL cause, and the shutdown demand, which the sequencer treats by
state. The resume timer works in the same way with cool checks and the resume hold; at its length the status returns to CLEAR
with THERMAL_RESUME, and COOLING becomes WARMING, left at once when start is permitted. THERMAL_TRIP and THERMAL_RESUME are those
two checks, whole, by log entry 6; the check is taken while its timer runs, by log entry 4; a thermal replacement with a grace
of 0 is carried out at once by log entry 19, start permitted is withdrawn also without a gate zone by log entry 31, and the gate
zones are those of the working copy by log entry 35. -/
def Obligations.OverheatMonitorTripsAndResumes : Prop :=
  ((∀ s : State, monitorHot s = true ↔
      ∃ (c : Channel) (t : Int), s.settings.limits.overheatMask.getLsbD c.val = true ∧ reading s c = some t ∧
        s.settings.limits.tripTemperature ≤ t) ∧
    ∀ s : State, monitorCool s = true ↔
      (∃ c : Channel, s.settings.limits.overheatMask.getLsbD c.val = true) ∧
        ∀ c : Channel, s.settings.limits.overheatMask.getLsbD c.val = true →
          ∃ t, reading s c = some t ∧ t ≤ s.settings.limits.resumeTemperature) ∧
    ((∀ s : State, s.thermal.checkTimer.isSome = true → s.thermal.tripped = false → monitorHot s = false →
      exec .overheatCheck s =
        .next { s with thermal := { s.thermal with checkTimer := some ⟨100, 100⟩, tripTimer := none } }) ∧
    (∀ s : State, s.thermal.checkTimer.isSome = true → s.thermal.tripped = false → monitorHot s = true →
      s.thermal.tripTimer = none → 0 < s.settings.limits.tripHold →
      exec .overheatCheck s =
        .next { s with
                thermal :=
                  { s.thermal with
                    checkTimer := some ⟨100, 100⟩
                    tripTimer := some ⟨0, s.settings.limits.tripHold * 1000⟩ } }) ∧
    (∀ (elapsed length : Nat) (s : State), s.thermal.checkTimer.isSome = true → s.thermal.tripped = false →
      monitorHot s = true → s.thermal.tripTimer = some ⟨elapsed, length⟩ → elapsed + 100 < length →
      exec .overheatCheck s =
        .next { s with
                thermal :=
                  { s.thermal with checkTimer := some ⟨100, 100⟩, tripTimer := some ⟨elapsed + 100, length⟩ } }) ∧
    ∀ s : State, s.thermal.checkTimer.isSome = true → s.thermal.tripped = false → monitorHot s = true →
      (s.thermal.tripTimer = none ∧ s.settings.limits.tripHold = 0 ∨
        ∃ elapsed length, s.thermal.tripTimer = some ⟨elapsed, length⟩ ∧ length ≤ elapsed + 100) →
      ∃ t, exec .overheatCheck s = .next t ∧ exec .thermalTrip s = .next t ∧ t.thermal.tripped = true ∧
        t.thermal.tripTimer = none ∧ t.thermal.resumeTimer = none ∧ t.thermal.checkTimer = some ⟨100, 100⟩ ∧
        t.thermal.startPermitted = false ∧ holdsCause t.causes .thermal = true ∧
        (∀ z : Zone, t.zones[z].demandDuty = 0 ∧ t.zones[z].demandPower = 0 ∧ t.zones[z].grantedPower = 0 ∧
          t.zones[z].grantedDuty = 0 ∧ heaterOn t z = false ∧ t.zones[z].priority = s.zones[z].priority ∧
          (s.settings.zones[z].gateFlag = true → t.zones[z].gate = .blocking ∧ t.zones[z].gateTimer = 0) ∧
          (s.settings.zones[z].gateFlag = false → t.zones[z].gate = s.zones[z].gate)) ∧
        (∃ r ∈ t.log.ring, r.seq = s.log.nextSeq ∧ r.kind = .thermalTrip ∧ r.state = s.seq.state ∧
          ∃ temperature, HighestInMask s temperature ∧ r.detail = BitVec.ofInt 16 temperature) ∧
        DemandAnswered s t ∧
        t = { s with
              zones := t.zones, thermal := t.thermal, seq := t.seq, log := t.log, causes := t.causes, host := t.host }) ∧
    (∀ s : State, s.thermal.checkTimer.isSome = true → s.thermal.tripped = true → monitorCool s = false →
      exec .overheatCheck s =
        .next { s with thermal := { s.thermal with checkTimer := some ⟨100, 100⟩, resumeTimer := none } }) ∧
    (∀ s : State, s.thermal.checkTimer.isSome = true → s.thermal.tripped = true → monitorCool s = true →
      s.thermal.resumeTimer = none → 0 < s.settings.limits.resumeHold →
      exec .overheatCheck s =
        .next { s with
                thermal :=
                  { s.thermal with
                    checkTimer := some ⟨100, 100⟩
                    resumeTimer := some ⟨0, s.settings.limits.resumeHold * 1000⟩ } }) ∧
    (∀ (elapsed length : Nat) (s : State), s.thermal.checkTimer.isSome = true → s.thermal.tripped = true →
      monitorCool s = true → s.thermal.resumeTimer = some ⟨elapsed, length⟩ → elapsed + 100 < length →
      exec .overheatCheck s =
        .next { s with
                thermal :=
                  { s.thermal with checkTimer := some ⟨100, 100⟩, resumeTimer := some ⟨elapsed + 100, length⟩ } }) ∧
    ∀ s : State, s.thermal.checkTimer.isSome = true → s.thermal.tripped = true → monitorCool s = true →
      (s.thermal.resumeTimer = none ∧ s.settings.limits.resumeHold = 0 ∨
        ∃ elapsed length, s.thermal.resumeTimer = some ⟨elapsed, length⟩ ∧ length ≤ elapsed + 100) →
      ∃ t, exec .overheatCheck s = .next t ∧ exec .thermalResume s = .next t ∧ t.thermal.tripped = false ∧
        t.thermal.tripTimer = none ∧ t.thermal.resumeTimer = none ∧
        (∃ r ∈ t.log.ring, r.seq = s.log.nextSeq ∧ r.kind = .thermalResume ∧ r.state = s.seq.state ∧
          ∃ temperature, HighestInMask s temperature ∧ r.detail = BitVec.ofInt 16 temperature) ∧
        (s.seq.state = .cooling →
          t.seq.state =
            if s.thermal.startPermitted then (if s.seq.hpg then .resetHold else .powering) else .warming) ∧
        (s.seq.state ≠ .cooling → t.seq = s.seq) ∧
        t.zones = s.zones ∧ t.ladder = s.ladder ∧ t.settings = s.settings

/-! ### Chapters 4 to 6: the Host Power Sequencer and the Restart Ladder -/

/-- A supervisor state is entered (R46, R50, R63, R64, R66, R67, R69 to R71, R107): HPWR_EN and HRST_N take the levels of Table 4-1,
every timer is stopped, the warning and restart records are discarded, and HPWR_EN turning on raises the fan duty to the
minimum. STARTING/POWERING flushes the Key Queue, sets the boot stage to 0 and appends HOST_START "normal"; with HPG present
the reset hold follows at once; WARMING starts the warm timer and is left at once when start is permitted. -/
def Obligations.StatesAreEnteredWithTheirLines : Prop :=
  (∀ (st : SupervisorState) (s : State),
    enterState st s =
      { s with
        thermal :=
          { s.thermal with
            warmTimer := none
            fanDuty :=
              if decide (st ∈ [.powering, .resetHold, .booting, .running, .warned, .resetPulse, .stopping]) &&
                  !s.seq.hpwrEn then
                max s.thermal.fanDuty s.settings.fan.minimum
              else s.thermal.fanDuty }
        seq :=
          { state := st
            hpwrEn := decide (st ∈ [.powering, .resetHold, .booting, .running, .warned, .resetPulse, .stopping])
            hrst := !decide (st ∈ [.booting, .running, .warned, .stopping])
            hpg := s.seq.hpg
            stage := s.seq.stage
            timers := SequencerTimers.stopped
            warning := none
            restart := none } }) ∧
    ((∀ s : State, ∃ t, t = startPowering s ∧ t.seq.hpwrEn = true ∧ t.seq.hrst = true ∧ t.seq.stage = 0 ∧
      t.queue.entries = [] ∧ t.queue.lost = 0 ∧
      t.queue.flushed = min (s.queue.flushed + s.queue.entries.length) 65535 ∧ t.queue.nextSeq = s.queue.nextSeq ∧
      t.log.nextSeq = followingSeq s.log.nextSeq ∧
      (∃ r, t.log.ring.getLast? = some r ∧ r.kind = .hostStart ∧ r.detail = 0 ∧ r.state = .powering) ∧
      (s.seq.hpg = false → t.seq.state = .powering ∧
        t.seq.timers.hpg = some ⟨s.settings.timing.hpgTimeout, s.settings.timing.hpgTimeout⟩) ∧
      (s.seq.hpg = true → t.seq.state = .resetHold ∧
        t.seq.timers.resetHold = some ⟨s.settings.timing.resetHold, s.settings.timing.resetHold⟩) ∧
      t.thermal.warmTimer = none ∧ t.zones = s.zones ∧ t.settings = s.settings ∧ t.ladder = s.ladder ∧
      t.store = s.store ∧ t.meas = s.meas ∧ t.keypad = s.keypad ∧ t.chords = s.chords ∧ t.timeBase = s.timeBase) ∧
    (∀ s : State, s.thermal.startPermitted = false → ∃ t, t = enterWarming s ∧ t.seq.state = .warming ∧
      t.seq.hpwrEn = false ∧ t.seq.hrst = true ∧ t.log = s.log ∧ t.queue = s.queue ∧
      (0 < s.settings.limits.warmTimeout →
        t.thermal.warmTimer =
          some ⟨s.settings.limits.warmTimeout * 60000, s.settings.limits.warmTimeout * 60000⟩) ∧
      (s.settings.limits.warmTimeout = 0 → t.thermal.warmTimer = none)) ∧
    ∀ s : State, s.thermal.startPermitted = true → ∃ t, t = enterWarming s ∧
      t.seq.state = (if s.seq.hpg then .resetHold else .powering))

/-- HPG (R65, R71, R73 to R75, R84, R97 to R99, R101, R118): a rise in STARTING/POWERING starts the reset hold and elsewhere
changes the level alone; a fall with HPWR_EN off, or through a reset, changes the level alone; in STOPPING it ends in OFF,
in WARNED it carries out the pending action, and in the states that hold or run the computer it is a failure, with the
ladder's answer and its records. That a level already present changes nothing is log entry 18. -/
def Obligations.PowerGoodRisesAndFalls : Prop :=
  (∀ s : State, s.seq.hpg = false → s.seq.state = .powering → s.resetting = none →
      ∃ t, exec .hpgRise s = .next t ∧ t.seq.state = .resetHold ∧ t.seq.hpg = true ∧ t.seq.hpwrEn = true ∧
        t.seq.hrst = true ∧
        t.seq.timers =
          { SequencerTimers.stopped with
            resetHold := some ⟨s.settings.timing.resetHold, s.settings.timing.resetHold⟩ } ∧
        t = { s with seq := t.seq, thermal := t.thermal }) ∧
    (∀ s : State, s.seq.hpg = false → s.seq.state ≠ .powering ∨ s.resetting.isSome = true →
      exec .hpgRise s = .next { s with seq := { s.seq with hpg := true } }) ∧
    (∀ s : State, s.seq.hpg = true → exec .hpgRise s = .next s) ∧
    (∀ s : State, s.seq.hpg = false → exec .hpgFall s = .next s) ∧
    (∀ s : State, s.seq.hpg = true → s.seq.hpwrEn = false ∨ s.resetting.isSome = true →
      exec .hpgFall s = .next { s with seq := { s.seq with hpg := false } }) ∧
    (∀ s : State, s.seq.hpg = true → s.seq.hpwrEn = true → s.resetting = none → s.seq.state = .stopping →
      exec .hpgFall s =
        .next (appendLog .powerOff 1 (enterState .off { s with seq := { s.seq with hpg := false } }))) ∧
    (∀ s : State, s.seq.hpg = true → s.seq.hpwrEn = true → s.resetting = none → s.seq.state = .warned →
      exec .hpgFall s =
        .next (carryOut (appendLog .powerFault 2 { s with seq := { s.seq with hpg := false } }))) ∧
    ∀ s : State, s.seq.hpg = true → s.seq.hpwrEn = true → s.resetting = none →
      s.seq.state = .resetHold ∨ s.seq.state = .booting ∨ s.seq.state = .running ∨ s.seq.state = .resetPulse →
      ∃ t, exec .hpgFall s = .next t ∧ t.seq.hpg = false ∧
        (∃ r ∈ t.log.ring, r.seq = s.log.nextSeq ∧ r.kind = .powerFault ∧ r.detail = 1 ∧ r.state = s.seq.state ∧
          r.rung = s.ladder.rung ∧ r.failures = s.ladder.failures) ∧
        FailureAnswered .powerFault (decide (s.seq.state = .booting ∨ s.seq.state = .running)) s t

/-- The timeouts that are failures (R71, R74, R75, R89, R91, R93, R97 to R99, R101, R108): the record shows the state and
the position before the count, and the ladder's answer follows, with its warning announced where it warns, and with its
SLOT_FLIP, RESTART and LOCKOUT records; an HPG timeout is never warned of. An expiry is taken once its timer has run out;
one that a Check-In of stage 1 to 15 in RUNNING forestalls does not occur. That the timers count the ticks given, and that
an expiry which does not occur changes nothing, is log entries 4, 5 and 7. -/
def Obligations.TimeoutsAreFailures : Prop :=
  (∀ (n : Nat) (s : State), s.seq.state = .booting → s.seq.timers.bootWindow = some ⟨n, 0⟩ →
      ∃ t, exec .bootWindowExpiry s = .next t ∧
        (∃ r ∈ t.log.ring, r.seq = s.log.nextSeq ∧ r.kind = .checkinTimeout ∧ r.detail = 0 ∧ r.state = .booting ∧
          r.rung = s.ladder.rung ∧ r.failures = s.ladder.failures) ∧
        FailureAnswered .checkinTimeout true s t) ∧
    (∀ (n : Nat) (s : State), s.seq.state = .running → s.seq.timers.run = some ⟨n, 0⟩ →
      ∃ t, exec .runTimeoutExpiry s = .next t ∧
        (∃ r ∈ t.log.ring, r.seq = s.log.nextSeq ∧ r.kind = .checkinTimeout ∧ r.detail = 1 ∧ r.state = .running ∧
          r.rung = s.ladder.rung ∧ r.failures = s.ladder.failures) ∧
        FailureAnswered .checkinTimeout true s t) ∧
    (∀ (n : Nat) (s : State), s.seq.state = .powering → s.seq.timers.hpg = some ⟨n, 0⟩ →
      ∃ t, exec .hpgTimeout s = .next t ∧
        (∃ r ∈ t.log.ring, r.seq = s.log.nextSeq ∧ r.kind = .powerFault ∧ r.detail = 0 ∧ r.state = .powering ∧
          r.rung = s.ladder.rung ∧ r.failures = s.ladder.failures) ∧
        FailureAnswered .powerFault false s t) ∧
    ∀ (tag stage : Byte) (s : State), receiving s = true → 1 ≤ stage.toNat → stage.toNat ≤ 15 →
      s.seq.state = .running → 0 < s.settings.timing.runTimeout →
      ∃ t, exec (.checkIn .host tag [stage]) s = .next t ∧ exec .runTimeoutExpiry t = .next t ∧ t.log = s.log ∧
        t.ladder = s.ladder

/-- The other sequencer timers (R72, R75 to R77, R80, R94, R97 to R100, R110, R117): what each expiry leads to, in the state
that owns the timer, once it has run out. In another state, and while the timer has not run out, an expiry of any sequencer
timer does not occur and changes nothing (R66; log entries 4 and 7). -/
def Obligations.SequencerTimersExpire : Prop :=
  (∀ (n : Nat) (s : State), s.seq.state = .resetHold → s.seq.timers.resetHold = some ⟨n, 0⟩ →
      ∃ t, exec .resetHoldExpiry s = .next t ∧ t.seq.state = .booting ∧ t.seq.hrst = false ∧ t.seq.hpwrEn = true ∧
        t.seq.timers =
          { SequencerTimers.stopped with
            bootWindow := some ⟨s.settings.timing.bootWindow * 1000, s.settings.timing.bootWindow * 1000⟩ } ∧
        t = { s with seq := t.seq, thermal := t.thermal }) ∧
    (∀ (n : Nat) (s : State), s.seq.state = .resetPulse → s.seq.timers.pulse = some ⟨n, 0⟩ → s.seq.hpg = true →
      ∃ t, exec .pulseTimerExpiry s = .next t ∧ t.seq.state = .booting ∧ t.seq.hrst = false ∧ t.seq.stage = 0 ∧
        t.seq.timers.bootWindow =
          some ⟨s.settings.timing.bootWindow * 1000, s.settings.timing.bootWindow * 1000⟩ ∧
        t = { s with seq := t.seq, thermal := t.thermal }) ∧
    (∀ (n : Nat) (s : State), s.seq.state = .resetPulse → s.seq.timers.pulse = some ⟨n, 0⟩ → s.seq.hpg = false →
      ∃ t, exec .pulseTimerExpiry s = .next t ∧
        (∃ r ∈ t.log.ring, r.seq = s.log.nextSeq ∧ r.kind = .powerFault ∧ r.detail = 1 ∧ r.state = .resetPulse) ∧
        FailureAnswered .powerFault false s t) ∧
    (∀ (n : Nat) (r : RestartRecord) (s : State), s.seq.state = .powerDown →
      s.seq.timers.offInterval = some ⟨n, 0⟩ → s.seq.restart = some r →
      exec .offIntervalExpiry s =
        .next (if r.offRequested then appendLog .powerOff 3 (enterState .off s) else enterWarming s)) ∧
    (∀ (n : Nat) (s : State), s.seq.state = .stopping → s.seq.timers.powerOff = some ⟨n, 0⟩ →
      exec .powerOffTimerExpiry s = .next (appendLog .powerOff 0 (enterState .off s))) ∧
    (∀ (n : Nat) (s : State), s.seq.state = .running → s.seq.timers.stability = some ⟨n, 0⟩ →
      exec .stabilityExpiry s =
        .next
          { appendLog .stable 0
              { s with seq := { s.seq with timers := { s.seq.timers with stability := none } } } with
            ladder := ⟨0, 0⟩ }) ∧
    (∀ (n : Nat) (w : Warning) (s : State), s.seq.state = .warned → s.seq.timers.grace = some ⟨n, 0⟩ →
      s.seq.warning = some w → w.action = .warm →
      ∃ t, exec .graceExpiry s = .next t ∧ t.seq.state = .resetPulse ∧ t.seq.hrst = true ∧ t.seq.warning = none ∧
        t.seq.timers.pulse = some ⟨s.settings.timing.warmPulse, s.settings.timing.warmPulse⟩ ∧
        (∃ r, t.log.ring.getLast? = some r ∧ r.kind = .restart ∧ r.detail = 0 ∧ r.state = .resetPulse) ∧
        t.ladder = s.ladder) ∧
    (∀ (n : Nat) (w : Warning) (off : Nat) (s : State), s.seq.state = .warned → s.seq.timers.grace = some ⟨n, 0⟩ →
      s.seq.warning = some w → w.action = .cold off →
      ∃ t, exec .graceExpiry s = .next t ∧ t.seq.state = .powerDown ∧ t.seq.hpwrEn = false ∧ t.seq.warning = none ∧
        t.seq.timers.offInterval = some ⟨off * 1000, off * 1000⟩ ∧
        (∃ r, t.log.ring.getLast? = some r ∧ r.kind = .restart ∧ r.detail = 0x0100 ∧ r.state = .powerDown) ∧
        t.ladder = s.ladder) ∧
    (∀ (n : Nat) (w : Warning) (s : State), s.seq.state = .warned → s.seq.timers.grace = some ⟨n, 0⟩ →
      s.seq.warning = some w → w.action = .off →
      exec .graceExpiry s = .next (if s.thermal.tripped then enterState .cooling s else enterWarming s)) ∧
    ∀ s : State,
      (s.seq.state ≠ .powering ∨ expired s.seq.timers.hpg = false → exec .hpgTimeout s = .next s) ∧
        (s.seq.state ≠ .resetHold ∨ expired s.seq.timers.resetHold = false → exec .resetHoldExpiry s = .next s) ∧
        (s.seq.state ≠ .booting ∨ expired s.seq.timers.bootWindow = false → exec .bootWindowExpiry s = .next s) ∧
        (s.seq.state ≠ .running ∨ expired s.seq.timers.run = false → exec .runTimeoutExpiry s = .next s) ∧
        (s.seq.state ≠ .running ∨ expired s.seq.timers.stability = false → exec .stabilityExpiry s = .next s) ∧
        (s.seq.state ≠ .warned ∨ expired s.seq.timers.grace = false → exec .graceExpiry s = .next s) ∧
        (s.seq.state ≠ .resetPulse ∨ expired s.seq.timers.pulse = false → exec .pulseTimerExpiry s = .next s) ∧
        (s.seq.state ≠ .powerDown ∨ expired s.seq.timers.offInterval = false → exec .offIntervalExpiry s = .next s) ∧
        (s.seq.state ≠ .stopping ∨ expired s.seq.timers.powerOff = false → exec .powerOffTimerExpiry s = .next s) ∧
        ∀ t : Option Timer, expired t = true ↔ ∃ n, t = some ⟨n, 0⟩

/-- Check-In (R87 to R92, R94, R100, R113), by link, payload and state: stray ones are counted and change nothing else; at or
above the confirm stage it confirms the boot or cancels a CHECKIN_TIMEOUT warning, with both timers of RUNNING started, or,
with a stability time of 0, STABLE at once and the ladder reset; in RUNNING it restarts the run timeout, and with stage 0 it
announces a reboot. It is never answered. -/
def Obligations.CheckInIsTakenByState : Prop :=
  (∀ (tag : Byte) (payload : List Byte) (s : State), receiving s = true →
      exec (.checkIn .service tag payload) s =
        .next { s with service := { s.service with receiver := .hunting, strays := bump s.service.strays } }) ∧
    (∀ (tag : Byte) (payload : List Byte) (s : State), receiving s = true →
      (∀ stage : Byte, payload = [stage] → 15 < stage.toNat ∨
        (s.seq.state ≠ .booting ∧ s.seq.state ≠ .running ∧ s.seq.state ≠ .warned)) →
      exec (.checkIn .host tag payload) s =
        .next { s with host := { s.host with receiver := .hunting, strays := bump s.host.strays } }) ∧
    (∀ (tag stage : Byte) (s : State), receiving s = true → stage.toNat ≤ 15 → s.seq.state = .booting →
      stage.toNat < s.settings.timing.confirmStage →
      exec (.checkIn .host tag [stage]) s =
        .next { s with
                host := { s.host with receiver := .hunting }
                seq := { s.seq with stage := stage.toNat } }) ∧
    (∀ (tag stage : Byte) (s : State), receiving s = true → stage.toNat ≤ 15 → s.seq.state = .booting →
      s.settings.timing.confirmStage ≤ stage.toNat → 0 < s.settings.timing.stability →
      ∃ t, exec (.checkIn .host tag [stage]) s = .next t ∧ t.seq.state = .running ∧ t.seq.stage = stage.toNat ∧
        t.seq.timers =
          { SequencerTimers.stopped with
            run := some ⟨s.settings.timing.runTimeout * 1000, s.settings.timing.runTimeout * 1000⟩
            stability := some ⟨s.settings.timing.stability * 1000, s.settings.timing.stability * 1000⟩ } ∧
        (∃ r, t.log.ring.getLast? = some r ∧ r.kind = .bootConfirmed ∧ r.detail.toNat = stage.toNat) ∧
        t.ladder = s.ladder ∧ t.queue = s.queue ∧ t.zones = s.zones ∧ t.settings = s.settings) ∧
    (∀ (tag stage : Byte) (s : State), receiving s = true → stage.toNat ≤ 15 → s.seq.state = .booting →
      s.settings.timing.confirmStage ≤ stage.toNat → s.settings.timing.stability = 0 →
      ∃ t, exec (.checkIn .host tag [stage]) s = .next t ∧ t.seq.state = .running ∧ t.seq.stage = stage.toNat ∧
        t.seq.timers =
          { SequencerTimers.stopped with
            run := some ⟨s.settings.timing.runTimeout * 1000, s.settings.timing.runTimeout * 1000⟩ } ∧
        (∃ r ∈ t.log.ring, r.seq = s.log.nextSeq ∧ r.kind = .bootConfirmed ∧ r.detail.toNat = stage.toNat ∧
          r.state = .running) ∧
        (∃ r, t.log.ring.getLast? = some r ∧ r.seq = followingSeq s.log.nextSeq ∧ r.kind = .stable ∧ r.detail = 0 ∧
          r.state = .running ∧ r.rung = s.ladder.rung ∧ r.failures = s.ladder.failures) ∧
        t.ladder = ⟨0, 0⟩ ∧ t.queue = s.queue ∧ t.zones = s.zones ∧ t.settings = s.settings) ∧
    (∀ (tag stage : Byte) (s : State), receiving s = true → stage.toNat ≤ 15 → s.seq.state = .running →
      stage ≠ 0 →
      exec (.checkIn .host tag [stage]) s =
        .next { s with
                host := { s.host with receiver := .hunting }
                seq :=
                  { s.seq with
                    stage := stage.toNat
                    timers :=
                      { s.seq.timers with
                        run :=
                          some ⟨s.settings.timing.runTimeout * 1000, s.settings.timing.runTimeout * 1000⟩ } } }) ∧
    (∀ (tag : Byte) (s : State), receiving s = true → s.seq.state = .running →
      ∃ t, exec (.checkIn .host tag [0]) s = .next t ∧ t.seq.state = .booting ∧ t.seq.stage = 0 ∧
        t.seq.timers =
          { SequencerTimers.stopped with
            bootWindow := some ⟨s.settings.timing.bootWindow * 1000, s.settings.timing.bootWindow * 1000⟩ } ∧
        (∃ r, t.log.ring.getLast? = some r ∧ r.kind = .hostReboot) ∧ t.ladder = s.ladder ∧ t.queue = s.queue) ∧
    (∀ (tag stage : Byte) (w : Warning) (s : State), receiving s = true → stage.toNat ≤ 15 → s.seq.state = .warned →
      s.seq.warning = some w → w.cause = .checkinTimeout → s.settings.timing.confirmStage ≤ stage.toNat →
      0 < s.settings.timing.stability →
      ∃ t, exec (.checkIn .host tag [stage]) s = .next t ∧ t.seq.state = .running ∧ t.seq.warning = none ∧
        t.seq.stage = stage.toNat ∧
        t.seq.timers =
          { SequencerTimers.stopped with
            run := some ⟨s.settings.timing.runTimeout * 1000, s.settings.timing.runTimeout * 1000⟩
            stability := some ⟨s.settings.timing.stability * 1000, s.settings.timing.stability * 1000⟩ } ∧
        (∃ r, t.log.ring.getLast? = some r ∧ r.kind = .warningCancelled ∧ r.detail = 0) ∧ t.ladder = s.ladder) ∧
    (∀ (tag stage : Byte) (w : Warning) (s : State), receiving s = true → stage.toNat ≤ 15 → s.seq.state = .warned →
      s.seq.warning = some w → w.cause = .checkinTimeout → s.settings.timing.confirmStage ≤ stage.toNat →
      s.settings.timing.stability = 0 →
      ∃ t, exec (.checkIn .host tag [stage]) s = .next t ∧ t.seq.state = .running ∧ t.seq.warning = none ∧
        t.seq.stage = stage.toNat ∧
        t.seq.timers =
          { SequencerTimers.stopped with
            run := some ⟨s.settings.timing.runTimeout * 1000, s.settings.timing.runTimeout * 1000⟩ } ∧
        (∃ r ∈ t.log.ring, r.seq = s.log.nextSeq ∧ r.kind = .warningCancelled ∧ r.detail = 0 ∧ r.state = .running) ∧
        (∃ r, t.log.ring.getLast? = some r ∧ r.seq = followingSeq s.log.nextSeq ∧ r.kind = .stable ∧ r.detail = 0 ∧
          r.state = .running ∧ r.rung = s.ladder.rung ∧ r.failures = s.ladder.failures) ∧
        t.ladder = ⟨0, 0⟩) ∧
    ∀ (tag stage : Byte) (w : Warning) (s : State), receiving s = true → stage.toNat ≤ 15 → s.seq.state = .warned →
      s.seq.warning = some w → w.cause ≠ .checkinTimeout ∨ stage.toNat < s.settings.timing.confirmStage →
      exec (.checkIn .host tag [stage]) s =
        .next { s with
                host := { s.host with receiver := .hunting }
                seq := { s.seq with stage := stage.toNat } }

/-- Start Host (R68): a payload that is not empty is refused first; in OFF the state becomes WARMING, left at once when
start is permitted, with the reply OK and no record of its own; in every other state the reply is NOT_NOW and nothing
changes, so a second Start Host is answered NOT_NOW. The reply follows the records by log entry 10. -/
def Obligations.StartHostLeavesOff : Prop :=
  (∀ (l : Link) (tag : Byte) (payload : List Byte) (s : State), Dispatches l s → payload ≠ [] →
      exec (.startHost l tag payload) s = .next (sendFrame l ⟨0x89, tag, [0x12]⟩ (setReceiver l .hunting s))) ∧
    (∀ (l : Link) (tag : Byte) (s : State), Dispatches l s → s.seq.state ≠ .off →
      exec (.startHost l tag []) s = .next (sendFrame l ⟨0x89, tag, [0x14]⟩ (setReceiver l .hunting s))) ∧
    (∀ (l : Link) (tag : Byte) (s : State), Dispatches l s → s.seq.state = .off →
      exec (.startHost l tag []) s =
        .next (sendFrame l ⟨0x89, tag, [0x00]⟩ (enterWarming (setReceiver l .hunting s)))) ∧
    (∀ (l : Link) (tag : Byte) (s t : State), Dispatches l s → s.seq.state = .off → s.thermal.startPermitted = false →
      exec (.startHost l tag []) s = .next t → t.seq.state = .warming ∧ t.log = s.log) ∧
    ∀ (l k : Link) (tag again : Byte) (s t : State), Dispatches l s → s.seq.state = .off →
      exec (.startHost l tag []) s = .next t → Dispatches k t →
      exec (.startHost k again []) t = .next (sendFrame k ⟨0x89, again, [0x14]⟩ (setReceiver k .hunting t))

/-- Release Lockout (R102) and Restart (R75, R78), by state; the off interval of a Restart is brought into 1 to 3600 s, CLAMPED. A
Restart that is taken enters the sub-phase of its action, with the restart record and the timer, and appends RESTART with
its action and the source REQUEST (Table 9-2), in that sub-phase; the ladder stays. The reply follows the records by log
entry 10. -/
def Obligations.ReleaseAndRestartByState : Prop :=
  (∀ (l : Link) (tag : Byte) (s : State), Dispatches l s → s.seq.state = .lockedOut →
      exec (.releaseLockout l tag []) s =
        .next (sendFrame l ⟨0x8E, tag, [0x00]⟩
          (enterWarming (appendLog .lockoutReleased 0 (setReceiver l .hunting { s with ladder := ⟨0, 0⟩ }))))) ∧
    (∀ (l : Link) (tag : Byte) (s : State), Dispatches l s → s.seq.state ≠ .lockedOut →
      exec (.releaseLockout l tag []) s =
        .next (sendFrame l ⟨0x8E, tag, [0x14]⟩ (setReceiver l .hunting s))) ∧
    (∀ (l : Link) (tag action o1 o0 : Byte) (s : State), Dispatches l s → 1 < action.toNat →
      exec (.restart l tag [action, o1, o0]) s =
        .next (sendFrame l ⟨0x8B, tag, [0x13]⟩ (setReceiver l .hunting s))) ∧
    (∀ (l : Link) (tag action o1 o0 : Byte) (s : State), Dispatches l s → action.toNat ≤ 1 →
      s.seq.state ≠ .booting → s.seq.state ≠ .running →
      exec (.restart l tag [action, o1, o0]) s =
        .next (sendFrame l ⟨0x8B, tag, [0x14]⟩ (setReceiver l .hunting s))) ∧
    ∀ (l : Link) (tag action o1 o0 : Byte) (off : Nat) (s : State), Dispatches l s → action.toNat ≤ 1 →
      s.seq.state = .booting ∨ s.seq.state = .running → off = max 1 (min (o1 ++ o0).toNat 3600) →
      ∃ t, exec (.restart l tag [action, o1, o0]) s =
          .next (sendFrame l
            ⟨0x8B, tag, (if off = (o1 ++ o0).toNat then 0x00 else 0x01) :: action :: halfBytes (BitVec.ofNat 16 off)⟩ t) ∧
        t = { setReceiver l .hunting s with
              seq := t.seq, thermal := t.thermal, log := t.log, causes := t.causes, host := t.host } ∧
        (action = 0 → t.seq.state = .resetPulse ∧ t.seq.hpwrEn = true ∧ t.seq.hrst = true ∧
          t.seq.restart = some ⟨.warm, none, .request, false⟩ ∧
          t.seq.timers =
            { SequencerTimers.stopped with
              pulse := some ⟨s.settings.timing.warmPulse, s.settings.timing.warmPulse⟩ } ∧
          ∃ r, t.log.ring.getLast? = some r ∧ r.seq = s.log.nextSeq ∧ r.kind = .restart ∧ r.detail = 0x0001 ∧
            r.state = .resetPulse ∧ r.rung = s.ladder.rung ∧ r.failures = s.ladder.failures) ∧
        (action = 1 → t.seq.state = .powerDown ∧ t.seq.hpwrEn = false ∧ t.seq.hrst = true ∧
          t.seq.restart = some ⟨.cold, some off, .request, false⟩ ∧
          t.seq.timers = { SequencerTimers.stopped with offInterval := some ⟨off * 1000, off * 1000⟩ } ∧
          ∃ r, t.log.ring.getLast? = some r ∧ r.seq = s.log.nextSeq ∧ r.kind = .restart ∧ r.detail = 0x0101 ∧
            r.state = .powerDown ∧ r.rung = s.ladder.rung ∧ r.failures = s.ladder.failures)

/-- Power Off (R79, R80, R119), in each of the supervisor states; a delay above 600 s is brought to 600, CLAMPED. In WARNED the
warning is dropped with its record, and a length of 0, of the delay or of what is left of a thermal grace, ends STOPPING at
once. The reply follows the records by log entry 10; that the WARNING_CANCELLED record shows STOPPING is log entry 11. -/
def Obligations.PowerOffByState : Prop :=
  ∀ (l : Link) (tag d1 d0 : Byte) (delay left : Nat) (reply : Frame) (s : State), Dispatches l s →
    delay = min (d1 ++ d0).toNat 600 →
    left = (match s.seq.timers.grace with
      | some x => x.left
      | none => 0) →
    reply = ⟨0x8A, tag, (if delay = (d1 ++ d0).toNat then 0x00 else 0x01) :: halfBytes (BitVec.ofNat 16 delay)⟩ →
    (s.seq.state = .off ∨ s.seq.state = .lockedOut ∨ s.seq.state = .resetPulse →
        exec (.powerOff l tag [d1, d0]) s =
          .next (sendFrame l ⟨0x8A, tag, [0x14]⟩ (setReceiver l .hunting s))) ∧
      (s.seq.state = .warming ∨ s.seq.state = .cooling →
        exec (.powerOff l tag [d1, d0]) s =
          .next (sendFrame l reply (appendLog .powerOff 3 (enterState .off (setReceiver l .hunting s))))) ∧
      (s.seq.state = .powering ∨ s.seq.state = .resetHold ∨ s.seq.state = .booting ∨ s.seq.state = .running →
        0 < delay →
        ∃ t, exec (.powerOff l tag [d1, d0]) s = .next (sendFrame l reply t) ∧
          t.seq.state = .stopping ∧ t.seq.hpwrEn = true ∧ t.seq.hrst = false ∧
          t.seq.timers = { SequencerTimers.stopped with powerOff := some ⟨delay * 1000, delay * 1000⟩ } ∧
          t = { setReceiver l .hunting s with seq := t.seq, thermal := t.thermal }) ∧
      (s.seq.state = .powering ∨ s.seq.state = .resetHold ∨ s.seq.state = .booting ∨ s.seq.state = .running →
        delay = 0 →
        exec (.powerOff l tag [d1, d0]) s =
          .next (sendFrame l reply
            (appendLog .powerOff 0 (enterState .off (enterState .stopping (setReceiver l .hunting s)))))) ∧
      (s.seq.state = .stopping → 0 < delay →
        exec (.powerOff l tag [d1, d0]) s =
          .next (sendFrame l reply
            (setReceiver l .hunting
              { s with
                seq :=
                  { s.seq with
                    timers := { s.seq.timers with powerOff := some ⟨delay * 1000, delay * 1000⟩ } } }))) ∧
      (s.seq.state = .stopping → delay = 0 →
        exec (.powerOff l tag [d1, d0]) s =
          .next (sendFrame l reply (appendLog .powerOff 0 (enterState .off (setReceiver l .hunting s))))) ∧
      (∀ r : RestartRecord, s.seq.state = .powerDown → s.seq.restart = some r →
        exec (.powerOff l tag [d1, d0]) s =
          .next (sendFrame l reply
            (setReceiver l .hunting
              { s with seq := { s.seq with restart := some { r with offRequested := true } } }))) ∧
      (∀ (w : Warning) (length : Nat), s.seq.state = .warned → s.seq.warning = some w →
        length = (if w.cause = .thermal then min (delay * 1000) left else delay * 1000) → 0 < length →
        ∃ t, exec (.powerOff l tag [d1, d0]) s = .next (sendFrame l reply t) ∧
          t.seq.state = .stopping ∧ t.seq.hpwrEn = true ∧ t.seq.warning = none ∧
          t.seq.timers = { SequencerTimers.stopped with powerOff := some ⟨length, length⟩ } ∧
          ∃ r, t.log.ring.getLast? = some r ∧ r.kind = .warningCancelled ∧ r.detail = 1) ∧
      ∀ (w : Warning) (length : Nat), s.seq.state = .warned → s.seq.warning = some w →
        length = (if w.cause = .thermal then min (delay * 1000) left else delay * 1000) → length = 0 →
        ∃ t, exec (.powerOff l tag [d1, d0]) s = .next (sendFrame l reply t) ∧
          t.seq.state = .off ∧ t.seq.hpwrEn = false ∧ t.seq.hrst = true ∧ t.seq.warning = none ∧
          t.seq.restart = none ∧ t.seq.timers = SequencerTimers.stopped ∧
          (∃ r ∈ t.log.ring, r.seq = s.log.nextSeq ∧ r.kind = .warningCancelled ∧ r.detail = 1 ∧
            r.state = .stopping) ∧
          (∃ r, t.log.ring.getLast? = some r ∧ r.seq = followingSeq s.log.nextSeq ∧ r.kind = .powerOff ∧
            r.detail = 0 ∧ r.state = .off) ∧
          t.ladder = s.ladder ∧ t.store = s.store ∧ t.settings = s.settings ∧ t.zones = s.zones

/-- Ready (R111) and Defer (R112) on the host link: Ready carries the pending action out at once, as the grace expiry would; Defer
restarts the grace with the defer step while defers are left; elsewhere both are answered NOT_NOW. With a defer step of 0 the
record WARNING_DEFERRED and the reply, with a grace of 0 and the defers left, come first, and then the action with its RESTART
record (R112). The reply follows the records of the effect, but comes before the action at the end of a grace, by log entry
10; the ticks given bring the grace to its end by log entry 5. -/
def Obligations.ReadyAndDeferAnswerTheWarning : Prop :=
  (∀ (tag : Byte) (s : State), Dispatches .host s → s.seq.state = .warned →
      exec (.ready .host tag []) s =
        .next (sendFrame .host ⟨0x8C, tag, [0x00]⟩ (carryOut (setReceiver .host .hunting s)))) ∧
    (∀ (n : Nat) (s : State), s.seq.state = .warned → s.seq.timers.grace = some ⟨n, 0⟩ →
      exec .graceExpiry s = .next (carryOut s)) ∧
    (∀ (tag : Byte) (s : State), Dispatches .host s → s.seq.state ≠ .warned →
      exec (.ready .host tag []) s =
        .next (sendFrame .host ⟨0x8C, tag, [0x14]⟩ (setReceiver .host .hunting s))) ∧
    (∀ (tag : Byte) (w : Warning) (s : State), Dispatches .host s → s.seq.state = .warned → s.seq.warning = some w →
      w.deferPermitted = true → 0 < w.defersLeft → 0 < s.settings.timing.deferStep →
      exec (.defer .host tag []) s =
        .next (sendFrame .host
          ⟨0x8D, tag, 0x00 :: twoBytes s.settings.timing.deferStep ++ [oneByte (w.defersLeft - 1)]⟩
          (appendLog .warningDeferred (BitVec.ofNat 16 (w.defersLeft - 1))
            (setReceiver .host .hunting
              { s with
                seq :=
                  { s.seq with
                    warning := some { w with defersLeft := w.defersLeft - 1 }
                    timers :=
                      { s.seq.timers with
                        grace :=
                          some ⟨s.settings.timing.deferStep * 1000, s.settings.timing.deferStep * 1000⟩ } } })))) ∧
    (∀ (tag : Byte) (w : Warning) (s : State), Dispatches .host s → s.seq.state = .warned → s.seq.warning = some w →
      w.deferPermitted = true → 0 < w.defersLeft → s.settings.timing.deferStep = 0 →
      ∃ t, exec (.defer .host tag []) s = .next t ∧
        t =
          carryOut
            (sendFrame .host ⟨0x8D, tag, [0x00, 0x00, 0x00, oneByte (w.defersLeft - 1)]⟩
              (appendLog .warningDeferred (BitVec.ofNat 16 (w.defersLeft - 1))
                (setReceiver .host .hunting
                  { s with
                    seq :=
                      { s.seq with
                        warning := some { w with defersLeft := w.defersLeft - 1 }
                        timers := { s.seq.timers with grace := some ⟨0, 0⟩ } } }))) ∧
        (∃ r ∈ t.log.ring, r.seq = s.log.nextSeq ∧ r.kind = .warningDeferred ∧
          r.detail = BitVec.ofNat 16 (w.defersLeft - 1) ∧ r.state = .warned) ∧
        (s.host.output.length ≤ 2 →
          (⟨0x8D, tag, [0x00, 0x00, 0x00, oneByte (w.defersLeft - 1)]⟩ : Frame) ∈ t.host.output) ∧
        (w.action = .warm → t.seq.state = .resetPulse ∧ t.seq.warning = none ∧ t.ladder = s.ladder ∧
          ∃ r, t.log.ring.getLast? = some r ∧ r.seq = followingSeq s.log.nextSeq ∧ r.kind = .restart ∧ r.detail = 0 ∧
            r.state = .resetPulse) ∧
        ∀ off, w.action = .cold off → t.seq.state = .powerDown ∧ t.seq.hpwrEn = false ∧ t.seq.warning = none ∧
          t.seq.timers.offInterval = some ⟨off * 1000, off * 1000⟩ ∧ t.ladder = s.ladder ∧
          ∃ r, t.log.ring.getLast? = some r ∧ r.seq = followingSeq s.log.nextSeq ∧ r.kind = .restart ∧
            r.detail = 0x0100 ∧ r.state = .powerDown) ∧
    ∀ (tag : Byte) (s : State), Dispatches .host s →
      s.seq.state ≠ .warned ∨
        (∀ w, s.seq.warning = some w → w.deferPermitted = false ∨ w.defersLeft = 0) →
      exec (.defer .host tag []) s =
        .next (sendFrame .host ⟨0x8D, tag, [0x14]⟩ (setReceiver .host .hunting s))

/-- Set Ladder (R103, R177): rungs in range are answered OK and echoed, and the working copy holds exactly them; any other bytes of
1 to 6 rungs are brought into their ranges field by field, the working copy holds the applied rungs, and the reply carries
their bytes, CLAMPED when they differ from the bytes received; the new rung table returns the ladder to (0, 0); in WARNED and
RESTARTING the request is answered NOT_NOW. -/
def Obligations.SetLadderReturnsToTheFirstRung : Prop :=
  (∀ (l : Link) (tag : Byte) (rungs : List Rung) (s : State), Dispatches l s → LadderInRange rungs →
      s.seq.state ≠ .warned → s.seq.state ≠ .resetPulse → s.seq.state ≠ .powerDown →
      exec (.setLadder l tag (ladderPayload rungs)) s =
        .next (sendFrame l ⟨0x9B, tag, 0x00 :: ladderPayload rungs⟩
          (setReceiver l .hunting
            { s with settings := { s.settings with ladder := rungs }, ladder := ⟨0, 0⟩ }))) ∧
    (∀ (l : Link) (tag : Byte) (rungs : List Rung) (s : State), Dispatches l s → LadderInRange rungs →
      s.seq.state = .warned ∨ s.seq.state = .resetPulse ∨ s.seq.state = .powerDown →
      exec (.setLadder l tag (ladderPayload rungs)) s =
        .next (sendFrame l ⟨0x9B, tag, [0x14]⟩ (setReceiver l .hunting s))) ∧
    ∀ (l : Link) (tag : Byte) (given : List (Byte × Byte × Half × Byte)) (rungs : List Rung)
      (received applied : List Byte) (s : State), Dispatches l s → 1 ≤ given.length → given.length ≤ 6 →
      rungs = given.map (fun g => ⟨if g.1 = 0 then .warm else .cold, max 1 (min g.2.1.toNat 7),
        max 1 (min g.2.2.1.toNat 3600), g.2.2.2.getLsbD 0, g.2.2.2.getLsbD 1⟩) →
      received = oneByte given.length :: given.flatMap (fun g => [g.1, g.2.1] ++ halfBytes g.2.2.1 ++ [g.2.2.2]) →
      applied = oneByte given.length :: rungs.flatMap (fun r =>
        ([match r.action with
          | .warm => 0
          | .cold => 1, oneByte r.attempts] : List Byte) ++ twoBytes r.offInterval ++
          [oneByte ((if r.warn then 1 else 0) + if r.flip then 2 else 0)]) →
      (s.seq.state ≠ .warned → s.seq.state ≠ .resetPulse → s.seq.state ≠ .powerDown →
        exec (.setLadder l tag received) s =
          .next (sendFrame l ⟨0x9B, tag, (if applied = received then 0x00 else 0x01) :: applied⟩
            (setReceiver l .hunting
              { s with settings := { s.settings with ladder := rungs }, ladder := ⟨0, 0⟩ }))) ∧
        (s.seq.state = .warned ∨ s.seq.state = .resetPulse ∨ s.seq.state = .powerDown →
          exec (.setLadder l tag received) s =
            .next (sendFrame l ⟨0x9B, tag, [0x14]⟩ (setReceiver l .hunting s)))

/-- Set Timing (R104), whole: any 20 bytes are taken in every supervisor state, each field brought to the nearer end of its range
and an autostart value above 1 to 1; the working copy holds the applied fields, and the reply carries their 20 bytes, CLAMPED
when they differ from the bytes received; a payload of another length is answered BAD_LENGTH. -/
def Obligations.SetTimingClampsEveryField : Prop :=
  (∀ (l : Link) (tag : Byte) (boot run stable hpg hold pulse grace step : Half) (confirm limit thermal auto : Byte)
      (received applied : List Byte) (x : TimingSettings) (s : State), Dispatches l s →
      x =
        { bootWindow := max 10 (min boot.toNat 1800)
          runTimeout := max 1 (min run.toNat 600)
          confirmStage := max 1 (min confirm.toNat 15)
          stability := min stable.toNat 3600
          hpgTimeout := max 10 (min hpg.toNat 5000)
          resetHold := max 10 (min hold.toNat 2000)
          warmPulse := max 10 (min pulse.toNat 2000)
          warningGrace := min grace.toNat 300
          deferStep := min step.toNat 600
          deferLimit := min limit.toNat 7
          thermalGrace := min thermal.toNat 60
          autostart := decide (auto ≠ 0) } →
      received = halfBytes boot ++ halfBytes run ++ [confirm] ++ halfBytes stable ++ halfBytes hpg ++ halfBytes hold ++
        halfBytes pulse ++ halfBytes grace ++ halfBytes step ++ [limit, thermal, auto] →
      applied = twoBytes x.bootWindow ++ twoBytes x.runTimeout ++ [oneByte x.confirmStage] ++ twoBytes x.stability ++
        twoBytes x.hpgTimeout ++ twoBytes x.resetHold ++ twoBytes x.warmPulse ++ twoBytes x.warningGrace ++
        twoBytes x.deferStep ++ [oneByte x.deferLimit, oneByte x.thermalGrace, if auto = 0 then 0 else 1] →
      exec (.setTiming l tag received) s =
        .next (sendFrame l ⟨0x9C, tag, (if applied = received then 0x00 else 0x01) :: applied⟩
          (setReceiver l .hunting { s with settings := { s.settings with timing := x } }))) ∧
    ∀ (l : Link) (tag : Byte) (payload : List Byte) (s : State), Dispatches l s → payload.length ≠ 20 →
      exec (.setTiming l tag payload) s = .next (sendFrame l ⟨0x9C, tag, [0x12]⟩ (setReceiver l .hunting s))
/-! ### Chapters 7 and 8: keypad, chords, Key Queue -/

/-- A row dwell ends (R121, R122): the row's six positions take the sampled columns and the next row is driven; the ROW7
dwell ends in a scan completion instead, after which ROW0 is driven with the settle time in force. Debouncing (R125 to R128,
R131): at a scan completion a change is accepted when it has stood for N completions, and a due press is deferred, its count
held at N, while the candidate down-set holds three corners of a rectangle, of two rows and two columns; a position is in
that set when it is down with no release due, or up with a press due (R126); the releases come first and leave the held
list, then the presses join its tail, each in ascending position and with its event (R127, R128, R131); PRESS_ACCEPTED and
RELEASE_ACCEPTED are the completions that accept the change of their position (log entry 6). That an event of another row
changes nothing is log entry 7. -/
def Obligations.RowsAreSampledAndChangesAccepted : Prop :=
  ((∀ (row : Fin 7) (columns : Columns) (s : State), s.keypad.row = some ⟨row.val, by omega⟩ →
      ∃ t, exec (.rowDwellEnd columns) s = .next t ∧ t.keypad.row = some ⟨row.val + 1, by omega⟩ ∧
        (∀ p : Position, t.keypad.positions[p] =
          if p.val / 6 = row.val then { s.keypad.positions[p] with raw := columns.getLsbD (p.val % 6) }
          else s.keypad.positions[p]) ∧
        t = { s with
              keypad := { s.keypad with positions := t.keypad.positions, row := some ⟨row.val + 1, by omega⟩ } }) ∧
    (∀ (columns : Columns) (s : State), s.keypad.row = some 7 ∨ s.keypad.row = none →
      exec (.rowDwellEnd columns) s = .next s) ∧
    (∀ (columns : Columns) (s : State), s.keypad.row = some 7 →
      ∃ t, exec (.scanCompletion columns) s = .next t ∧ t.keypad.row = some 0 ∧
        t.keypad.settle = s.settings.keypad.settle ∧
        (∀ p : Position, t.keypad.positions[p].raw =
          if 42 ≤ p.val then columns.getLsbD (p.val % 6) else s.keypad.positions[p].raw)) ∧
    ∀ (columns : Columns) (s : State), s.keypad.row ≠ some 7 → exec (.scanCompletion columns) s = .next s) ∧
    (∀ (columns : Columns) (p : Position) (s : State),
      changeDue s.keypad.debounceCount (countedPositions columns s)[p] = true ↔
        (if 42 ≤ p.val then columns.getLsbD (p.val % 6) else s.keypad.positions[p].raw) ≠
            s.keypad.positions[p].debounced ∧
          s.keypad.debounceCount ≤ s.keypad.positions[p].count + 1) ∧
    (∀ (columns : Columns) (candidates : Position → Bool) (s : State),
      (∀ p : Position, candidates p = true ↔
        (s.keypad.positions[p].debounced = true ∧
            changeDue s.keypad.debounceCount (countedPositions columns s)[p] = false) ∨
          (s.keypad.positions[p].debounced = false ∧
            changeDue s.keypad.debounceCount (countedPositions columns s)[p] = true)) →
      (ambiguous s.keypad.debounceCount (countedPositions columns s) = true ↔
        ∃ (r q : Fin 8) (c d : Fin 6), r ≠ q ∧ c ≠ d ∧
          3 ≤ (candidates ⟨r.val * 6 + c.val, by omega⟩).toNat + (candidates ⟨r.val * 6 + d.val, by omega⟩).toNat +
            (candidates ⟨q.val * 6 + c.val, by omega⟩).toNat + (candidates ⟨q.val * 6 + d.val, by omega⟩).toNat)) ∧
    (∀ (columns : Columns) (released pressed : List Position) (s : State), s.keypad.row = some 7 →
      released = ((List.finRange 48).filter fun p =>
        s.keypad.positions[p].debounced && changeDue s.keypad.debounceCount (countedPositions columns s)[p]) →
      pressed = (if ambiguous s.keypad.debounceCount (countedPositions columns s) then []
        else (List.finRange 48).filter fun p =>
          !s.keypad.positions[p].debounced && changeDue s.keypad.debounceCount (countedPositions columns s)[p]) →
      ∃ t, exec (.scanCompletion columns) s = .next t ∧
        t.keypad.held = (s.keypad.held.filter fun p => p ∉ released) ++ pressed ∧
        (NoChordDue s → (∀ q : Position, expired s.keypad.positions[q].hold = false) →
          expired s.keypad.repeatTimer = false →
          s.queue.entries.length + released.length + pressed.length ≤ 64 →
          (t.queue.entries.map fun e => e.kind) =
            (s.queue.entries.map fun e => e.kind) ++
              ((released.filter fun p => s.settings.keys[p].enabled).map fun p =>
                if s.keypad.positions[p].suppressed then .unstuck p s.settings.keys[p].code
                else .release p s.settings.keys[p].code) ++
              (pressed.filter fun p => s.settings.keys[p].enabled).map fun p => .press p s.settings.keys[p].code)) ∧
    (∀ (columns : Columns) (s : State), KeypadLaw s → s.keypad.row = some 7 →
    ∃ t, exec (.scanCompletion columns) s = .next t ∧
      ∀ (p : Position) (raw : Bool) (count : Nat),
        raw = (if 42 ≤ p.val then columns.getLsbD (p.val % 6) else s.keypad.positions[p].raw) →
        count = (if raw = s.keypad.positions[p].debounced then 0 else s.keypad.positions[p].count + 1) →
        (count < s.keypad.debounceCount →
          t.keypad.positions[p].debounced = s.keypad.positions[p].debounced ∧ t.keypad.positions[p].count = count) ∧
        (s.keypad.debounceCount ≤ count → s.keypad.positions[p].debounced = true →
          t.keypad.positions[p] = ⟨raw, false, 0, false, none⟩ ∧ p ∉ t.keypad.held ∧
            exec (.releaseAccepted p columns) s = .next t) ∧
        (s.keypad.debounceCount ≤ count → s.keypad.positions[p].debounced = false →
          ambiguous s.keypad.debounceCount (countedPositions columns s) = false →
          t.keypad.positions[p].debounced = true ∧ t.keypad.positions[p].count = 0 ∧ p ∈ t.keypad.held ∧
            t.keypad.positions[p].hold =
              (if s.settings.keypad.stuckTime = 0 then none
              else some ⟨s.settings.keypad.stuckTime * 1000, s.settings.keypad.stuckTime * 1000⟩) ∧
            exec (.pressAccepted p columns) s = .next t) ∧
        (s.keypad.debounceCount ≤ count → s.keypad.positions[p].debounced = false →
          ambiguous s.keypad.debounceCount (countedPositions columns s) = true →
          t.keypad.positions[p].debounced = false ∧ t.keypad.positions[p].count = s.keypad.debounceCount))

/-- Key events and the Key Queue (R128, R131, R137, R142 to R145): an enabled key's press is handed over as PRESS, its release as
RELEASE, or as UNSTUCK when it was suppressed; the press of a disabled key is a refused keystroke, and its release produces
nothing. An event takes the next number; with room it is stored with the time and any gap count, and the lost count is
cleared; when the queue is full it is lost and counted; a flush discards and counts every entry. -/
def Obligations.KeyEventsAreStoredLostOrFlushed : Prop :=
  ((∀ (p : Position) (s : State), s.settings.keys[p].enabled = true →
      pressEvent p s = keyEvent (.press p s.settings.keys[p].code) s) ∧
    (∀ (p : Position) (s : State), s.settings.keys[p].enabled = false →
      pressEvent p s = { s with keypad := { s.keypad with refused := bump s.keypad.refused } }) ∧
    (∀ (p : Position) (s : State), s.settings.keys[p].enabled = true →
      releaseEvent p false s = keyEvent (.release p s.settings.keys[p].code) s ∧
        releaseEvent p true s = keyEvent (.unstuck p s.settings.keys[p].code) s) ∧
    ∀ (p : Position) (suppressed : Bool) (s : State), s.settings.keys[p].enabled = false → releaseEvent p suppressed s = s) ∧
    ((∀ (kind : KeyKind) (s : State), s.queue.entries.length < 64 →
      ∃ t, t = keyEvent kind s ∧
        t.queue =
          { entries := s.queue.entries ++
              [⟨s.queue.nextSeq, s.timeBase, kind, if s.queue.lost = 0 then none else some (min s.queue.lost 255)⟩]
            nextSeq := s.queue.nextSeq + 1
            lost := 0
            flushed := s.queue.flushed } ∧
        holdsCause t.causes .keys = true ∧
        holdsCause t.causes .keysHalf = decide (31 ≤ s.queue.entries.length) ∧
        holdsCause t.causes .keysFull = decide (63 ≤ s.queue.entries.length) ∧
        t = { s with queue := t.queue, causes := t.causes, host := t.host }) ∧
    (∀ (kind : KeyKind) (s : State), 64 ≤ s.queue.entries.length →
      ∃ t, t = keyEvent kind s ∧
        t.queue = { s.queue with nextSeq := s.queue.nextSeq + 1, lost := bump s.queue.lost } ∧
        t = { s with queue := t.queue, causes := t.causes, host := t.host }) ∧
    ∀ s : State, ∃ t, t = flush s ∧
      t.queue =
        { entries := []
          nextSeq := s.queue.nextSeq
          lost := 0
          flushed := min (s.queue.flushed + s.queue.entries.length) 65535 } ∧
      holdsCause t.causes .keys = false ∧ holdsCause t.causes .keysHalf = false ∧
      holdsCause t.causes .keysFull = false ∧ t = { s with queue := t.queue, causes := t.causes, host := s.host })

/-- Repeats, stuck keys and chords at a scan completion (R129, R130, R139 to R141, R75, R83, R102). A chord entry matches
when the down, not suppressed positions outside its ignore set are exactly its member set, and it moves by Table 8-4. The
repeat target is the tail of the held list; a new one starts the repeat timer with the repeat delay, an empty list stops it,
and an expiry restarts it with the interval, with a REPEAT when the target is eligible. KEY_REPEAT, KEY_STUCK and CHORD_FIRE
stand for the end of their timer and the completion that follows (log entry 4): REPEAT is stored; the key is suppressed,
with STUCK before any REPEAT; the entry fires, its CHORD event and record first, in the state in which the sequencer
decided, and then the change of state, with the source CHORD and an off interval of 10 s. Two entries that fire do so in
index order. -/
def Obligations.RepeatStuckAndChordEvents : Prop :=
  (∀ (c : ChordSettings) (positions : Vector KeyPosition 48),
      chordMatches c (downSet positions) = true ↔ EntryMatches c positions) ∧
    (∀ (columns : Columns) (s : State), s.keypad.row = some 7 →
      ∃ t, exec (.scanCompletion columns) s = .next t ∧
        (∀ i : ChordIndex, t.chords[i] =
          if EntryMatches s.settings.chords[i] t.keypad.positions then
            match s.chords[i].phase with
            | .idle => ⟨.holding, some ⟨s.settings.chords[i].hold, s.settings.chords[i].hold⟩⟩
            | .holding => if expired s.chords[i].hold then ⟨.fired, none⟩ else s.chords[i]
            | .fired => s.chords[i]
          else
            match s.chords[i].phase with
            | .idle => s.chords[i]
            | .holding => ⟨.idle, none⟩
            | .fired => ⟨.idle, none⟩) ∧
        t.keypad.target = t.keypad.held.getLast? ∧
        (t.keypad.target ≠ s.keypad.target → t.keypad.target = none → t.keypad.repeatTimer = none) ∧
        (t.keypad.target ≠ s.keypad.target → t.keypad.target.isSome = true →
          t.keypad.repeatTimer = some ⟨s.settings.keypad.repeatDelay, s.settings.keypad.repeatDelay⟩) ∧
        (t.keypad.target = s.keypad.target → expired s.keypad.repeatTimer = false ∨ t.keypad.target = none →
          t.keypad.repeatTimer = s.keypad.repeatTimer) ∧
        (t.keypad.target = s.keypad.target → expired s.keypad.repeatTimer = true → t.keypad.target.isSome = true →
          t.keypad.repeatTimer = some ⟨s.settings.keypad.repeatInterval, s.settings.keypad.repeatInterval⟩) ∧
        t = { s with
              keypad := t.keypad, chords := t.chords, queue := t.queue, causes := t.causes, host := t.host, log := t.log,
              seq := t.seq, ladder := t.ladder, thermal := t.thermal } ∧
        (NoChordDue s → t.log = s.log ∧ t.seq = s.seq ∧ t.ladder = s.ladder ∧ t.thermal = s.thermal)) ∧
    (∀ (columns : Columns) (s : State), Quiet columns s → NoChordDue s →
      (∀ q : Position, expired s.keypad.positions[q].hold = false) →
      ∃ t, exec (.scanCompletion columns) s = .next t ∧ t.keypad.held = s.keypad.held ∧
        (s.keypad.held.getLast? ≠ s.keypad.target ∨ expired s.keypad.repeatTimer = false ∨
            (∀ p : Position, s.keypad.target = some p →
              s.settings.keys[p].enabled = false ∨ s.settings.keys[p].repeats = false ∨
                s.keypad.positions[p].suppressed = true) →
          t.queue = s.queue) ∧
        ∀ p : Position, s.keypad.held.getLast? = some p → s.keypad.target = some p →
          expired s.keypad.repeatTimer = true → s.settings.keys[p].enabled = true →
          s.settings.keys[p].repeats = true → s.keypad.positions[p].suppressed = false →
          s.queue.entries.length < 64 →
          t.queue.entries = s.queue.entries ++
            [⟨s.queue.nextSeq, s.timeBase, .repeated p s.settings.keys[p].code,
              if s.queue.lost = 0 then none else some (min s.queue.lost 255)⟩]) ∧
    (∀ (columns : Columns) (p : Position) (s : State), Quiet columns s → s.keypad.target = some p →
      s.keypad.held.getLast? = some p → s.keypad.repeatTimer.isSome = true → s.settings.keys[p].enabled = true →
      s.settings.keys[p].repeats = true → s.keypad.positions[p].suppressed = false →
      (∀ q : Position, expired s.keypad.positions[q].hold = false) → NoChordDue s →
      s.queue.entries.length < 64 →
      ∃ t, exec (.keyRepeat columns) s = .next t ∧
        t.keypad.repeatTimer = some ⟨s.settings.keypad.repeatInterval, s.settings.keypad.repeatInterval⟩ ∧
        t.keypad.target = some p ∧ t.keypad.held = s.keypad.held ∧
        t.queue.entries = s.queue.entries ++
          [⟨s.queue.nextSeq, s.timeBase, .repeated p s.settings.keys[p].code,
            if s.queue.lost = 0 then none else some (min s.queue.lost 255)⟩]) ∧
    (∀ (columns : Columns) (p : Position) (s : State), Quiet columns s → s.keypad.positions[p].debounced = true →
      s.keypad.positions[p].suppressed = false → s.keypad.positions[p].hold.isSome = true →
      (∀ q : Position, q ≠ p → expired s.keypad.positions[q].hold = false) →
      expired s.keypad.repeatTimer = false ∨ s.keypad.target = some p → NoChordDue s →
      s.queue.entries.length < 64 →
      ∃ t, exec (.keyStuck p columns) s = .next t ∧ t.keypad.positions[p].suppressed = true ∧
        t.keypad.positions[p].debounced = true ∧ t.keypad.positions[p].hold = none ∧ t.keypad.held = s.keypad.held ∧
        (s.settings.keys[p].enabled = false → t.queue = s.queue) ∧
        (s.settings.keys[p].enabled = true →
          t.queue.entries = s.queue.entries ++
            [⟨s.queue.nextSeq, s.timeBase, .stuck p s.settings.keys[p].code,
              if s.queue.lost = 0 then none else some (min s.queue.lost 255)⟩])) ∧
    (∀ (columns : Columns) (i : ChordIndex) (applied : Bool) (s : State), Quiet columns s →
      (∀ q : Position, expired s.keypad.positions[q].hold = false) → expired s.keypad.repeatTimer = false →
      s.chords[i].phase = .holding → s.chords[i].hold.isSome = true →
      EntryMatches s.settings.chords[i] s.keypad.positions →
      (∀ j : ChordIndex, j ≠ i → s.chords[j].phase ≠ .holding ∨ expired s.chords[j].hold = false) →
      (applied = true ↔
        match s.settings.chords[i].action with
        | .event => True
        | .start => s.seq.state = .off
        | .warmRestart => s.seq.state = .booting ∨ s.seq.state = .running
        | .coldRestart => s.seq.state = .booting ∨ s.seq.state = .running
        | .release => s.seq.state = .lockedOut) →
      ∃ t, exec (.chordFire i columns) s = .next t ∧ t.chords[i] = ⟨.fired, none⟩ ∧
        (∃ r ∈ t.log.ring, r.seq = s.log.nextSeq ∧ r.kind = .chord ∧ r.state = s.seq.state ∧
          r.detail.toNat = i.val * 256 + applied.toNat) ∧
        (s.queue.entries.length < 64 →
          s.thermal.startPermitted = false ∨ applied = false ∨
            (s.settings.chords[i].action ≠ .start ∧ s.settings.chords[i].action ≠ .release) →
          t.queue.entries = s.queue.entries ++
            [⟨s.queue.nextSeq, s.timeBase, .chord i,
              if s.queue.lost = 0 then none else some (min s.queue.lost 255)⟩]) ∧
        (applied = false ∨ s.settings.chords[i].action = .event →
          t.seq = s.seq ∧ t.ladder = s.ladder ∧ t.thermal = s.thermal ∧
            t.log.nextSeq = followingSeq s.log.nextSeq) ∧
        (s.settings.chords[i].action = .coldRestart → applied = true →
          t.seq.state = .powerDown ∧ t.seq.hpwrEn = false ∧ t.seq.restart = some ⟨.cold, some 10, .chord, false⟩ ∧
            t.seq.timers = { SequencerTimers.stopped with offInterval := some ⟨10000, 10000⟩ } ∧
            t.ladder = s.ladder ∧
            ∃ r, t.log.ring.getLast? = some r ∧ r.seq = followingSeq s.log.nextSeq ∧ r.kind = .restart ∧
              r.detail = 0x0102 ∧ r.state = .powerDown ∧ r.rung = s.ladder.rung ∧ r.failures = s.ladder.failures) ∧
        (s.settings.chords[i].action = .warmRestart → applied = true →
          t.seq.state = .resetPulse ∧ t.seq.hpwrEn = true ∧ t.seq.restart = some ⟨.warm, none, .chord, false⟩ ∧
            t.seq.timers =
              { SequencerTimers.stopped with
                pulse := some ⟨s.settings.timing.warmPulse, s.settings.timing.warmPulse⟩ } ∧
            t.ladder = s.ladder ∧
            ∃ r, t.log.ring.getLast? = some r ∧ r.seq = followingSeq s.log.nextSeq ∧ r.kind = .restart ∧
              r.detail = 0x0002 ∧ r.state = .resetPulse ∧ r.rung = s.ladder.rung ∧ r.failures = s.ladder.failures) ∧
        (s.settings.chords[i].action = .release → applied = true →
          t.ladder = ⟨0, 0⟩ ∧
            (∃ r ∈ t.log.ring, r.seq = followingSeq s.log.nextSeq ∧ r.kind = .lockoutReleased ∧ r.detail = 1 ∧
              r.state = .lockedOut ∧ r.rung = 0 ∧ r.failures = 0) ∧
            t.seq.state =
              if s.thermal.startPermitted then (if s.seq.hpg then .resetHold else .powering) else .warming) ∧
        (s.settings.chords[i].action = .start → applied = true →
          t.ladder = s.ladder ∧
            t.seq.state =
              if s.thermal.startPermitted then (if s.seq.hpg then .resetHold else .powering) else .warming)) ∧
    ∀ (columns : Columns) (i j : ChordIndex) (s : State), Quiet columns s → i < j →
      (∀ q : Position, expired s.keypad.positions[q].hold = false) → expired s.keypad.repeatTimer = false →
      (∀ k : ChordIndex, k = i ∨ k = j →
        s.chords[k].phase = .holding ∧ expired s.chords[k].hold = true ∧ s.settings.chords[k].action = .event ∧
          EntryMatches s.settings.chords[k] s.keypad.positions) →
      (∀ k : ChordIndex, k ≠ i → k ≠ j → s.chords[k].phase ≠ .holding ∨ expired s.chords[k].hold = false) →
      s.queue.entries.length < 63 →
      ∃ t, exec (.scanCompletion columns) s = .next t ∧ t.seq = s.seq ∧
        (∃ r ∈ t.log.ring, r.seq = s.log.nextSeq ∧ r.kind = .chord ∧ r.detail.toNat = i.val * 256 + 1) ∧
        (∃ r, t.log.ring.getLast? = some r ∧ r.seq = followingSeq s.log.nextSeq ∧ r.kind = .chord ∧
          r.detail.toNat = j.val * 256 + 1) ∧
        t.queue.entries = s.queue.entries ++
          [⟨s.queue.nextSeq, s.timeBase, .chord i,
              if s.queue.lost = 0 then none else some (min s.queue.lost 255)⟩,
            ⟨s.queue.nextSeq + 1, s.timeBase, .chord j, none⟩]

/-- Set Keypad, Set Key Entries and Set Chord (R124, R132 to R134, R148, R149, R177): values in range are answered OK and echoed,
and the working copy holds exactly them; any other bytes that pass the structural tests are brought into their ranges field
by field, with the flag bits that mean nothing cleared, the working copy holds the applied fields, and the reply carries
their bytes, CLAMPED when they differ from the bytes received. The debounce count is computed anew, and the chord entry
returns to IDLE. -/
def Obligations.KeySettingsInRangeAreApplied : Prop :=
  ((∀ (l : Link) (tag : Byte) (x : KeypadSettings) (time : Nat) (s : State), Dispatches l s → KeypadInRange x →
      time = (match reading s x.channel with
        | some temperature => curveValue x.curve temperature
        | none => curveLargest x.curve) →
      exec (.setKeypad l tag (keypadPayload x)) s =
        .next (sendFrame l ⟨0x98, tag, 0x00 :: keypadPayload x⟩
          (setReceiver l .hunting
            { s with
              settings := { s.settings with keypad := x }
              keypad :=
                { s.keypad with
                  debounceTime := time
                  debounceCount :=
                    max 2 (min ((time * 1000 + 8 * (x.settle + 20) - 1) / (8 * (x.settle + 20))) 255) } }))) ∧
    (∀ (l : Link) (tag : Byte) (first : Nat) (entries : List KeyEntry) (s : State), Dispatches l s →
      1 ≤ entries.length → first + entries.length ≤ 48 →
      ∃ keys : Vector KeyEntry 48,
        (∀ p : Position, keys[p] =
          if first ≤ p.val ∧ p.val < first + entries.length then
            (entries[p.val - first]?).getD s.settings.keys[p]
          else s.settings.keys[p]) ∧
        exec (.setKeyEntries l tag (keyEntriesPayload first entries)) s =
          .next (sendFrame l ⟨0x99, tag, 0x00 :: keyEntriesPayload first entries⟩
            (setReceiver l .hunting { s with settings := { s.settings with keys := keys } }))) ∧
    ∀ (l : Link) (tag : Byte) (i : ChordIndex) (x : ChordSettings) (s : State), Dispatches l s → ChordInRange x →
      exec (.setChord l tag (chordPayload i x)) s =
        .next (sendFrame l ⟨0x9A, tag, 0x00 :: chordPayload i x⟩
          (setReceiver l .hunting
            { s with
              settings := { s.settings with chords := put s.settings.chords i x }
              chords := put s.chords i ⟨.idle, none⟩ }))) ∧
    (∀ (l : Link) (tag : Byte) (settle delay interval stuck : Half) (c : Channel) (points : List (Half × Half))
      (x : KeypadSettings) (time : Nat) (received applied : List Byte) (s : State), Dispatches l s →
      1 ≤ points.length → points.length ≤ 4 →
      x = ⟨max 20 (min settle.toNat 500), max 100 (min delay.toNat 2000), max 20 (min interval.toNat 1000),
        min stuck.toNat 600, c,
        points.map (fun p => ⟨max (-550) (min p.1.toInt 1250), max 2 (min p.2.toNat 100)⟩)⟩ →
      ascending x.curve = true →
      time = (match reading s c with
        | some temperature => curveValue x.curve temperature
        | none => curveLargest x.curve) →
      received = halfBytes settle ++ halfBytes delay ++ halfBytes interval ++ halfBytes stuck ++
        [oneByte c.val, oneByte points.length] ++ points.flatMap (fun p => halfBytes p.1 ++ halfBytes p.2) →
      applied = twoBytes x.settle ++ twoBytes x.repeatDelay ++ twoBytes x.repeatInterval ++ twoBytes x.stuckTime ++
        [oneByte c.val, oneByte points.length] ++
        x.curve.flatMap (fun p => halfBytes (BitVec.ofInt 16 p.temperature) ++ twoBytes p.value) →
      exec (.setKeypad l tag received) s =
        .next (sendFrame l ⟨0x98, tag, (if applied = received then 0x00 else 0x01) :: applied⟩
          (setReceiver l .hunting
            { s with
              settings := { s.settings with keypad := x }
              keypad :=
                { s.keypad with
                  debounceTime := time
                  debounceCount :=
                    max 2 (min ((time * 1000 + 8 * (x.settle + 20) - 1) / (8 * (x.settle + 20))) 255) } }))) ∧
    (∀ (l : Link) (tag : Byte) (first : Nat) (given : List (Byte × Byte)) (entries : List KeyEntry)
      (received applied : List Byte) (s : State), Dispatches l s → 1 ≤ given.length → first + given.length ≤ 48 →
      entries = given.map (fun g => ⟨g.1, g.2.getLsbD 0, g.2.getLsbD 1⟩) →
      received = [oneByte first, oneByte given.length] ++ given.flatMap (fun g => [g.1, g.2]) →
      applied = [oneByte first, oneByte given.length] ++ given.flatMap (fun g => [g.1, g.2 &&& 3]) →
      ∃ keys : Vector KeyEntry 48,
        (∀ p : Position, keys[p] =
          if first ≤ p.val ∧ p.val < first + entries.length then
            (entries[p.val - first]?).getD s.settings.keys[p]
          else s.settings.keys[p]) ∧
        exec (.setKeyEntries l tag received) s =
          .next (sendFrame l ⟨0x99, tag, (if applied = received then 0x00 else 0x01) :: applied⟩
            (setReceiver l .hunting { s with settings := { s.settings with keys := keys } }))) ∧
    ∀ (l : Link) (tag a5 a4 a3 a2 a1 a0 b5 b4 b3 b2 b1 b0 code : Byte) (i : ChordIndex) (hold : Half)
      (action : ChordAction) (x : ChordSettings) (s : State), Dispatches l s →
      x = ⟨a5 ++ a4 ++ a3 ++ a2 ++ a1 ++ a0, b5 ++ b4 ++ b3 ++ b2 ++ b1 ++ b0, max 100 (min hold.toNat 10000), action⟩ →
      code = (match action with
        | .event => 0
        | .start => 1
        | .warmRestart => 2
        | .coldRestart => 3
        | .release => 4) →
      2 ≤ ((List.range 48).filter fun p => x.members.getLsbD p).length →
      ((List.range 48).filter fun p => x.members.getLsbD p).length ≤ 4 →
      (∀ p : Position, ¬ (x.members.getLsbD p.val = true ∧ x.ignored.getLsbD p.val = true)) →
      exec (.setChord l tag
          ([oneByte i.val, a5, a4, a3, a2, a1, a0, b5, b4, b3, b2, b1, b0] ++ halfBytes hold ++ [code])) s =
        .next (sendFrame l
          ⟨0x9A, tag, (if x.hold = hold.toNat then 0x00 else 0x01) ::
            ([oneByte i.val, a5, a4, a3, a2, a1, a0, b5, b4, b3, b2, b1, b0] ++ twoBytes x.hold ++ [code])⟩
          (setReceiver l .hunting
            { s with
              settings := { s.settings with chords := put s.settings.chords i x }
              chords := put s.chords i ⟨.idle, none⟩ }))

/-- Read Keys (R146, R147): up to ten of the oldest entries, with the entries held, the lost and the flushed count; the host
link removes them with option 0 and both links keep them with option 1; option 0 on the service link is answered WRONG_LINK;
a count of 0 or an option above 1 is answered BAD_VALUE. The three key causes follow the entries left (R145). Each entry has
the ten bytes of Table 10-7. That a max count above 10 is answered CLAMPED also on an empty queue is log entry 36. -/
def Obligations.ReadKeysRemovesOrKeeps : Prop :=
  (∀ (tag count : Byte) (n : Nat) (s : State), Dispatches .host s → 0 < count.toNat →
      n = min (min count.toNat 10) s.queue.entries.length →
      exec (.readKeys .host tag [count, 0]) s =
        .next (sendFrame .host
          ⟨0x84, tag,
            [if 10 < count.toNat then 0x01 else 0x00, oneByte n, oneByte (s.queue.entries.length - n)] ++
              twoBytes s.queue.lost ++ twoBytes s.queue.flushed ++
              (s.queue.entries.take n).flatMap queueEntryBytes⟩
          (followQueue
            (setReceiver .host .hunting
              { s with queue := { s.queue with entries := s.queue.entries.drop n } })))) ∧
    (∀ (l : Link) (tag count : Byte) (n : Nat) (s : State), Dispatches l s → 0 < count.toNat →
      n = min (min count.toNat 10) s.queue.entries.length →
      exec (.readKeys l tag [count, 1]) s =
        .next (sendFrame l
          ⟨0x84, tag,
            [if 10 < count.toNat then 0x01 else 0x00, oneByte n, oneByte s.queue.entries.length] ++
              twoBytes s.queue.lost ++ twoBytes s.queue.flushed ++
              (s.queue.entries.take n).flatMap queueEntryBytes⟩
          (setReceiver l .hunting s))) ∧
    (∀ (tag count : Byte) (s : State), Dispatches .service s → 0 < count.toNat →
      exec (.readKeys .service tag [count, 0]) s =
        .next (sendFrame .service ⟨0x84, tag, [0x15]⟩ (setReceiver .service .hunting s))) ∧
    (∀ (l : Link) (tag count option : Byte) (s : State), Dispatches l s → count.toNat = 0 ∨ 1 < option.toNat →
      exec (.readKeys l tag [count, option]) s =
        .next (sendFrame l ⟨0x84, tag, [0x13]⟩ (setReceiver l .hunting s))) ∧
    (∀ s : State, ∃ t, t = followQueue s ∧ holdsCause t.causes .keys = decide (1 ≤ s.queue.entries.length) ∧
      holdsCause t.causes .keysHalf = decide (32 ≤ s.queue.entries.length) ∧
      holdsCause t.causes .keysFull = decide (64 ≤ s.queue.entries.length) ∧
      (∀ n : Nat, 3 ≤ n → t.causes.getLsbD n = s.causes.getLsbD n) ∧
      t = { s with causes := t.causes, host := t.host }) ∧
    ∀ e : QueueEntry, (queueEntryBytes e).length = 10 ∧
      queueEntryBytes e =
        halfBytes e.seq ++ fourBytes e.time ++
          (match e.kind with
          | .press p code => [1, oneByte p.val, code]
          | .release p code => [2, oneByte p.val, code]
          | .repeated p code => [3, oneByte p.val, code]
          | .stuck p code => [4, oneByte p.val, code]
          | .unstuck p code => [5, oneByte p.val, code]
          | .chord i => [6, oneByte i.val, 0]) ++
          [match e.gap with
            | some g => oneByte g
            | none => 0]

end
end

