-- ==== Sys2Proof/Laws/State.lean ====
section
/-! SUPPORT. One lemma per field of State per update, each true by rfl: no later proof unfolds an update. -/

namespace Sys2Proof.Machine

variable (s : State)

@[simp] theorem State.withPending_pending (x : List Instr) : (s.withPending x).pending = x := rfl
@[simp] theorem State.withPending_resetting (x : List Instr) : (s.withPending x).resetting = s.resetting := rfl
@[simp] theorem State.withPending_resetReply (x : List Instr) : (s.withPending x).resetReply = s.resetReply := rfl
@[simp] theorem State.withPending_lastReset (x : List Instr) : (s.withPending x).lastReset = s.lastReset := rfl
@[simp] theorem State.withPending_timeBase (x : List Instr) : (s.withPending x).timeBase = s.timeBase := rfl
@[simp] theorem State.withPending_log (x : List Instr) : (s.withPending x).log = s.log := rfl
@[simp] theorem State.withPending_causes (x : List Instr) : (s.withPending x).causes = s.causes := rfl
@[simp] theorem State.withPending_host (x : List Instr) : (s.withPending x).host = s.host := rfl
@[simp] theorem State.withPending_service (x : List Instr) : (s.withPending x).service = s.service := rfl
@[simp] theorem State.withPending_meas (x : List Instr) : (s.withPending x).meas = s.meas := rfl
@[simp] theorem State.withPending_zones (x : List Instr) : (s.withPending x).zones = s.zones := rfl
@[simp] theorem State.withPending_thermal (x : List Instr) : (s.withPending x).thermal = s.thermal := rfl
@[simp] theorem State.withPending_seq (x : List Instr) : (s.withPending x).seq = s.seq := rfl
@[simp] theorem State.withPending_ladder (x : List Instr) : (s.withPending x).ladder = s.ladder := rfl
@[simp] theorem State.withPending_keypad (x : List Instr) : (s.withPending x).keypad = s.keypad := rfl
@[simp] theorem State.withPending_chords (x : List Instr) : (s.withPending x).chords = s.chords := rfl
@[simp] theorem State.withPending_queue (x : List Instr) : (s.withPending x).queue = s.queue := rfl
@[simp] theorem State.withPending_settings (x : List Instr) : (s.withPending x).settings = s.settings := rfl
@[simp] theorem State.withPending_store (x : List Instr) : (s.withPending x).store = s.store := rfl
@[simp] theorem State.withPending_freeIndex (x : List Instr) : (s.withPending x).freeIndex = s.freeIndex := rfl

@[simp] theorem State.withResetting_pending (x : Option ResetKind) : (s.withResetting x).pending = s.pending := rfl
@[simp] theorem State.withResetting_resetting (x : Option ResetKind) : (s.withResetting x).resetting = x := rfl
@[simp] theorem State.withResetting_resetReply (x : Option ResetKind) : (s.withResetting x).resetReply = s.resetReply := rfl
@[simp] theorem State.withResetting_lastReset (x : Option ResetKind) : (s.withResetting x).lastReset = s.lastReset := rfl
@[simp] theorem State.withResetting_timeBase (x : Option ResetKind) : (s.withResetting x).timeBase = s.timeBase := rfl
@[simp] theorem State.withResetting_log (x : Option ResetKind) : (s.withResetting x).log = s.log := rfl
@[simp] theorem State.withResetting_causes (x : Option ResetKind) : (s.withResetting x).causes = s.causes := rfl
@[simp] theorem State.withResetting_host (x : Option ResetKind) : (s.withResetting x).host = s.host := rfl
@[simp] theorem State.withResetting_service (x : Option ResetKind) : (s.withResetting x).service = s.service := rfl
@[simp] theorem State.withResetting_meas (x : Option ResetKind) : (s.withResetting x).meas = s.meas := rfl
@[simp] theorem State.withResetting_zones (x : Option ResetKind) : (s.withResetting x).zones = s.zones := rfl
@[simp] theorem State.withResetting_thermal (x : Option ResetKind) : (s.withResetting x).thermal = s.thermal := rfl
@[simp] theorem State.withResetting_seq (x : Option ResetKind) : (s.withResetting x).seq = s.seq := rfl
@[simp] theorem State.withResetting_ladder (x : Option ResetKind) : (s.withResetting x).ladder = s.ladder := rfl
@[simp] theorem State.withResetting_keypad (x : Option ResetKind) : (s.withResetting x).keypad = s.keypad := rfl
@[simp] theorem State.withResetting_chords (x : Option ResetKind) : (s.withResetting x).chords = s.chords := rfl
@[simp] theorem State.withResetting_queue (x : Option ResetKind) : (s.withResetting x).queue = s.queue := rfl
@[simp] theorem State.withResetting_settings (x : Option ResetKind) : (s.withResetting x).settings = s.settings := rfl
@[simp] theorem State.withResetting_store (x : Option ResetKind) : (s.withResetting x).store = s.store := rfl
@[simp] theorem State.withResetting_freeIndex (x : Option ResetKind) : (s.withResetting x).freeIndex = s.freeIndex := rfl

@[simp] theorem State.withResetReply_pending (x : Option Link) : (s.withResetReply x).pending = s.pending := rfl
@[simp] theorem State.withResetReply_resetting (x : Option Link) : (s.withResetReply x).resetting = s.resetting := rfl
@[simp] theorem State.withResetReply_resetReply (x : Option Link) : (s.withResetReply x).resetReply = x := rfl
@[simp] theorem State.withResetReply_lastReset (x : Option Link) : (s.withResetReply x).lastReset = s.lastReset := rfl
@[simp] theorem State.withResetReply_timeBase (x : Option Link) : (s.withResetReply x).timeBase = s.timeBase := rfl
@[simp] theorem State.withResetReply_log (x : Option Link) : (s.withResetReply x).log = s.log := rfl
@[simp] theorem State.withResetReply_causes (x : Option Link) : (s.withResetReply x).causes = s.causes := rfl
@[simp] theorem State.withResetReply_host (x : Option Link) : (s.withResetReply x).host = s.host := rfl
@[simp] theorem State.withResetReply_service (x : Option Link) : (s.withResetReply x).service = s.service := rfl
@[simp] theorem State.withResetReply_meas (x : Option Link) : (s.withResetReply x).meas = s.meas := rfl
@[simp] theorem State.withResetReply_zones (x : Option Link) : (s.withResetReply x).zones = s.zones := rfl
@[simp] theorem State.withResetReply_thermal (x : Option Link) : (s.withResetReply x).thermal = s.thermal := rfl
@[simp] theorem State.withResetReply_seq (x : Option Link) : (s.withResetReply x).seq = s.seq := rfl
@[simp] theorem State.withResetReply_ladder (x : Option Link) : (s.withResetReply x).ladder = s.ladder := rfl
@[simp] theorem State.withResetReply_keypad (x : Option Link) : (s.withResetReply x).keypad = s.keypad := rfl
@[simp] theorem State.withResetReply_chords (x : Option Link) : (s.withResetReply x).chords = s.chords := rfl
@[simp] theorem State.withResetReply_queue (x : Option Link) : (s.withResetReply x).queue = s.queue := rfl
@[simp] theorem State.withResetReply_settings (x : Option Link) : (s.withResetReply x).settings = s.settings := rfl
@[simp] theorem State.withResetReply_store (x : Option Link) : (s.withResetReply x).store = s.store := rfl
@[simp] theorem State.withResetReply_freeIndex (x : Option Link) : (s.withResetReply x).freeIndex = s.freeIndex := rfl

@[simp] theorem State.withLastReset_pending (x : ResetKind) : (s.withLastReset x).pending = s.pending := rfl
@[simp] theorem State.withLastReset_resetting (x : ResetKind) : (s.withLastReset x).resetting = s.resetting := rfl
@[simp] theorem State.withLastReset_resetReply (x : ResetKind) : (s.withLastReset x).resetReply = s.resetReply := rfl
@[simp] theorem State.withLastReset_lastReset (x : ResetKind) : (s.withLastReset x).lastReset = x := rfl
@[simp] theorem State.withLastReset_timeBase (x : ResetKind) : (s.withLastReset x).timeBase = s.timeBase := rfl
@[simp] theorem State.withLastReset_log (x : ResetKind) : (s.withLastReset x).log = s.log := rfl
@[simp] theorem State.withLastReset_causes (x : ResetKind) : (s.withLastReset x).causes = s.causes := rfl
@[simp] theorem State.withLastReset_host (x : ResetKind) : (s.withLastReset x).host = s.host := rfl
@[simp] theorem State.withLastReset_service (x : ResetKind) : (s.withLastReset x).service = s.service := rfl
@[simp] theorem State.withLastReset_meas (x : ResetKind) : (s.withLastReset x).meas = s.meas := rfl
@[simp] theorem State.withLastReset_zones (x : ResetKind) : (s.withLastReset x).zones = s.zones := rfl
@[simp] theorem State.withLastReset_thermal (x : ResetKind) : (s.withLastReset x).thermal = s.thermal := rfl
@[simp] theorem State.withLastReset_seq (x : ResetKind) : (s.withLastReset x).seq = s.seq := rfl
@[simp] theorem State.withLastReset_ladder (x : ResetKind) : (s.withLastReset x).ladder = s.ladder := rfl
@[simp] theorem State.withLastReset_keypad (x : ResetKind) : (s.withLastReset x).keypad = s.keypad := rfl
@[simp] theorem State.withLastReset_chords (x : ResetKind) : (s.withLastReset x).chords = s.chords := rfl
@[simp] theorem State.withLastReset_queue (x : ResetKind) : (s.withLastReset x).queue = s.queue := rfl
@[simp] theorem State.withLastReset_settings (x : ResetKind) : (s.withLastReset x).settings = s.settings := rfl
@[simp] theorem State.withLastReset_store (x : ResetKind) : (s.withLastReset x).store = s.store := rfl
@[simp] theorem State.withLastReset_freeIndex (x : ResetKind) : (s.withLastReset x).freeIndex = s.freeIndex := rfl

@[simp] theorem State.withTimeBase_pending (x : Full) : (s.withTimeBase x).pending = s.pending := rfl
@[simp] theorem State.withTimeBase_resetting (x : Full) : (s.withTimeBase x).resetting = s.resetting := rfl
@[simp] theorem State.withTimeBase_resetReply (x : Full) : (s.withTimeBase x).resetReply = s.resetReply := rfl
@[simp] theorem State.withTimeBase_lastReset (x : Full) : (s.withTimeBase x).lastReset = s.lastReset := rfl
@[simp] theorem State.withTimeBase_timeBase (x : Full) : (s.withTimeBase x).timeBase = x := rfl
@[simp] theorem State.withTimeBase_log (x : Full) : (s.withTimeBase x).log = s.log := rfl
@[simp] theorem State.withTimeBase_causes (x : Full) : (s.withTimeBase x).causes = s.causes := rfl
@[simp] theorem State.withTimeBase_host (x : Full) : (s.withTimeBase x).host = s.host := rfl
@[simp] theorem State.withTimeBase_service (x : Full) : (s.withTimeBase x).service = s.service := rfl
@[simp] theorem State.withTimeBase_meas (x : Full) : (s.withTimeBase x).meas = s.meas := rfl
@[simp] theorem State.withTimeBase_zones (x : Full) : (s.withTimeBase x).zones = s.zones := rfl
@[simp] theorem State.withTimeBase_thermal (x : Full) : (s.withTimeBase x).thermal = s.thermal := rfl
@[simp] theorem State.withTimeBase_seq (x : Full) : (s.withTimeBase x).seq = s.seq := rfl
@[simp] theorem State.withTimeBase_ladder (x : Full) : (s.withTimeBase x).ladder = s.ladder := rfl
@[simp] theorem State.withTimeBase_keypad (x : Full) : (s.withTimeBase x).keypad = s.keypad := rfl
@[simp] theorem State.withTimeBase_chords (x : Full) : (s.withTimeBase x).chords = s.chords := rfl
@[simp] theorem State.withTimeBase_queue (x : Full) : (s.withTimeBase x).queue = s.queue := rfl
@[simp] theorem State.withTimeBase_settings (x : Full) : (s.withTimeBase x).settings = s.settings := rfl
@[simp] theorem State.withTimeBase_store (x : Full) : (s.withTimeBase x).store = s.store := rfl
@[simp] theorem State.withTimeBase_freeIndex (x : Full) : (s.withTimeBase x).freeIndex = s.freeIndex := rfl

@[simp] theorem State.withLog_pending (x : EventLog) : (s.withLog x).pending = s.pending := rfl
@[simp] theorem State.withLog_resetting (x : EventLog) : (s.withLog x).resetting = s.resetting := rfl
@[simp] theorem State.withLog_resetReply (x : EventLog) : (s.withLog x).resetReply = s.resetReply := rfl
@[simp] theorem State.withLog_lastReset (x : EventLog) : (s.withLog x).lastReset = s.lastReset := rfl
@[simp] theorem State.withLog_timeBase (x : EventLog) : (s.withLog x).timeBase = s.timeBase := rfl
@[simp] theorem State.withLog_log (x : EventLog) : (s.withLog x).log = x := rfl
@[simp] theorem State.withLog_causes (x : EventLog) : (s.withLog x).causes = s.causes := rfl
@[simp] theorem State.withLog_host (x : EventLog) : (s.withLog x).host = s.host := rfl
@[simp] theorem State.withLog_service (x : EventLog) : (s.withLog x).service = s.service := rfl
@[simp] theorem State.withLog_meas (x : EventLog) : (s.withLog x).meas = s.meas := rfl
@[simp] theorem State.withLog_zones (x : EventLog) : (s.withLog x).zones = s.zones := rfl
@[simp] theorem State.withLog_thermal (x : EventLog) : (s.withLog x).thermal = s.thermal := rfl
@[simp] theorem State.withLog_seq (x : EventLog) : (s.withLog x).seq = s.seq := rfl
@[simp] theorem State.withLog_ladder (x : EventLog) : (s.withLog x).ladder = s.ladder := rfl
@[simp] theorem State.withLog_keypad (x : EventLog) : (s.withLog x).keypad = s.keypad := rfl
@[simp] theorem State.withLog_chords (x : EventLog) : (s.withLog x).chords = s.chords := rfl
@[simp] theorem State.withLog_queue (x : EventLog) : (s.withLog x).queue = s.queue := rfl
@[simp] theorem State.withLog_settings (x : EventLog) : (s.withLog x).settings = s.settings := rfl
@[simp] theorem State.withLog_store (x : EventLog) : (s.withLog x).store = s.store := rfl
@[simp] theorem State.withLog_freeIndex (x : EventLog) : (s.withLog x).freeIndex = s.freeIndex := rfl

@[simp] theorem State.withCauses_pending (x : Half) : (s.withCauses x).pending = s.pending := rfl
@[simp] theorem State.withCauses_resetting (x : Half) : (s.withCauses x).resetting = s.resetting := rfl
@[simp] theorem State.withCauses_resetReply (x : Half) : (s.withCauses x).resetReply = s.resetReply := rfl
@[simp] theorem State.withCauses_lastReset (x : Half) : (s.withCauses x).lastReset = s.lastReset := rfl
@[simp] theorem State.withCauses_timeBase (x : Half) : (s.withCauses x).timeBase = s.timeBase := rfl
@[simp] theorem State.withCauses_log (x : Half) : (s.withCauses x).log = s.log := rfl
@[simp] theorem State.withCauses_causes (x : Half) : (s.withCauses x).causes = x := rfl
@[simp] theorem State.withCauses_host (x : Half) : (s.withCauses x).host = s.host := rfl
@[simp] theorem State.withCauses_service (x : Half) : (s.withCauses x).service = s.service := rfl
@[simp] theorem State.withCauses_meas (x : Half) : (s.withCauses x).meas = s.meas := rfl
@[simp] theorem State.withCauses_zones (x : Half) : (s.withCauses x).zones = s.zones := rfl
@[simp] theorem State.withCauses_thermal (x : Half) : (s.withCauses x).thermal = s.thermal := rfl
@[simp] theorem State.withCauses_seq (x : Half) : (s.withCauses x).seq = s.seq := rfl
@[simp] theorem State.withCauses_ladder (x : Half) : (s.withCauses x).ladder = s.ladder := rfl
@[simp] theorem State.withCauses_keypad (x : Half) : (s.withCauses x).keypad = s.keypad := rfl
@[simp] theorem State.withCauses_chords (x : Half) : (s.withCauses x).chords = s.chords := rfl
@[simp] theorem State.withCauses_queue (x : Half) : (s.withCauses x).queue = s.queue := rfl
@[simp] theorem State.withCauses_settings (x : Half) : (s.withCauses x).settings = s.settings := rfl
@[simp] theorem State.withCauses_store (x : Half) : (s.withCauses x).store = s.store := rfl
@[simp] theorem State.withCauses_freeIndex (x : Half) : (s.withCauses x).freeIndex = s.freeIndex := rfl

@[simp] theorem State.withHost_pending (x : LinkState) : (s.withHost x).pending = s.pending := rfl
@[simp] theorem State.withHost_resetting (x : LinkState) : (s.withHost x).resetting = s.resetting := rfl
@[simp] theorem State.withHost_resetReply (x : LinkState) : (s.withHost x).resetReply = s.resetReply := rfl
@[simp] theorem State.withHost_lastReset (x : LinkState) : (s.withHost x).lastReset = s.lastReset := rfl
@[simp] theorem State.withHost_timeBase (x : LinkState) : (s.withHost x).timeBase = s.timeBase := rfl
@[simp] theorem State.withHost_log (x : LinkState) : (s.withHost x).log = s.log := rfl
@[simp] theorem State.withHost_causes (x : LinkState) : (s.withHost x).causes = s.causes := rfl
@[simp] theorem State.withHost_host (x : LinkState) : (s.withHost x).host = x := rfl
@[simp] theorem State.withHost_service (x : LinkState) : (s.withHost x).service = s.service := rfl
@[simp] theorem State.withHost_meas (x : LinkState) : (s.withHost x).meas = s.meas := rfl
@[simp] theorem State.withHost_zones (x : LinkState) : (s.withHost x).zones = s.zones := rfl
@[simp] theorem State.withHost_thermal (x : LinkState) : (s.withHost x).thermal = s.thermal := rfl
@[simp] theorem State.withHost_seq (x : LinkState) : (s.withHost x).seq = s.seq := rfl
@[simp] theorem State.withHost_ladder (x : LinkState) : (s.withHost x).ladder = s.ladder := rfl
@[simp] theorem State.withHost_keypad (x : LinkState) : (s.withHost x).keypad = s.keypad := rfl
@[simp] theorem State.withHost_chords (x : LinkState) : (s.withHost x).chords = s.chords := rfl
@[simp] theorem State.withHost_queue (x : LinkState) : (s.withHost x).queue = s.queue := rfl
@[simp] theorem State.withHost_settings (x : LinkState) : (s.withHost x).settings = s.settings := rfl
@[simp] theorem State.withHost_store (x : LinkState) : (s.withHost x).store = s.store := rfl
@[simp] theorem State.withHost_freeIndex (x : LinkState) : (s.withHost x).freeIndex = s.freeIndex := rfl

@[simp] theorem State.withService_pending (x : LinkState) : (s.withService x).pending = s.pending := rfl
@[simp] theorem State.withService_resetting (x : LinkState) : (s.withService x).resetting = s.resetting := rfl
@[simp] theorem State.withService_resetReply (x : LinkState) : (s.withService x).resetReply = s.resetReply := rfl
@[simp] theorem State.withService_lastReset (x : LinkState) : (s.withService x).lastReset = s.lastReset := rfl
@[simp] theorem State.withService_timeBase (x : LinkState) : (s.withService x).timeBase = s.timeBase := rfl
@[simp] theorem State.withService_log (x : LinkState) : (s.withService x).log = s.log := rfl
@[simp] theorem State.withService_causes (x : LinkState) : (s.withService x).causes = s.causes := rfl
@[simp] theorem State.withService_host (x : LinkState) : (s.withService x).host = s.host := rfl
@[simp] theorem State.withService_service (x : LinkState) : (s.withService x).service = x := rfl
@[simp] theorem State.withService_meas (x : LinkState) : (s.withService x).meas = s.meas := rfl
@[simp] theorem State.withService_zones (x : LinkState) : (s.withService x).zones = s.zones := rfl
@[simp] theorem State.withService_thermal (x : LinkState) : (s.withService x).thermal = s.thermal := rfl
@[simp] theorem State.withService_seq (x : LinkState) : (s.withService x).seq = s.seq := rfl
@[simp] theorem State.withService_ladder (x : LinkState) : (s.withService x).ladder = s.ladder := rfl
@[simp] theorem State.withService_keypad (x : LinkState) : (s.withService x).keypad = s.keypad := rfl
@[simp] theorem State.withService_chords (x : LinkState) : (s.withService x).chords = s.chords := rfl
@[simp] theorem State.withService_queue (x : LinkState) : (s.withService x).queue = s.queue := rfl
@[simp] theorem State.withService_settings (x : LinkState) : (s.withService x).settings = s.settings := rfl
@[simp] theorem State.withService_store (x : LinkState) : (s.withService x).store = s.store := rfl
@[simp] theorem State.withService_freeIndex (x : LinkState) : (s.withService x).freeIndex = s.freeIndex := rfl

@[simp] theorem State.withMeas_pending (x : Measurement) : (s.withMeas x).pending = s.pending := rfl
@[simp] theorem State.withMeas_resetting (x : Measurement) : (s.withMeas x).resetting = s.resetting := rfl
@[simp] theorem State.withMeas_resetReply (x : Measurement) : (s.withMeas x).resetReply = s.resetReply := rfl
@[simp] theorem State.withMeas_lastReset (x : Measurement) : (s.withMeas x).lastReset = s.lastReset := rfl
@[simp] theorem State.withMeas_timeBase (x : Measurement) : (s.withMeas x).timeBase = s.timeBase := rfl
@[simp] theorem State.withMeas_log (x : Measurement) : (s.withMeas x).log = s.log := rfl
@[simp] theorem State.withMeas_causes (x : Measurement) : (s.withMeas x).causes = s.causes := rfl
@[simp] theorem State.withMeas_host (x : Measurement) : (s.withMeas x).host = s.host := rfl
@[simp] theorem State.withMeas_service (x : Measurement) : (s.withMeas x).service = s.service := rfl
@[simp] theorem State.withMeas_meas (x : Measurement) : (s.withMeas x).meas = x := rfl
@[simp] theorem State.withMeas_zones (x : Measurement) : (s.withMeas x).zones = s.zones := rfl
@[simp] theorem State.withMeas_thermal (x : Measurement) : (s.withMeas x).thermal = s.thermal := rfl
@[simp] theorem State.withMeas_seq (x : Measurement) : (s.withMeas x).seq = s.seq := rfl
@[simp] theorem State.withMeas_ladder (x : Measurement) : (s.withMeas x).ladder = s.ladder := rfl
@[simp] theorem State.withMeas_keypad (x : Measurement) : (s.withMeas x).keypad = s.keypad := rfl
@[simp] theorem State.withMeas_chords (x : Measurement) : (s.withMeas x).chords = s.chords := rfl
@[simp] theorem State.withMeas_queue (x : Measurement) : (s.withMeas x).queue = s.queue := rfl
@[simp] theorem State.withMeas_settings (x : Measurement) : (s.withMeas x).settings = s.settings := rfl
@[simp] theorem State.withMeas_store (x : Measurement) : (s.withMeas x).store = s.store := rfl
@[simp] theorem State.withMeas_freeIndex (x : Measurement) : (s.withMeas x).freeIndex = s.freeIndex := rfl

@[simp] theorem State.withZones_pending (x : Vector ZoneState 4) : (s.withZones x).pending = s.pending := rfl
@[simp] theorem State.withZones_resetting (x : Vector ZoneState 4) : (s.withZones x).resetting = s.resetting := rfl
@[simp] theorem State.withZones_resetReply (x : Vector ZoneState 4) : (s.withZones x).resetReply = s.resetReply := rfl
@[simp] theorem State.withZones_lastReset (x : Vector ZoneState 4) : (s.withZones x).lastReset = s.lastReset := rfl
@[simp] theorem State.withZones_timeBase (x : Vector ZoneState 4) : (s.withZones x).timeBase = s.timeBase := rfl
@[simp] theorem State.withZones_log (x : Vector ZoneState 4) : (s.withZones x).log = s.log := rfl
@[simp] theorem State.withZones_causes (x : Vector ZoneState 4) : (s.withZones x).causes = s.causes := rfl
@[simp] theorem State.withZones_host (x : Vector ZoneState 4) : (s.withZones x).host = s.host := rfl
@[simp] theorem State.withZones_service (x : Vector ZoneState 4) : (s.withZones x).service = s.service := rfl
@[simp] theorem State.withZones_meas (x : Vector ZoneState 4) : (s.withZones x).meas = s.meas := rfl
@[simp] theorem State.withZones_zones (x : Vector ZoneState 4) : (s.withZones x).zones = x := rfl
@[simp] theorem State.withZones_thermal (x : Vector ZoneState 4) : (s.withZones x).thermal = s.thermal := rfl
@[simp] theorem State.withZones_seq (x : Vector ZoneState 4) : (s.withZones x).seq = s.seq := rfl
@[simp] theorem State.withZones_ladder (x : Vector ZoneState 4) : (s.withZones x).ladder = s.ladder := rfl
@[simp] theorem State.withZones_keypad (x : Vector ZoneState 4) : (s.withZones x).keypad = s.keypad := rfl
@[simp] theorem State.withZones_chords (x : Vector ZoneState 4) : (s.withZones x).chords = s.chords := rfl
@[simp] theorem State.withZones_queue (x : Vector ZoneState 4) : (s.withZones x).queue = s.queue := rfl
@[simp] theorem State.withZones_settings (x : Vector ZoneState 4) : (s.withZones x).settings = s.settings := rfl
@[simp] theorem State.withZones_store (x : Vector ZoneState 4) : (s.withZones x).store = s.store := rfl
@[simp] theorem State.withZones_freeIndex (x : Vector ZoneState 4) : (s.withZones x).freeIndex = s.freeIndex := rfl

@[simp] theorem State.withThermal_pending (x : Thermal) : (s.withThermal x).pending = s.pending := rfl
@[simp] theorem State.withThermal_resetting (x : Thermal) : (s.withThermal x).resetting = s.resetting := rfl
@[simp] theorem State.withThermal_resetReply (x : Thermal) : (s.withThermal x).resetReply = s.resetReply := rfl
@[simp] theorem State.withThermal_lastReset (x : Thermal) : (s.withThermal x).lastReset = s.lastReset := rfl
@[simp] theorem State.withThermal_timeBase (x : Thermal) : (s.withThermal x).timeBase = s.timeBase := rfl
@[simp] theorem State.withThermal_log (x : Thermal) : (s.withThermal x).log = s.log := rfl
@[simp] theorem State.withThermal_causes (x : Thermal) : (s.withThermal x).causes = s.causes := rfl
@[simp] theorem State.withThermal_host (x : Thermal) : (s.withThermal x).host = s.host := rfl
@[simp] theorem State.withThermal_service (x : Thermal) : (s.withThermal x).service = s.service := rfl
@[simp] theorem State.withThermal_meas (x : Thermal) : (s.withThermal x).meas = s.meas := rfl
@[simp] theorem State.withThermal_zones (x : Thermal) : (s.withThermal x).zones = s.zones := rfl
@[simp] theorem State.withThermal_thermal (x : Thermal) : (s.withThermal x).thermal = x := rfl
@[simp] theorem State.withThermal_seq (x : Thermal) : (s.withThermal x).seq = s.seq := rfl
@[simp] theorem State.withThermal_ladder (x : Thermal) : (s.withThermal x).ladder = s.ladder := rfl
@[simp] theorem State.withThermal_keypad (x : Thermal) : (s.withThermal x).keypad = s.keypad := rfl
@[simp] theorem State.withThermal_chords (x : Thermal) : (s.withThermal x).chords = s.chords := rfl
@[simp] theorem State.withThermal_queue (x : Thermal) : (s.withThermal x).queue = s.queue := rfl
@[simp] theorem State.withThermal_settings (x : Thermal) : (s.withThermal x).settings = s.settings := rfl
@[simp] theorem State.withThermal_store (x : Thermal) : (s.withThermal x).store = s.store := rfl
@[simp] theorem State.withThermal_freeIndex (x : Thermal) : (s.withThermal x).freeIndex = s.freeIndex := rfl

@[simp] theorem State.withSeq_pending (x : Sequencer) : (s.withSeq x).pending = s.pending := rfl
@[simp] theorem State.withSeq_resetting (x : Sequencer) : (s.withSeq x).resetting = s.resetting := rfl
@[simp] theorem State.withSeq_resetReply (x : Sequencer) : (s.withSeq x).resetReply = s.resetReply := rfl
@[simp] theorem State.withSeq_lastReset (x : Sequencer) : (s.withSeq x).lastReset = s.lastReset := rfl
@[simp] theorem State.withSeq_timeBase (x : Sequencer) : (s.withSeq x).timeBase = s.timeBase := rfl
@[simp] theorem State.withSeq_log (x : Sequencer) : (s.withSeq x).log = s.log := rfl
@[simp] theorem State.withSeq_causes (x : Sequencer) : (s.withSeq x).causes = s.causes := rfl
@[simp] theorem State.withSeq_host (x : Sequencer) : (s.withSeq x).host = s.host := rfl
@[simp] theorem State.withSeq_service (x : Sequencer) : (s.withSeq x).service = s.service := rfl
@[simp] theorem State.withSeq_meas (x : Sequencer) : (s.withSeq x).meas = s.meas := rfl
@[simp] theorem State.withSeq_zones (x : Sequencer) : (s.withSeq x).zones = s.zones := rfl
@[simp] theorem State.withSeq_thermal (x : Sequencer) : (s.withSeq x).thermal = s.thermal := rfl
@[simp] theorem State.withSeq_seq (x : Sequencer) : (s.withSeq x).seq = x := rfl
@[simp] theorem State.withSeq_ladder (x : Sequencer) : (s.withSeq x).ladder = s.ladder := rfl
@[simp] theorem State.withSeq_keypad (x : Sequencer) : (s.withSeq x).keypad = s.keypad := rfl
@[simp] theorem State.withSeq_chords (x : Sequencer) : (s.withSeq x).chords = s.chords := rfl
@[simp] theorem State.withSeq_queue (x : Sequencer) : (s.withSeq x).queue = s.queue := rfl
@[simp] theorem State.withSeq_settings (x : Sequencer) : (s.withSeq x).settings = s.settings := rfl
@[simp] theorem State.withSeq_store (x : Sequencer) : (s.withSeq x).store = s.store := rfl
@[simp] theorem State.withSeq_freeIndex (x : Sequencer) : (s.withSeq x).freeIndex = s.freeIndex := rfl

@[simp] theorem State.withLadder_pending (x : LadderPosition) : (s.withLadder x).pending = s.pending := rfl
@[simp] theorem State.withLadder_resetting (x : LadderPosition) : (s.withLadder x).resetting = s.resetting := rfl
@[simp] theorem State.withLadder_resetReply (x : LadderPosition) : (s.withLadder x).resetReply = s.resetReply := rfl
@[simp] theorem State.withLadder_lastReset (x : LadderPosition) : (s.withLadder x).lastReset = s.lastReset := rfl
@[simp] theorem State.withLadder_timeBase (x : LadderPosition) : (s.withLadder x).timeBase = s.timeBase := rfl
@[simp] theorem State.withLadder_log (x : LadderPosition) : (s.withLadder x).log = s.log := rfl
@[simp] theorem State.withLadder_causes (x : LadderPosition) : (s.withLadder x).causes = s.causes := rfl
@[simp] theorem State.withLadder_host (x : LadderPosition) : (s.withLadder x).host = s.host := rfl
@[simp] theorem State.withLadder_service (x : LadderPosition) : (s.withLadder x).service = s.service := rfl
@[simp] theorem State.withLadder_meas (x : LadderPosition) : (s.withLadder x).meas = s.meas := rfl
@[simp] theorem State.withLadder_zones (x : LadderPosition) : (s.withLadder x).zones = s.zones := rfl
@[simp] theorem State.withLadder_thermal (x : LadderPosition) : (s.withLadder x).thermal = s.thermal := rfl
@[simp] theorem State.withLadder_seq (x : LadderPosition) : (s.withLadder x).seq = s.seq := rfl
@[simp] theorem State.withLadder_ladder (x : LadderPosition) : (s.withLadder x).ladder = x := rfl
@[simp] theorem State.withLadder_keypad (x : LadderPosition) : (s.withLadder x).keypad = s.keypad := rfl
@[simp] theorem State.withLadder_chords (x : LadderPosition) : (s.withLadder x).chords = s.chords := rfl
@[simp] theorem State.withLadder_queue (x : LadderPosition) : (s.withLadder x).queue = s.queue := rfl
@[simp] theorem State.withLadder_settings (x : LadderPosition) : (s.withLadder x).settings = s.settings := rfl
@[simp] theorem State.withLadder_store (x : LadderPosition) : (s.withLadder x).store = s.store := rfl
@[simp] theorem State.withLadder_freeIndex (x : LadderPosition) : (s.withLadder x).freeIndex = s.freeIndex := rfl

@[simp] theorem State.withKeypad_pending (x : Keypad) : (s.withKeypad x).pending = s.pending := rfl
@[simp] theorem State.withKeypad_resetting (x : Keypad) : (s.withKeypad x).resetting = s.resetting := rfl
@[simp] theorem State.withKeypad_resetReply (x : Keypad) : (s.withKeypad x).resetReply = s.resetReply := rfl
@[simp] theorem State.withKeypad_lastReset (x : Keypad) : (s.withKeypad x).lastReset = s.lastReset := rfl
@[simp] theorem State.withKeypad_timeBase (x : Keypad) : (s.withKeypad x).timeBase = s.timeBase := rfl
@[simp] theorem State.withKeypad_log (x : Keypad) : (s.withKeypad x).log = s.log := rfl
@[simp] theorem State.withKeypad_causes (x : Keypad) : (s.withKeypad x).causes = s.causes := rfl
@[simp] theorem State.withKeypad_host (x : Keypad) : (s.withKeypad x).host = s.host := rfl
@[simp] theorem State.withKeypad_service (x : Keypad) : (s.withKeypad x).service = s.service := rfl
@[simp] theorem State.withKeypad_meas (x : Keypad) : (s.withKeypad x).meas = s.meas := rfl
@[simp] theorem State.withKeypad_zones (x : Keypad) : (s.withKeypad x).zones = s.zones := rfl
@[simp] theorem State.withKeypad_thermal (x : Keypad) : (s.withKeypad x).thermal = s.thermal := rfl
@[simp] theorem State.withKeypad_seq (x : Keypad) : (s.withKeypad x).seq = s.seq := rfl
@[simp] theorem State.withKeypad_ladder (x : Keypad) : (s.withKeypad x).ladder = s.ladder := rfl
@[simp] theorem State.withKeypad_keypad (x : Keypad) : (s.withKeypad x).keypad = x := rfl
@[simp] theorem State.withKeypad_chords (x : Keypad) : (s.withKeypad x).chords = s.chords := rfl
@[simp] theorem State.withKeypad_queue (x : Keypad) : (s.withKeypad x).queue = s.queue := rfl
@[simp] theorem State.withKeypad_settings (x : Keypad) : (s.withKeypad x).settings = s.settings := rfl
@[simp] theorem State.withKeypad_store (x : Keypad) : (s.withKeypad x).store = s.store := rfl
@[simp] theorem State.withKeypad_freeIndex (x : Keypad) : (s.withKeypad x).freeIndex = s.freeIndex := rfl

@[simp] theorem State.withChords_pending (x : Vector ChordState 4) : (s.withChords x).pending = s.pending := rfl
@[simp] theorem State.withChords_resetting (x : Vector ChordState 4) : (s.withChords x).resetting = s.resetting := rfl
@[simp] theorem State.withChords_resetReply (x : Vector ChordState 4) : (s.withChords x).resetReply = s.resetReply := rfl
@[simp] theorem State.withChords_lastReset (x : Vector ChordState 4) : (s.withChords x).lastReset = s.lastReset := rfl
@[simp] theorem State.withChords_timeBase (x : Vector ChordState 4) : (s.withChords x).timeBase = s.timeBase := rfl
@[simp] theorem State.withChords_log (x : Vector ChordState 4) : (s.withChords x).log = s.log := rfl
@[simp] theorem State.withChords_causes (x : Vector ChordState 4) : (s.withChords x).causes = s.causes := rfl
@[simp] theorem State.withChords_host (x : Vector ChordState 4) : (s.withChords x).host = s.host := rfl
@[simp] theorem State.withChords_service (x : Vector ChordState 4) : (s.withChords x).service = s.service := rfl
@[simp] theorem State.withChords_meas (x : Vector ChordState 4) : (s.withChords x).meas = s.meas := rfl
@[simp] theorem State.withChords_zones (x : Vector ChordState 4) : (s.withChords x).zones = s.zones := rfl
@[simp] theorem State.withChords_thermal (x : Vector ChordState 4) : (s.withChords x).thermal = s.thermal := rfl
@[simp] theorem State.withChords_seq (x : Vector ChordState 4) : (s.withChords x).seq = s.seq := rfl
@[simp] theorem State.withChords_ladder (x : Vector ChordState 4) : (s.withChords x).ladder = s.ladder := rfl
@[simp] theorem State.withChords_keypad (x : Vector ChordState 4) : (s.withChords x).keypad = s.keypad := rfl
@[simp] theorem State.withChords_chords (x : Vector ChordState 4) : (s.withChords x).chords = x := rfl
@[simp] theorem State.withChords_queue (x : Vector ChordState 4) : (s.withChords x).queue = s.queue := rfl
@[simp] theorem State.withChords_settings (x : Vector ChordState 4) : (s.withChords x).settings = s.settings := rfl
@[simp] theorem State.withChords_store (x : Vector ChordState 4) : (s.withChords x).store = s.store := rfl
@[simp] theorem State.withChords_freeIndex (x : Vector ChordState 4) : (s.withChords x).freeIndex = s.freeIndex := rfl

@[simp] theorem State.withQueue_pending (x : KeyQueue) : (s.withQueue x).pending = s.pending := rfl
@[simp] theorem State.withQueue_resetting (x : KeyQueue) : (s.withQueue x).resetting = s.resetting := rfl
@[simp] theorem State.withQueue_resetReply (x : KeyQueue) : (s.withQueue x).resetReply = s.resetReply := rfl
@[simp] theorem State.withQueue_lastReset (x : KeyQueue) : (s.withQueue x).lastReset = s.lastReset := rfl
@[simp] theorem State.withQueue_timeBase (x : KeyQueue) : (s.withQueue x).timeBase = s.timeBase := rfl
@[simp] theorem State.withQueue_log (x : KeyQueue) : (s.withQueue x).log = s.log := rfl
@[simp] theorem State.withQueue_causes (x : KeyQueue) : (s.withQueue x).causes = s.causes := rfl
@[simp] theorem State.withQueue_host (x : KeyQueue) : (s.withQueue x).host = s.host := rfl
@[simp] theorem State.withQueue_service (x : KeyQueue) : (s.withQueue x).service = s.service := rfl
@[simp] theorem State.withQueue_meas (x : KeyQueue) : (s.withQueue x).meas = s.meas := rfl
@[simp] theorem State.withQueue_zones (x : KeyQueue) : (s.withQueue x).zones = s.zones := rfl
@[simp] theorem State.withQueue_thermal (x : KeyQueue) : (s.withQueue x).thermal = s.thermal := rfl
@[simp] theorem State.withQueue_seq (x : KeyQueue) : (s.withQueue x).seq = s.seq := rfl
@[simp] theorem State.withQueue_ladder (x : KeyQueue) : (s.withQueue x).ladder = s.ladder := rfl
@[simp] theorem State.withQueue_keypad (x : KeyQueue) : (s.withQueue x).keypad = s.keypad := rfl
@[simp] theorem State.withQueue_chords (x : KeyQueue) : (s.withQueue x).chords = s.chords := rfl
@[simp] theorem State.withQueue_queue (x : KeyQueue) : (s.withQueue x).queue = x := rfl
@[simp] theorem State.withQueue_settings (x : KeyQueue) : (s.withQueue x).settings = s.settings := rfl
@[simp] theorem State.withQueue_store (x : KeyQueue) : (s.withQueue x).store = s.store := rfl
@[simp] theorem State.withQueue_freeIndex (x : KeyQueue) : (s.withQueue x).freeIndex = s.freeIndex := rfl

@[simp] theorem State.withSettings_pending (x : Settings) : (s.withSettings x).pending = s.pending := rfl
@[simp] theorem State.withSettings_resetting (x : Settings) : (s.withSettings x).resetting = s.resetting := rfl
@[simp] theorem State.withSettings_resetReply (x : Settings) : (s.withSettings x).resetReply = s.resetReply := rfl
@[simp] theorem State.withSettings_lastReset (x : Settings) : (s.withSettings x).lastReset = s.lastReset := rfl
@[simp] theorem State.withSettings_timeBase (x : Settings) : (s.withSettings x).timeBase = s.timeBase := rfl
@[simp] theorem State.withSettings_log (x : Settings) : (s.withSettings x).log = s.log := rfl
@[simp] theorem State.withSettings_causes (x : Settings) : (s.withSettings x).causes = s.causes := rfl
@[simp] theorem State.withSettings_host (x : Settings) : (s.withSettings x).host = s.host := rfl
@[simp] theorem State.withSettings_service (x : Settings) : (s.withSettings x).service = s.service := rfl
@[simp] theorem State.withSettings_meas (x : Settings) : (s.withSettings x).meas = s.meas := rfl
@[simp] theorem State.withSettings_zones (x : Settings) : (s.withSettings x).zones = s.zones := rfl
@[simp] theorem State.withSettings_thermal (x : Settings) : (s.withSettings x).thermal = s.thermal := rfl
@[simp] theorem State.withSettings_seq (x : Settings) : (s.withSettings x).seq = s.seq := rfl
@[simp] theorem State.withSettings_ladder (x : Settings) : (s.withSettings x).ladder = s.ladder := rfl
@[simp] theorem State.withSettings_keypad (x : Settings) : (s.withSettings x).keypad = s.keypad := rfl
@[simp] theorem State.withSettings_chords (x : Settings) : (s.withSettings x).chords = s.chords := rfl
@[simp] theorem State.withSettings_queue (x : Settings) : (s.withSettings x).queue = s.queue := rfl
@[simp] theorem State.withSettings_settings (x : Settings) : (s.withSettings x).settings = x := rfl
@[simp] theorem State.withSettings_store (x : Settings) : (s.withSettings x).store = s.store := rfl
@[simp] theorem State.withSettings_freeIndex (x : Settings) : (s.withSettings x).freeIndex = s.freeIndex := rfl

@[simp] theorem State.withStore_pending (x : Store) : (s.withStore x).pending = s.pending := rfl
@[simp] theorem State.withStore_resetting (x : Store) : (s.withStore x).resetting = s.resetting := rfl
@[simp] theorem State.withStore_resetReply (x : Store) : (s.withStore x).resetReply = s.resetReply := rfl
@[simp] theorem State.withStore_lastReset (x : Store) : (s.withStore x).lastReset = s.lastReset := rfl
@[simp] theorem State.withStore_timeBase (x : Store) : (s.withStore x).timeBase = s.timeBase := rfl
@[simp] theorem State.withStore_log (x : Store) : (s.withStore x).log = s.log := rfl
@[simp] theorem State.withStore_causes (x : Store) : (s.withStore x).causes = s.causes := rfl
@[simp] theorem State.withStore_host (x : Store) : (s.withStore x).host = s.host := rfl
@[simp] theorem State.withStore_service (x : Store) : (s.withStore x).service = s.service := rfl
@[simp] theorem State.withStore_meas (x : Store) : (s.withStore x).meas = s.meas := rfl
@[simp] theorem State.withStore_zones (x : Store) : (s.withStore x).zones = s.zones := rfl
@[simp] theorem State.withStore_thermal (x : Store) : (s.withStore x).thermal = s.thermal := rfl
@[simp] theorem State.withStore_seq (x : Store) : (s.withStore x).seq = s.seq := rfl
@[simp] theorem State.withStore_ladder (x : Store) : (s.withStore x).ladder = s.ladder := rfl
@[simp] theorem State.withStore_keypad (x : Store) : (s.withStore x).keypad = s.keypad := rfl
@[simp] theorem State.withStore_chords (x : Store) : (s.withStore x).chords = s.chords := rfl
@[simp] theorem State.withStore_queue (x : Store) : (s.withStore x).queue = s.queue := rfl
@[simp] theorem State.withStore_settings (x : Store) : (s.withStore x).settings = s.settings := rfl
@[simp] theorem State.withStore_store (x : Store) : (s.withStore x).store = x := rfl
@[simp] theorem State.withStore_freeIndex (x : Store) : (s.withStore x).freeIndex = s.freeIndex := rfl

@[simp] theorem State.withFreeIndex_pending (x : Nat) : (s.withFreeIndex x).pending = s.pending := rfl
@[simp] theorem State.withFreeIndex_resetting (x : Nat) : (s.withFreeIndex x).resetting = s.resetting := rfl
@[simp] theorem State.withFreeIndex_resetReply (x : Nat) : (s.withFreeIndex x).resetReply = s.resetReply := rfl
@[simp] theorem State.withFreeIndex_lastReset (x : Nat) : (s.withFreeIndex x).lastReset = s.lastReset := rfl
@[simp] theorem State.withFreeIndex_timeBase (x : Nat) : (s.withFreeIndex x).timeBase = s.timeBase := rfl
@[simp] theorem State.withFreeIndex_log (x : Nat) : (s.withFreeIndex x).log = s.log := rfl
@[simp] theorem State.withFreeIndex_causes (x : Nat) : (s.withFreeIndex x).causes = s.causes := rfl
@[simp] theorem State.withFreeIndex_host (x : Nat) : (s.withFreeIndex x).host = s.host := rfl
@[simp] theorem State.withFreeIndex_service (x : Nat) : (s.withFreeIndex x).service = s.service := rfl
@[simp] theorem State.withFreeIndex_meas (x : Nat) : (s.withFreeIndex x).meas = s.meas := rfl
@[simp] theorem State.withFreeIndex_zones (x : Nat) : (s.withFreeIndex x).zones = s.zones := rfl
@[simp] theorem State.withFreeIndex_thermal (x : Nat) : (s.withFreeIndex x).thermal = s.thermal := rfl
@[simp] theorem State.withFreeIndex_seq (x : Nat) : (s.withFreeIndex x).seq = s.seq := rfl
@[simp] theorem State.withFreeIndex_ladder (x : Nat) : (s.withFreeIndex x).ladder = s.ladder := rfl
@[simp] theorem State.withFreeIndex_keypad (x : Nat) : (s.withFreeIndex x).keypad = s.keypad := rfl
@[simp] theorem State.withFreeIndex_chords (x : Nat) : (s.withFreeIndex x).chords = s.chords := rfl
@[simp] theorem State.withFreeIndex_queue (x : Nat) : (s.withFreeIndex x).queue = s.queue := rfl
@[simp] theorem State.withFreeIndex_settings (x : Nat) : (s.withFreeIndex x).settings = s.settings := rfl
@[simp] theorem State.withFreeIndex_store (x : Nat) : (s.withFreeIndex x).store = s.store := rfl
@[simp] theorem State.withFreeIndex_freeIndex (x : Nat) : (s.withFreeIndex x).freeIndex = x := rfl

end Sys2Proof.Machine
end

