-- ==== Sys2Proof/Laws/Ops.lean ====
section
/-! SUPPORT. What the shared operations leave alone, and what they do, each said once: for an operation op the lemma op_keeps
lists the fields of State that it never changes, and is a simp lemma for each of them. -/

namespace Sys2Proof.Machine

/-! ### Links -/

@[simp] theorem link_host (s : State) : s.link .host = s.host := rfl
@[simp] theorem link_service (s : State) : s.link .service = s.service := rfl

@[simp] theorem withLink_link (l : Link) (x : LinkState) (s : State) : (s.withLink l x).link l = x := by
  cases l <;> rfl

theorem withLink_link_other {l k : Link} (h : k ≠ l) (x : LinkState) (s : State) : (s.withLink l x).link k = s.link k := by
  cases l <;> cases k <;> first | rfl | exact absurd rfl h

@[simp] theorem withLink_withLink (l : Link) (x y : LinkState) (s : State) :
    (s.withLink l x).withLink l y = s.withLink l y := by
  cases l <;> rfl

@[simp] theorem withLink_keeps (l : Link) (x : LinkState) (s : State) :
    (s.withLink l x).pending = s.pending ∧ (s.withLink l x).resetting = s.resetting ∧
      (s.withLink l x).resetReply = s.resetReply ∧ (s.withLink l x).lastReset = s.lastReset ∧
      (s.withLink l x).timeBase = s.timeBase ∧ (s.withLink l x).log = s.log ∧ (s.withLink l x).causes = s.causes ∧
      (s.withLink l x).meas = s.meas ∧ (s.withLink l x).zones = s.zones ∧ (s.withLink l x).thermal = s.thermal ∧
      (s.withLink l x).seq = s.seq ∧ (s.withLink l x).ladder = s.ladder ∧ (s.withLink l x).keypad = s.keypad ∧
      (s.withLink l x).chords = s.chords ∧ (s.withLink l x).queue = s.queue ∧
      (s.withLink l x).settings = s.settings ∧ (s.withLink l x).store = s.store ∧
      (s.withLink l x).freeIndex = s.freeIndex := by
  cases l <;> simp [State.withLink]

@[simp] theorem setReceiver_keeps (l : Link) (r : Receiver) (s : State) :
    (setReceiver l r s).pending = s.pending ∧ (setReceiver l r s).resetting = s.resetting ∧
      (setReceiver l r s).resetReply = s.resetReply ∧ (setReceiver l r s).lastReset = s.lastReset ∧
      (setReceiver l r s).timeBase = s.timeBase ∧ (setReceiver l r s).log = s.log ∧
      (setReceiver l r s).causes = s.causes ∧ (setReceiver l r s).meas = s.meas ∧
      (setReceiver l r s).zones = s.zones ∧ (setReceiver l r s).thermal = s.thermal ∧
      (setReceiver l r s).seq = s.seq ∧ (setReceiver l r s).ladder = s.ladder ∧
      (setReceiver l r s).keypad = s.keypad ∧ (setReceiver l r s).chords = s.chords ∧
      (setReceiver l r s).queue = s.queue ∧ (setReceiver l r s).settings = s.settings ∧
      (setReceiver l r s).store = s.store ∧ (setReceiver l r s).freeIndex = s.freeIndex := by
  simp [setReceiver]

@[simp] theorem setWaiting_keeps (l : Link) (b : Bool) (s : State) :
    (setWaiting l b s).pending = s.pending ∧ (setWaiting l b s).resetting = s.resetting ∧
      (setWaiting l b s).resetReply = s.resetReply ∧ (setWaiting l b s).lastReset = s.lastReset ∧
      (setWaiting l b s).timeBase = s.timeBase ∧ (setWaiting l b s).log = s.log ∧
      (setWaiting l b s).causes = s.causes ∧ (setWaiting l b s).meas = s.meas ∧ (setWaiting l b s).zones = s.zones ∧
      (setWaiting l b s).thermal = s.thermal ∧ (setWaiting l b s).seq = s.seq ∧
      (setWaiting l b s).ladder = s.ladder ∧ (setWaiting l b s).keypad = s.keypad ∧
      (setWaiting l b s).chords = s.chords ∧ (setWaiting l b s).queue = s.queue ∧
      (setWaiting l b s).settings = s.settings ∧ (setWaiting l b s).store = s.store ∧
      (setWaiting l b s).freeIndex = s.freeIndex := by
  simp [setWaiting]

/-- The one state that a frame handed to a link leads to (R168). -/
theorem sendFrame_eq (l : Link) (f : Frame) (s : State) :
    sendFrame l f s =
      s.withLink l
        { s.link l with
          output := if (s.link l).output.length < 4 then (s.link l).output ++ [f] else (s.link l).output
          discarded := if (s.link l).output.length < 4 then (s.link l).discarded else bump (s.link l).discarded } := by
  unfold sendFrame
  by_cases h : (s.link l).output.length < 4 <;> simp [Config.outputFrames, h]

@[simp] theorem sendFrame_keeps (l : Link) (f : Frame) (s : State) :
    (sendFrame l f s).pending = s.pending ∧ (sendFrame l f s).resetting = s.resetting ∧
      (sendFrame l f s).resetReply = s.resetReply ∧ (sendFrame l f s).lastReset = s.lastReset ∧
      (sendFrame l f s).timeBase = s.timeBase ∧ (sendFrame l f s).log = s.log ∧ (sendFrame l f s).causes = s.causes ∧
      (sendFrame l f s).meas = s.meas ∧ (sendFrame l f s).zones = s.zones ∧ (sendFrame l f s).thermal = s.thermal ∧
      (sendFrame l f s).seq = s.seq ∧ (sendFrame l f s).ladder = s.ladder ∧ (sendFrame l f s).keypad = s.keypad ∧
      (sendFrame l f s).chords = s.chords ∧ (sendFrame l f s).queue = s.queue ∧
      (sendFrame l f s).settings = s.settings ∧ (sendFrame l f s).store = s.store ∧
      (sendFrame l f s).freeIndex = s.freeIndex := by
  simp [sendFrame_eq]

/-- A frame handed to a link changes the output queue and the count of discarded frames of that link alone. -/
theorem sendFrame_link (l k : Link) (f : Frame) (s : State) :
    ((sendFrame l f s).link k).receiver = (s.link k).receiver ∧ ((sendFrame l f s).link k).waiting = (s.link k).waiting := by
  cases l <;> cases k <;> simp [sendFrame_eq, State.withLink]

@[simp] theorem sendReply_keeps (l : Link) (kind tag : Byte) (payload : List Byte) (s : State) :
    (sendReply l kind tag payload s).pending = s.pending ∧ (sendReply l kind tag payload s).resetting = s.resetting ∧
      (sendReply l kind tag payload s).resetReply = s.resetReply ∧
      (sendReply l kind tag payload s).lastReset = s.lastReset ∧
      (sendReply l kind tag payload s).timeBase = s.timeBase ∧ (sendReply l kind tag payload s).log = s.log ∧
      (sendReply l kind tag payload s).causes = s.causes ∧ (sendReply l kind tag payload s).meas = s.meas ∧
      (sendReply l kind tag payload s).zones = s.zones ∧ (sendReply l kind tag payload s).thermal = s.thermal ∧
      (sendReply l kind tag payload s).seq = s.seq ∧ (sendReply l kind tag payload s).ladder = s.ladder ∧
      (sendReply l kind tag payload s).keypad = s.keypad ∧ (sendReply l kind tag payload s).chords = s.chords ∧
      (sendReply l kind tag payload s).queue = s.queue ∧ (sendReply l kind tag payload s).settings = s.settings ∧
      (sendReply l kind tag payload s).store = s.store ∧
      (sendReply l kind tag payload s).freeIndex = s.freeIndex := by
  simp [sendReply]

@[simp] theorem sendNotice_keeps (kind : Byte) (payload : List Byte) (s : State) :
    (sendNotice kind payload s).pending = s.pending ∧ (sendNotice kind payload s).resetting = s.resetting ∧
      (sendNotice kind payload s).resetReply = s.resetReply ∧ (sendNotice kind payload s).lastReset = s.lastReset ∧
      (sendNotice kind payload s).timeBase = s.timeBase ∧ (sendNotice kind payload s).log = s.log ∧
      (sendNotice kind payload s).causes = s.causes ∧ (sendNotice kind payload s).service = s.service ∧
      (sendNotice kind payload s).meas = s.meas ∧ (sendNotice kind payload s).zones = s.zones ∧
      (sendNotice kind payload s).thermal = s.thermal ∧ (sendNotice kind payload s).seq = s.seq ∧
      (sendNotice kind payload s).ladder = s.ladder ∧ (sendNotice kind payload s).keypad = s.keypad ∧
      (sendNotice kind payload s).chords = s.chords ∧ (sendNotice kind payload s).queue = s.queue ∧
      (sendNotice kind payload s).settings = s.settings ∧ (sendNotice kind payload s).store = s.store ∧
      (sendNotice kind payload s).freeIndex = s.freeIndex := by
  simp [sendNotice, sendFrame_eq, State.withLink]

@[simp] theorem receiving_setReceiver (l : Link) (r : Receiver) (s : State) :
    receiving (setReceiver l r s) = receiving s := by
  simp [receiving]

@[simp] theorem receiving_sendFrame (l : Link) (f : Frame) (s : State) : receiving (sendFrame l f s) = receiving s := by
  simp [receiving]

/-! ### Answered requests (R166) -/

theorem answer_of_deaf {l : Link} {kind tag : Byte} {body : State → State × Option (List Byte)} {s : State}
    (h : receiving s = false) : answer l kind tag body s = s := by
  simp [answer, h]

theorem answer_of_waiting {l : Link} {kind tag : Byte} {body : State → State × Option (List Byte)} {s : State}
    (h : receiving s = true) (w : (s.link l).waiting = true) :
    answer l kind tag body s = sendReply l kind tag [statusByte .busy] (setReceiver l .hunting s) := by
  simp [answer, h, w]

theorem answer_of_reply {l : Link} {kind tag : Byte} {body : State → State × Option (List Byte)} {s t : State}
    {payload : List Byte} (h : receiving s = true) (w : (s.link l).waiting = false)
    (b : body (setReceiver l .hunting s) = (t, some payload)) :
    answer l kind tag body s = sendReply l kind tag payload t := by
  simp [answer, h, w, b]

theorem answer_of_deferred {l : Link} {kind tag : Byte} {body : State → State × Option (List Byte)} {s t : State}
    (h : receiving s = true) (w : (s.link l).waiting = false) (b : body (setReceiver l .hunting s) = (t, none)) :
    answer l kind tag body s = t := by
  simp [answer, h, w, b]

/-! ### Attention causes -/

@[simp] theorem raise_keeps (c : Cause) (s : State) :
    (raise c s).pending = s.pending ∧ (raise c s).resetting = s.resetting ∧ (raise c s).resetReply = s.resetReply ∧
      (raise c s).lastReset = s.lastReset ∧ (raise c s).timeBase = s.timeBase ∧ (raise c s).log = s.log ∧
      (raise c s).service = s.service ∧ (raise c s).meas = s.meas ∧ (raise c s).zones = s.zones ∧
      (raise c s).thermal = s.thermal ∧ (raise c s).seq = s.seq ∧ (raise c s).ladder = s.ladder ∧
      (raise c s).keypad = s.keypad ∧ (raise c s).chords = s.chords ∧ (raise c s).queue = s.queue ∧
      (raise c s).settings = s.settings ∧ (raise c s).store = s.store ∧ (raise c s).freeIndex = s.freeIndex := by
  unfold raise; split <;> (try split) <;> simp

@[simp] theorem withdrawCause_keeps (c : Cause) (s : State) :
    (withdrawCause c s).pending = s.pending ∧ (withdrawCause c s).resetting = s.resetting ∧
      (withdrawCause c s).resetReply = s.resetReply ∧ (withdrawCause c s).lastReset = s.lastReset ∧
      (withdrawCause c s).timeBase = s.timeBase ∧ (withdrawCause c s).log = s.log ∧
      (withdrawCause c s).host = s.host ∧ (withdrawCause c s).service = s.service ∧
      (withdrawCause c s).meas = s.meas ∧ (withdrawCause c s).zones = s.zones ∧
      (withdrawCause c s).thermal = s.thermal ∧ (withdrawCause c s).seq = s.seq ∧
      (withdrawCause c s).ladder = s.ladder ∧ (withdrawCause c s).keypad = s.keypad ∧
      (withdrawCause c s).chords = s.chords ∧ (withdrawCause c s).queue = s.queue ∧
      (withdrawCause c s).settings = s.settings ∧ (withdrawCause c s).store = s.store ∧
      (withdrawCause c s).freeIndex = s.freeIndex := by
  simp [withdrawCause]

@[simp] theorem followLevel_keeps (c : Cause) (b : Bool) (s : State) :
    (followLevel c b s).pending = s.pending ∧ (followLevel c b s).resetting = s.resetting ∧
      (followLevel c b s).resetReply = s.resetReply ∧ (followLevel c b s).lastReset = s.lastReset ∧
      (followLevel c b s).timeBase = s.timeBase ∧ (followLevel c b s).log = s.log ∧
      (followLevel c b s).service = s.service ∧ (followLevel c b s).meas = s.meas ∧
      (followLevel c b s).zones = s.zones ∧ (followLevel c b s).thermal = s.thermal ∧
      (followLevel c b s).seq = s.seq ∧ (followLevel c b s).ladder = s.ladder ∧
      (followLevel c b s).keypad = s.keypad ∧ (followLevel c b s).chords = s.chords ∧
      (followLevel c b s).queue = s.queue ∧ (followLevel c b s).settings = s.settings ∧
      (followLevel c b s).store = s.store ∧ (followLevel c b s).freeIndex = s.freeIndex := by
  unfold followLevel; split <;> simp

@[simp] theorem followQueue_keeps (s : State) :
    (followQueue s).pending = s.pending ∧ (followQueue s).resetting = s.resetting ∧
      (followQueue s).resetReply = s.resetReply ∧ (followQueue s).lastReset = s.lastReset ∧
      (followQueue s).timeBase = s.timeBase ∧ (followQueue s).log = s.log ∧ (followQueue s).service = s.service ∧
      (followQueue s).meas = s.meas ∧ (followQueue s).zones = s.zones ∧ (followQueue s).thermal = s.thermal ∧
      (followQueue s).seq = s.seq ∧ (followQueue s).ladder = s.ladder ∧ (followQueue s).keypad = s.keypad ∧
      (followQueue s).chords = s.chords ∧ (followQueue s).queue = s.queue ∧ (followQueue s).settings = s.settings ∧
      (followQueue s).store = s.store ∧ (followQueue s).freeIndex = s.freeIndex := by
  simp [followQueue]

/-- The weight of a cause is the one bit at its position. -/
theorem causeWeight_getLsbD (c : Cause) {i : Nat} (h : i < 16) : (causeWeight c).getLsbD i = decide (i = causePosition c) := by
  cases c <;> interval_cases i <;> rfl

theorem or_causeWeight_of_holds {x : Half} {c : Cause} (h : holdsCause x c = true) : x ||| causeWeight c = x := by
  apply BitVec.eq_of_getLsbD_eq
  intro i hi
  rw [BitVec.getLsbD_or, causeWeight_getLsbD c hi]
  by_cases e : i = causePosition c
  · subst e
    simpa [holdsCause] using h
  · simp [e]

/-- A cause that is raised is pending; every other weight stays as it was (R173). -/
theorem raise_causes (c : Cause) (s : State) : (raise c s).causes = s.causes ||| causeWeight c := by
  unfold raise
  split
  · next h => exact (or_causeWeight_of_holds h).symm
  · split <;> simp

@[simp] theorem sendNotice_causes (kind : Byte) (payload : List Byte) (s : State) :
    (sendNotice kind payload s).causes = s.causes := by simp

/-- A level cause follows its condition (R145). -/
theorem followLevel_causes (c : Cause) (b : Bool) (s : State) :
    (followLevel c b s).causes = if b then s.causes ||| causeWeight c else s.causes &&& ~~~causeWeight c := by
  unfold followLevel
  split <;> simp [raise_causes, withdrawCause]

/-- What the weight of one cause does to the presence of another. -/
theorem holdsCause_or (x : Half) (c d : Cause) :
    holdsCause (x ||| causeWeight c) d = (holdsCause x d || decide (c = d)) := by
  cases c <;> cases d <;> simp [holdsCause, causeWeight, causePosition]

theorem holdsCause_and_not (x : Half) (c d : Cause) :
    holdsCause (x &&& ~~~causeWeight c) d = (holdsCause x d && !decide (c = d)) := by
  cases c <;> cases d <;> simp [holdsCause, causeWeight, causePosition]

/-- The causes that a raise and a withdrawal leave pending. -/
theorem holdsCause_raise (c d : Cause) (s : State) :
    holdsCause (raise c s).causes d = (holdsCause s.causes d || decide (c = d)) := by
  rw [raise_causes, holdsCause_or]

theorem holdsCause_followLevel (c d : Cause) (b : Bool) (s : State) :
    holdsCause (followLevel c b s).causes d = if c = d then b else holdsCause s.causes d := by
  rw [followLevel_causes]
  cases b <;> by_cases h : c = d <;> simp [holdsCause_or, holdsCause_and_not, h]

/-- The three key causes after the queue has been followed, the others as before (R145). -/
theorem holdsCause_followQueue (d : Cause) (s : State) :
    holdsCause (followQueue s).causes d =
      match d with
      | .keys => decide (1 ≤ s.queue.entries.length)
      | .keysHalf => decide (32 ≤ s.queue.entries.length)
      | .keysFull => decide (64 ≤ s.queue.entries.length)
      | d => holdsCause s.causes d := by
  cases d <;> simp [followQueue, holdsCause_followLevel]

/-! ### Log, Key Queue -/

@[simp] theorem appendLog_keeps (kind : RecordKind) (detail : Half) (s : State) :
    (appendLog kind detail s).pending = s.pending ∧ (appendLog kind detail s).resetting = s.resetting ∧
      (appendLog kind detail s).resetReply = s.resetReply ∧ (appendLog kind detail s).lastReset = s.lastReset ∧
      (appendLog kind detail s).timeBase = s.timeBase ∧ (appendLog kind detail s).service = s.service ∧
      (appendLog kind detail s).meas = s.meas ∧ (appendLog kind detail s).zones = s.zones ∧
      (appendLog kind detail s).thermal = s.thermal ∧ (appendLog kind detail s).seq = s.seq ∧
      (appendLog kind detail s).ladder = s.ladder ∧ (appendLog kind detail s).keypad = s.keypad ∧
      (appendLog kind detail s).chords = s.chords ∧ (appendLog kind detail s).queue = s.queue ∧
      (appendLog kind detail s).settings = s.settings ∧ (appendLog kind detail s).store = s.store ∧
      (appendLog kind detail s).freeIndex = s.freeIndex := by
  simp [appendLog]

/-- The log after an append (R154, R157). -/
@[simp] theorem appendLog_log (kind : RecordKind) (detail : Half) (s : State) :
    (appendLog kind detail s).log = addRecord (stampRecord kind detail s) s.log := by
  simp [appendLog]

/-- An append sets LOG and no other cause (R158). -/
theorem holdsCause_appendLog (kind : RecordKind) (detail : Half) (d : Cause) (s : State) :
    holdsCause (appendLog kind detail s).causes d = (holdsCause s.causes d || decide (Cause.log = d)) := by
  simp [appendLog, holdsCause_raise]

/-- The newest record after an append is the one appended. -/
@[simp] theorem addRecord_getLast? (r : LogRecord) (log : EventLog) : (addRecord r log).ring.getLast? = some r := by
  unfold addRecord
  split <;> simp

theorem mem_addRecord (r : LogRecord) (log : EventLog) : r ∈ (addRecord r log).ring := by
  unfold addRecord
  split <;> simp

@[simp] theorem keyEvent_keeps (kind : KeyKind) (s : State) :
    (keyEvent kind s).pending = s.pending ∧ (keyEvent kind s).resetting = s.resetting ∧
      (keyEvent kind s).resetReply = s.resetReply ∧ (keyEvent kind s).lastReset = s.lastReset ∧
      (keyEvent kind s).timeBase = s.timeBase ∧ (keyEvent kind s).log = s.log ∧
      (keyEvent kind s).service = s.service ∧ (keyEvent kind s).meas = s.meas ∧ (keyEvent kind s).zones = s.zones ∧
      (keyEvent kind s).thermal = s.thermal ∧ (keyEvent kind s).seq = s.seq ∧ (keyEvent kind s).ladder = s.ladder ∧
      (keyEvent kind s).keypad = s.keypad ∧ (keyEvent kind s).chords = s.chords ∧
      (keyEvent kind s).settings = s.settings ∧ (keyEvent kind s).store = s.store ∧
      (keyEvent kind s).freeIndex = s.freeIndex := by
  simp [keyEvent]

@[simp] theorem keyEvent_queue (kind : KeyKind) (s : State) :
    (keyEvent kind s).queue = storeEvent kind s.timeBase s.queue := by
  simp [keyEvent]

@[simp] theorem flush_keeps (s : State) :
    (flush s).pending = s.pending ∧ (flush s).resetting = s.resetting ∧ (flush s).resetReply = s.resetReply ∧
      (flush s).lastReset = s.lastReset ∧ (flush s).timeBase = s.timeBase ∧ (flush s).log = s.log ∧
      (flush s).service = s.service ∧ (flush s).meas = s.meas ∧ (flush s).zones = s.zones ∧
      (flush s).thermal = s.thermal ∧ (flush s).seq = s.seq ∧ (flush s).ladder = s.ladder ∧
      (flush s).keypad = s.keypad ∧ (flush s).chords = s.chords ∧ (flush s).settings = s.settings ∧
      (flush s).store = s.store ∧ (flush s).freeIndex = s.freeIndex := by
  simp [flush]

@[simp] theorem flush_queue (s : State) : (flush s).queue = flushedQueue s.queue := by
  simp [flush]

/-! ### The Host Power Sequencer -/

@[simp] theorem enterState_keeps (st : SupervisorState) (s : State) :
    (enterState st s).pending = s.pending ∧ (enterState st s).resetting = s.resetting ∧
      (enterState st s).resetReply = s.resetReply ∧ (enterState st s).lastReset = s.lastReset ∧
      (enterState st s).timeBase = s.timeBase ∧ (enterState st s).log = s.log ∧ (enterState st s).causes = s.causes ∧
      (enterState st s).host = s.host ∧ (enterState st s).service = s.service ∧ (enterState st s).meas = s.meas ∧
      (enterState st s).zones = s.zones ∧ (enterState st s).ladder = s.ladder ∧ (enterState st s).keypad = s.keypad ∧
      (enterState st s).chords = s.chords ∧ (enterState st s).queue = s.queue ∧
      (enterState st s).settings = s.settings ∧ (enterState st s).store = s.store ∧
      (enterState st s).freeIndex = s.freeIndex := by
  simp [enterState]

/-- The sequencer after a state is entered (R63, R64, R66, R67, R107). -/
@[simp] theorem enterState_seq (st : SupervisorState) (s : State) :
    (enterState st s).seq =
      { s.seq with
        state := st
        hpwrEn := poweredIn st
        hrst := heldInReset st
        timers := SequencerTimers.stopped
        warning := none
        restart := none } := by
  simp [enterState]

/-- The Thermal Controller after a state is entered (R46, R50). -/
@[simp] theorem enterState_thermal (st : SupervisorState) (s : State) :
    (enterState st s).thermal =
      { s.thermal with
        warmTimer := none
        fanDuty := if poweredIn st && !s.seq.hpwrEn then raisedDuty s else s.thermal.fanDuty } := by
  simp [enterState]

@[simp] theorem mapTimers_keeps (f : SequencerTimers → SequencerTimers) (s : State) :
    (mapTimers f s).pending = s.pending ∧ (mapTimers f s).resetting = s.resetting ∧
      (mapTimers f s).resetReply = s.resetReply ∧ (mapTimers f s).lastReset = s.lastReset ∧
      (mapTimers f s).timeBase = s.timeBase ∧ (mapTimers f s).log = s.log ∧ (mapTimers f s).causes = s.causes ∧
      (mapTimers f s).host = s.host ∧ (mapTimers f s).service = s.service ∧ (mapTimers f s).meas = s.meas ∧
      (mapTimers f s).zones = s.zones ∧ (mapTimers f s).thermal = s.thermal ∧ (mapTimers f s).ladder = s.ladder ∧
      (mapTimers f s).keypad = s.keypad ∧ (mapTimers f s).chords = s.chords ∧ (mapTimers f s).queue = s.queue ∧
      (mapTimers f s).settings = s.settings ∧ (mapTimers f s).store = s.store ∧
      (mapTimers f s).freeIndex = s.freeIndex := by
  simp [mapTimers]

@[simp] theorem mapTimers_seq (f : SequencerTimers → SequencerTimers) (s : State) :
    (mapTimers f s).seq = { s.seq with timers := f s.seq.timers } := rfl

@[simp] theorem setStage_keeps (n : Nat) (s : State) :
    (setStage n s).pending = s.pending ∧ (setStage n s).resetting = s.resetting ∧
      (setStage n s).resetReply = s.resetReply ∧ (setStage n s).lastReset = s.lastReset ∧
      (setStage n s).timeBase = s.timeBase ∧ (setStage n s).log = s.log ∧ (setStage n s).causes = s.causes ∧
      (setStage n s).host = s.host ∧ (setStage n s).service = s.service ∧ (setStage n s).meas = s.meas ∧
      (setStage n s).zones = s.zones ∧ (setStage n s).thermal = s.thermal ∧ (setStage n s).ladder = s.ladder ∧
      (setStage n s).keypad = s.keypad ∧ (setStage n s).chords = s.chords ∧ (setStage n s).queue = s.queue ∧
      (setStage n s).settings = s.settings ∧ (setStage n s).store = s.store ∧
      (setStage n s).freeIndex = s.freeIndex := by
  simp [setStage]

@[simp] theorem setStage_seq (n : Nat) (s : State) : (setStage n s).seq = { s.seq with stage := n } := rfl

@[simp] theorem enterResetHold_keeps (s : State) :
    (enterResetHold s).pending = s.pending ∧ (enterResetHold s).resetting = s.resetting ∧
      (enterResetHold s).resetReply = s.resetReply ∧ (enterResetHold s).lastReset = s.lastReset ∧
      (enterResetHold s).timeBase = s.timeBase ∧ (enterResetHold s).log = s.log ∧
      (enterResetHold s).causes = s.causes ∧ (enterResetHold s).host = s.host ∧
      (enterResetHold s).service = s.service ∧ (enterResetHold s).meas = s.meas ∧
      (enterResetHold s).zones = s.zones ∧ (enterResetHold s).ladder = s.ladder ∧
      (enterResetHold s).keypad = s.keypad ∧ (enterResetHold s).chords = s.chords ∧
      (enterResetHold s).queue = s.queue ∧ (enterResetHold s).settings = s.settings ∧
      (enterResetHold s).store = s.store ∧ (enterResetHold s).freeIndex = s.freeIndex := by
  simp [enterResetHold]

@[simp] theorem startPowering_keeps (s : State) :
    (startPowering s).pending = s.pending ∧ (startPowering s).resetting = s.resetting ∧
      (startPowering s).resetReply = s.resetReply ∧ (startPowering s).lastReset = s.lastReset ∧
      (startPowering s).timeBase = s.timeBase ∧ (startPowering s).service = s.service ∧
      (startPowering s).meas = s.meas ∧ (startPowering s).zones = s.zones ∧ (startPowering s).ladder = s.ladder ∧
      (startPowering s).keypad = s.keypad ∧ (startPowering s).chords = s.chords ∧
      (startPowering s).settings = s.settings ∧ (startPowering s).store = s.store ∧
      (startPowering s).freeIndex = s.freeIndex := by
  unfold startPowering; dsimp only; split <;> simp

@[simp] theorem enterWarming_keeps (s : State) :
    (enterWarming s).pending = s.pending ∧ (enterWarming s).resetting = s.resetting ∧
      (enterWarming s).resetReply = s.resetReply ∧ (enterWarming s).lastReset = s.lastReset ∧
      (enterWarming s).timeBase = s.timeBase ∧ (enterWarming s).service = s.service ∧
      (enterWarming s).meas = s.meas ∧ (enterWarming s).zones = s.zones ∧ (enterWarming s).ladder = s.ladder ∧
      (enterWarming s).keypad = s.keypad ∧ (enterWarming s).chords = s.chords ∧
      (enterWarming s).settings = s.settings ∧ (enterWarming s).store = s.store ∧
      (enterWarming s).freeIndex = s.freeIndex := by
  unfold enterWarming; dsimp only; split <;> split <;> simp

@[simp] theorem enterBooting_keeps (s : State) :
    (enterBooting s).pending = s.pending ∧ (enterBooting s).resetting = s.resetting ∧
      (enterBooting s).resetReply = s.resetReply ∧ (enterBooting s).lastReset = s.lastReset ∧
      (enterBooting s).timeBase = s.timeBase ∧ (enterBooting s).log = s.log ∧ (enterBooting s).causes = s.causes ∧
      (enterBooting s).host = s.host ∧ (enterBooting s).service = s.service ∧ (enterBooting s).meas = s.meas ∧
      (enterBooting s).zones = s.zones ∧ (enterBooting s).ladder = s.ladder ∧ (enterBooting s).keypad = s.keypad ∧
      (enterBooting s).chords = s.chords ∧ (enterBooting s).queue = s.queue ∧
      (enterBooting s).settings = s.settings ∧ (enterBooting s).store = s.store ∧
      (enterBooting s).freeIndex = s.freeIndex := by
  simp [enterBooting]

@[simp] theorem ladderReset_keeps (s : State) :
    (ladderReset s).pending = s.pending ∧ (ladderReset s).resetting = s.resetting ∧
      (ladderReset s).resetReply = s.resetReply ∧ (ladderReset s).lastReset = s.lastReset ∧
      (ladderReset s).timeBase = s.timeBase ∧ (ladderReset s).log = s.log ∧ (ladderReset s).causes = s.causes ∧
      (ladderReset s).host = s.host ∧ (ladderReset s).service = s.service ∧ (ladderReset s).meas = s.meas ∧
      (ladderReset s).zones = s.zones ∧ (ladderReset s).thermal = s.thermal ∧ (ladderReset s).seq = s.seq ∧
      (ladderReset s).keypad = s.keypad ∧ (ladderReset s).chords = s.chords ∧ (ladderReset s).queue = s.queue ∧
      (ladderReset s).settings = s.settings ∧ (ladderReset s).store = s.store ∧
      (ladderReset s).freeIndex = s.freeIndex := by
  simp [ladderReset]

@[simp] theorem ladderReset_ladder (s : State) : (ladderReset s).ladder = ⟨0, 0⟩ := rfl

@[simp] theorem stabilityReached_keeps (s : State) :
    (stabilityReached s).pending = s.pending ∧ (stabilityReached s).resetting = s.resetting ∧
      (stabilityReached s).resetReply = s.resetReply ∧ (stabilityReached s).lastReset = s.lastReset ∧
      (stabilityReached s).timeBase = s.timeBase ∧ (stabilityReached s).service = s.service ∧
      (stabilityReached s).meas = s.meas ∧ (stabilityReached s).zones = s.zones ∧
      (stabilityReached s).thermal = s.thermal ∧ (stabilityReached s).keypad = s.keypad ∧
      (stabilityReached s).chords = s.chords ∧ (stabilityReached s).queue = s.queue ∧
      (stabilityReached s).settings = s.settings ∧ (stabilityReached s).store = s.store ∧
      (stabilityReached s).freeIndex = s.freeIndex := by
  simp [stabilityReached]

@[simp] theorem startRunTimeout_keeps (s : State) :
    (startRunTimeout s).pending = s.pending ∧ (startRunTimeout s).resetting = s.resetting ∧
      (startRunTimeout s).resetReply = s.resetReply ∧ (startRunTimeout s).lastReset = s.lastReset ∧
      (startRunTimeout s).timeBase = s.timeBase ∧ (startRunTimeout s).log = s.log ∧
      (startRunTimeout s).causes = s.causes ∧ (startRunTimeout s).host = s.host ∧
      (startRunTimeout s).service = s.service ∧ (startRunTimeout s).meas = s.meas ∧
      (startRunTimeout s).zones = s.zones ∧ (startRunTimeout s).thermal = s.thermal ∧
      (startRunTimeout s).ladder = s.ladder ∧ (startRunTimeout s).keypad = s.keypad ∧
      (startRunTimeout s).chords = s.chords ∧ (startRunTimeout s).queue = s.queue ∧
      (startRunTimeout s).settings = s.settings ∧ (startRunTimeout s).store = s.store ∧
      (startRunTimeout s).freeIndex = s.freeIndex := by
  simp [startRunTimeout]

@[simp] theorem enterRunning_keeps (kind : RecordKind) (detail : Half) (s : State) :
    (enterRunning kind detail s).pending = s.pending ∧ (enterRunning kind detail s).resetting = s.resetting ∧
      (enterRunning kind detail s).resetReply = s.resetReply ∧ (enterRunning kind detail s).lastReset = s.lastReset ∧
      (enterRunning kind detail s).timeBase = s.timeBase ∧ (enterRunning kind detail s).service = s.service ∧
      (enterRunning kind detail s).meas = s.meas ∧ (enterRunning kind detail s).zones = s.zones ∧
      (enterRunning kind detail s).keypad = s.keypad ∧ (enterRunning kind detail s).chords = s.chords ∧
      (enterRunning kind detail s).queue = s.queue ∧ (enterRunning kind detail s).settings = s.settings ∧
      (enterRunning kind detail s).store = s.store ∧ (enterRunning kind detail s).freeIndex = s.freeIndex := by
  unfold enterRunning; dsimp only; split <;> simp

@[simp] theorem enterRestarting_keeps (action : RestartAction) (off : Nat) (source : RestartSource) (s : State) :
    (enterRestarting action off source s).pending = s.pending ∧
      (enterRestarting action off source s).resetting = s.resetting ∧
      (enterRestarting action off source s).resetReply = s.resetReply ∧
      (enterRestarting action off source s).lastReset = s.lastReset ∧
      (enterRestarting action off source s).timeBase = s.timeBase ∧
      (enterRestarting action off source s).service = s.service ∧
      (enterRestarting action off source s).meas = s.meas ∧ (enterRestarting action off source s).zones = s.zones ∧
      (enterRestarting action off source s).ladder = s.ladder ∧
      (enterRestarting action off source s).keypad = s.keypad ∧
      (enterRestarting action off source s).chords = s.chords ∧
      (enterRestarting action off source s).queue = s.queue ∧
      (enterRestarting action off source s).settings = s.settings ∧
      (enterRestarting action off source s).store = s.store ∧
      (enterRestarting action off source s).freeIndex = s.freeIndex := by
  cases action <;> simp [enterRestarting]

@[simp] theorem enterOff_keeps (detail : Half) (s : State) :
    (enterOff detail s).pending = s.pending ∧ (enterOff detail s).resetting = s.resetting ∧
      (enterOff detail s).resetReply = s.resetReply ∧ (enterOff detail s).lastReset = s.lastReset ∧
      (enterOff detail s).timeBase = s.timeBase ∧ (enterOff detail s).service = s.service ∧
      (enterOff detail s).meas = s.meas ∧ (enterOff detail s).zones = s.zones ∧
      (enterOff detail s).ladder = s.ladder ∧ (enterOff detail s).keypad = s.keypad ∧
      (enterOff detail s).chords = s.chords ∧ (enterOff detail s).queue = s.queue ∧
      (enterOff detail s).settings = s.settings ∧ (enterOff detail s).store = s.store ∧
      (enterOff detail s).freeIndex = s.freeIndex := by
  simp [enterOff]

@[simp] theorem startStopTimer_keeps (ms : Nat) (s : State) :
    (startStopTimer ms s).pending = s.pending ∧ (startStopTimer ms s).resetting = s.resetting ∧
      (startStopTimer ms s).resetReply = s.resetReply ∧ (startStopTimer ms s).lastReset = s.lastReset ∧
      (startStopTimer ms s).timeBase = s.timeBase ∧ (startStopTimer ms s).service = s.service ∧
      (startStopTimer ms s).meas = s.meas ∧ (startStopTimer ms s).zones = s.zones ∧
      (startStopTimer ms s).ladder = s.ladder ∧ (startStopTimer ms s).keypad = s.keypad ∧
      (startStopTimer ms s).chords = s.chords ∧ (startStopTimer ms s).queue = s.queue ∧
      (startStopTimer ms s).settings = s.settings ∧ (startStopTimer ms s).store = s.store ∧
      (startStopTimer ms s).freeIndex = s.freeIndex := by
  unfold startStopTimer; split <;> simp

@[simp] theorem endThermalWarning_keeps (s : State) :
    (endThermalWarning s).pending = s.pending ∧ (endThermalWarning s).resetting = s.resetting ∧
      (endThermalWarning s).resetReply = s.resetReply ∧ (endThermalWarning s).lastReset = s.lastReset ∧
      (endThermalWarning s).timeBase = s.timeBase ∧ (endThermalWarning s).service = s.service ∧
      (endThermalWarning s).meas = s.meas ∧ (endThermalWarning s).zones = s.zones ∧
      (endThermalWarning s).ladder = s.ladder ∧ (endThermalWarning s).keypad = s.keypad ∧
      (endThermalWarning s).chords = s.chords ∧ (endThermalWarning s).settings = s.settings ∧
      (endThermalWarning s).store = s.store ∧ (endThermalWarning s).freeIndex = s.freeIndex := by
  unfold endThermalWarning; split <;> simp

@[simp] theorem sendRestartPending_keeps (w : Warning) (s : State) :
    (sendRestartPending w s).pending = s.pending ∧ (sendRestartPending w s).resetting = s.resetting ∧
      (sendRestartPending w s).resetReply = s.resetReply ∧ (sendRestartPending w s).lastReset = s.lastReset ∧
      (sendRestartPending w s).timeBase = s.timeBase ∧ (sendRestartPending w s).log = s.log ∧
      (sendRestartPending w s).causes = s.causes ∧ (sendRestartPending w s).service = s.service ∧
      (sendRestartPending w s).meas = s.meas ∧ (sendRestartPending w s).zones = s.zones ∧
      (sendRestartPending w s).thermal = s.thermal ∧ (sendRestartPending w s).seq = s.seq ∧
      (sendRestartPending w s).ladder = s.ladder ∧ (sendRestartPending w s).keypad = s.keypad ∧
      (sendRestartPending w s).chords = s.chords ∧ (sendRestartPending w s).queue = s.queue ∧
      (sendRestartPending w s).settings = s.settings ∧ (sendRestartPending w s).store = s.store ∧
      (sendRestartPending w s).freeIndex = s.freeIndex := by
  simp [sendRestartPending]

@[simp] theorem carryOut_keeps (s : State) :
    (carryOut s).pending = s.pending ∧ (carryOut s).resetting = s.resetting ∧
      (carryOut s).resetReply = s.resetReply ∧ (carryOut s).lastReset = s.lastReset ∧
      (carryOut s).timeBase = s.timeBase ∧ (carryOut s).service = s.service ∧ (carryOut s).meas = s.meas ∧
      (carryOut s).zones = s.zones ∧ (carryOut s).ladder = s.ladder ∧ (carryOut s).keypad = s.keypad ∧
      (carryOut s).chords = s.chords ∧ (carryOut s).settings = s.settings ∧ (carryOut s).store = s.store ∧
      (carryOut s).freeIndex = s.freeIndex := by
  unfold carryOut; split
  · simp
  · split <;> simp

@[simp] theorem announceWarning_keeps (w : Warning) (s : State) :
    (announceWarning w s).pending = s.pending ∧ (announceWarning w s).resetting = s.resetting ∧
      (announceWarning w s).resetReply = s.resetReply ∧ (announceWarning w s).lastReset = s.lastReset ∧
      (announceWarning w s).timeBase = s.timeBase ∧ (announceWarning w s).service = s.service ∧
      (announceWarning w s).meas = s.meas ∧ (announceWarning w s).zones = s.zones ∧
      (announceWarning w s).ladder = s.ladder ∧ (announceWarning w s).keypad = s.keypad ∧
      (announceWarning w s).chords = s.chords ∧ (announceWarning w s).settings = s.settings ∧
      (announceWarning w s).store = s.store ∧ (announceWarning w s).freeIndex = s.freeIndex := by
  unfold announceWarning; dsimp only; split <;> simp

@[simp] theorem enterWarned_keeps (w : Warning) (grace : Nat) (s : State) :
    (enterWarned w grace s).pending = s.pending ∧ (enterWarned w grace s).resetting = s.resetting ∧
      (enterWarned w grace s).resetReply = s.resetReply ∧ (enterWarned w grace s).lastReset = s.lastReset ∧
      (enterWarned w grace s).timeBase = s.timeBase ∧ (enterWarned w grace s).service = s.service ∧
      (enterWarned w grace s).meas = s.meas ∧ (enterWarned w grace s).zones = s.zones ∧
      (enterWarned w grace s).ladder = s.ladder ∧ (enterWarned w grace s).keypad = s.keypad ∧
      (enterWarned w grace s).chords = s.chords ∧ (enterWarned w grace s).settings = s.settings ∧
      (enterWarned w grace s).store = s.store ∧ (enterWarned w grace s).freeIndex = s.freeIndex := by
  simp [enterWarned]

@[simp] theorem flipSlot_keeps (s : State) :
    (flipSlot s).pending = s.pending ∧ (flipSlot s).resetting = s.resetting ∧
      (flipSlot s).resetReply = s.resetReply ∧ (flipSlot s).lastReset = s.lastReset ∧
      (flipSlot s).timeBase = s.timeBase ∧ (flipSlot s).service = s.service ∧ (flipSlot s).meas = s.meas ∧
      (flipSlot s).zones = s.zones ∧ (flipSlot s).thermal = s.thermal ∧ (flipSlot s).seq = s.seq ∧
      (flipSlot s).ladder = s.ladder ∧ (flipSlot s).keypad = s.keypad ∧ (flipSlot s).chords = s.chords ∧
      (flipSlot s).queue = s.queue ∧ (flipSlot s).settings = s.settings ∧ (flipSlot s).freeIndex = s.freeIndex := by
  simp [flipSlot]

@[simp] theorem leaveRung_keeps (r : Rung) (s : State) :
    (leaveRung r s).pending = s.pending ∧ (leaveRung r s).resetting = s.resetting ∧
      (leaveRung r s).resetReply = s.resetReply ∧ (leaveRung r s).lastReset = s.lastReset ∧
      (leaveRung r s).timeBase = s.timeBase ∧ (leaveRung r s).service = s.service ∧ (leaveRung r s).meas = s.meas ∧
      (leaveRung r s).zones = s.zones ∧ (leaveRung r s).thermal = s.thermal ∧ (leaveRung r s).seq = s.seq ∧
      (leaveRung r s).ladder = s.ladder ∧ (leaveRung r s).keypad = s.keypad ∧ (leaveRung r s).chords = s.chords ∧
      (leaveRung r s).queue = s.queue ∧ (leaveRung r s).settings = s.settings ∧
      (leaveRung r s).freeIndex = s.freeIndex := by
  unfold leaveRung; split <;> simp

@[simp] theorem ladderFailure_keeps (s : State) :
    ((ladderFailure s).1).pending = s.pending ∧ ((ladderFailure s).1).resetting = s.resetting ∧
      ((ladderFailure s).1).resetReply = s.resetReply ∧ ((ladderFailure s).1).lastReset = s.lastReset ∧
      ((ladderFailure s).1).timeBase = s.timeBase ∧ ((ladderFailure s).1).service = s.service ∧
      ((ladderFailure s).1).meas = s.meas ∧ ((ladderFailure s).1).zones = s.zones ∧
      ((ladderFailure s).1).thermal = s.thermal ∧ ((ladderFailure s).1).seq = s.seq ∧
      ((ladderFailure s).1).keypad = s.keypad ∧ ((ladderFailure s).1).chords = s.chords ∧
      ((ladderFailure s).1).queue = s.queue ∧ ((ladderFailure s).1).settings = s.settings ∧
      ((ladderFailure s).1).freeIndex = s.freeIndex := by
  unfold ladderFailure; split
  · simp
  · split
    · simp
    · split <;> simp

@[simp] theorem actOnAnswer_keeps (taken : SupervisorState) (cause : WarningCause) (a : State × LadderAnswer) :
    (actOnAnswer taken cause a).pending = a.1.pending ∧ (actOnAnswer taken cause a).resetting = a.1.resetting ∧
      (actOnAnswer taken cause a).resetReply = a.1.resetReply ∧
      (actOnAnswer taken cause a).lastReset = a.1.lastReset ∧ (actOnAnswer taken cause a).timeBase = a.1.timeBase ∧
      (actOnAnswer taken cause a).service = a.1.service ∧ (actOnAnswer taken cause a).meas = a.1.meas ∧
      (actOnAnswer taken cause a).zones = a.1.zones ∧ (actOnAnswer taken cause a).ladder = a.1.ladder ∧
      (actOnAnswer taken cause a).keypad = a.1.keypad ∧ (actOnAnswer taken cause a).chords = a.1.chords ∧
      (actOnAnswer taken cause a).settings = a.1.settings ∧ (actOnAnswer taken cause a).store = a.1.store ∧
      (actOnAnswer taken cause a).freeIndex = a.1.freeIndex := by
  unfold actOnAnswer; split
  · simp
  · split <;> simp

@[simp] theorem takeFailure_keeps (kind : RecordKind) (detail : Half) (cause : WarningCause) (s : State) :
    (takeFailure kind detail cause s).pending = s.pending ∧
      (takeFailure kind detail cause s).resetting = s.resetting ∧
      (takeFailure kind detail cause s).resetReply = s.resetReply ∧
      (takeFailure kind detail cause s).lastReset = s.lastReset ∧
      (takeFailure kind detail cause s).timeBase = s.timeBase ∧
      (takeFailure kind detail cause s).service = s.service ∧ (takeFailure kind detail cause s).meas = s.meas ∧
      (takeFailure kind detail cause s).zones = s.zones ∧ (takeFailure kind detail cause s).keypad = s.keypad ∧
      (takeFailure kind detail cause s).chords = s.chords ∧ (takeFailure kind detail cause s).settings = s.settings ∧
      (takeFailure kind detail cause s).freeIndex = s.freeIndex := by
  simp [takeFailure]

@[simp] theorem powerGoodFailure_keeps (s : State) :
    (powerGoodFailure s).pending = s.pending ∧ (powerGoodFailure s).resetting = s.resetting ∧
      (powerGoodFailure s).resetReply = s.resetReply ∧ (powerGoodFailure s).lastReset = s.lastReset ∧
      (powerGoodFailure s).timeBase = s.timeBase ∧ (powerGoodFailure s).service = s.service ∧
      (powerGoodFailure s).meas = s.meas ∧ (powerGoodFailure s).zones = s.zones ∧
      (powerGoodFailure s).keypad = s.keypad ∧ (powerGoodFailure s).chords = s.chords ∧
      (powerGoodFailure s).settings = s.settings ∧ (powerGoodFailure s).freeIndex = s.freeIndex := by
  simp [powerGoodFailure]

@[simp] theorem powerGoodLoss_keeps (s : State) :
    (powerGoodLoss s).pending = s.pending ∧ (powerGoodLoss s).resetting = s.resetting ∧
      (powerGoodLoss s).resetReply = s.resetReply ∧ (powerGoodLoss s).lastReset = s.lastReset ∧
      (powerGoodLoss s).timeBase = s.timeBase ∧ (powerGoodLoss s).service = s.service ∧
      (powerGoodLoss s).meas = s.meas ∧ (powerGoodLoss s).zones = s.zones ∧ (powerGoodLoss s).keypad = s.keypad ∧
      (powerGoodLoss s).chords = s.chords ∧ (powerGoodLoss s).settings = s.settings ∧
      (powerGoodLoss s).freeIndex = s.freeIndex := by
  unfold powerGoodLoss; split <;> simp

@[simp] theorem releaseLockedOut_keeps (detail : Half) (s : State) :
    (releaseLockedOut detail s).pending = s.pending ∧ (releaseLockedOut detail s).resetting = s.resetting ∧
      (releaseLockedOut detail s).resetReply = s.resetReply ∧ (releaseLockedOut detail s).lastReset = s.lastReset ∧
      (releaseLockedOut detail s).timeBase = s.timeBase ∧ (releaseLockedOut detail s).service = s.service ∧
      (releaseLockedOut detail s).meas = s.meas ∧ (releaseLockedOut detail s).zones = s.zones ∧
      (releaseLockedOut detail s).keypad = s.keypad ∧ (releaseLockedOut detail s).chords = s.chords ∧
      (releaseLockedOut detail s).settings = s.settings ∧ (releaseLockedOut detail s).store = s.store ∧
      (releaseLockedOut detail s).freeIndex = s.freeIndex := by
  simp [releaseLockedOut]

@[simp] theorem reportStart_keeps (permitted : Bool) (s : State) :
    (reportStart permitted s).pending = s.pending ∧ (reportStart permitted s).resetting = s.resetting ∧
      (reportStart permitted s).resetReply = s.resetReply ∧ (reportStart permitted s).lastReset = s.lastReset ∧
      (reportStart permitted s).timeBase = s.timeBase ∧ (reportStart permitted s).service = s.service ∧
      (reportStart permitted s).meas = s.meas ∧ (reportStart permitted s).zones = s.zones ∧
      (reportStart permitted s).ladder = s.ladder ∧ (reportStart permitted s).keypad = s.keypad ∧
      (reportStart permitted s).chords = s.chords ∧ (reportStart permitted s).settings = s.settings ∧
      (reportStart permitted s).store = s.store ∧ (reportStart permitted s).freeIndex = s.freeIndex := by
  unfold reportStart; dsimp only; split <;> simp

@[simp] theorem replaceWarning_keeps (s : State) :
    (replaceWarning s).pending = s.pending ∧ (replaceWarning s).resetting = s.resetting ∧
      (replaceWarning s).resetReply = s.resetReply ∧ (replaceWarning s).lastReset = s.lastReset ∧
      (replaceWarning s).timeBase = s.timeBase ∧ (replaceWarning s).service = s.service ∧
      (replaceWarning s).meas = s.meas ∧ (replaceWarning s).zones = s.zones ∧ (replaceWarning s).ladder = s.ladder ∧
      (replaceWarning s).keypad = s.keypad ∧ (replaceWarning s).chords = s.chords ∧
      (replaceWarning s).settings = s.settings ∧ (replaceWarning s).store = s.store ∧
      (replaceWarning s).freeIndex = s.freeIndex := by
  simp [replaceWarning]

@[simp] theorem shutdownDemand_keeps (s : State) :
    (shutdownDemand s).pending = s.pending ∧ (shutdownDemand s).resetting = s.resetting ∧
      (shutdownDemand s).resetReply = s.resetReply ∧ (shutdownDemand s).lastReset = s.lastReset ∧
      (shutdownDemand s).timeBase = s.timeBase ∧ (shutdownDemand s).service = s.service ∧
      (shutdownDemand s).meas = s.meas ∧ (shutdownDemand s).zones = s.zones ∧ (shutdownDemand s).ladder = s.ladder ∧
      (shutdownDemand s).keypad = s.keypad ∧ (shutdownDemand s).chords = s.chords ∧
      (shutdownDemand s).settings = s.settings ∧ (shutdownDemand s).store = s.store ∧
      (shutdownDemand s).freeIndex = s.freeIndex := by
  unfold shutdownDemand; split <;> (try split) <;> simp

@[simp] theorem resumeHost_keeps (s : State) :
    (resumeHost s).pending = s.pending ∧ (resumeHost s).resetting = s.resetting ∧
      (resumeHost s).resetReply = s.resetReply ∧ (resumeHost s).lastReset = s.lastReset ∧
      (resumeHost s).timeBase = s.timeBase ∧ (resumeHost s).service = s.service ∧ (resumeHost s).meas = s.meas ∧
      (resumeHost s).zones = s.zones ∧ (resumeHost s).ladder = s.ladder ∧ (resumeHost s).keypad = s.keypad ∧
      (resumeHost s).chords = s.chords ∧ (resumeHost s).settings = s.settings ∧ (resumeHost s).store = s.store ∧
      (resumeHost s).freeIndex = s.freeIndex := by
  unfold resumeHost; split <;> simp

@[simp] theorem applyChord_keeps (action : ChordAction) (s : State) :
    (applyChord action s).pending = s.pending ∧ (applyChord action s).resetting = s.resetting ∧
      (applyChord action s).resetReply = s.resetReply ∧ (applyChord action s).lastReset = s.lastReset ∧
      (applyChord action s).timeBase = s.timeBase ∧ (applyChord action s).service = s.service ∧
      (applyChord action s).meas = s.meas ∧ (applyChord action s).zones = s.zones ∧
      (applyChord action s).keypad = s.keypad ∧ (applyChord action s).chords = s.chords ∧
      (applyChord action s).settings = s.settings ∧ (applyChord action s).store = s.store ∧
      (applyChord action s).freeIndex = s.freeIndex := by
  cases action <;> simp [applyChord]

/-! ### Vectors and small numbers -/

@[simp] theorem mapEach_getElem {α β : Type} {n : Nat} (f : α → β) (v : Vector α n) (i : Fin n) :
    (mapEach f v)[i] = f v[i] := by
  simp [mapEach]

theorem put_getElem {α : Type} {n : Nat} (v : Vector α n) (i j : Fin n) (x : α) :
    (put v i x)[j] = if i = j then x else v[j] := by
  simp [put, Vector.getElem_set, Fin.ext_iff]

@[simp] theorem put_getElem_self {α : Type} {n : Nat} (v : Vector α n) (i : Fin n) (x : α) : (put v i x)[i] = x := by
  simp [put]

/-- A count holds at 65535. -/
theorem bump_eq (n : Nat) (h : n ≤ 65535) : bump n = min (n + 1) 65535 := by
  unfold bump Config.countLimit
  split <;> omega

/-- A clamped scalar lies in its range, and a scalar in its range is kept. -/
theorem clampNat_range (low high n : Nat) (h : low ≤ high) : low ≤ clampNat low high n ∧ clampNat low high n ≤ high := by
  unfold clampNat
  omega

theorem clampNat_of_mem {low high n : Nat} (h : low ≤ n) (g : n ≤ high) : clampNat low high n = n := by
  unfold clampNat
  omega

theorem clampInt_range (low high t : Int) (h : low ≤ high) : low ≤ clampInt low high t ∧ clampInt low high t ≤ high := by
  unfold clampInt
  omega

theorem clampInt_of_mem {low high t : Int} (h : low ≤ t) (g : t ≤ high) : clampInt low high t = t := by
  unfold clampInt
  omega

/-! ### Timers -/

/-- A timer has run out exactly when it runs with nothing left. -/
theorem expired_iff (t : Option Timer) : expired t = true ↔ ∃ n, t = some ⟨n, 0⟩ := by
  rcases t with _ | ⟨n, _ | m⟩ <;> simp [expired]

@[simp] theorem expired_ranOut (n : Nat) : expired (some ⟨n, 0⟩) = true := by
  simp [expired]

@[simp] theorem tickTimer_some (x : Timer) : tickTimer (some x) = some ⟨x.length, x.left - 1⟩ := by
  simp [tickTimer]

/-! ### The Keypad Scanner's debounce count -/

@[simp] theorem recomputeDebounce_keeps (s : State) :
    (recomputeDebounce s).pending = s.pending ∧ (recomputeDebounce s).resetting = s.resetting ∧
      (recomputeDebounce s).resetReply = s.resetReply ∧ (recomputeDebounce s).lastReset = s.lastReset ∧
      (recomputeDebounce s).timeBase = s.timeBase ∧ (recomputeDebounce s).log = s.log ∧
      (recomputeDebounce s).causes = s.causes ∧ (recomputeDebounce s).host = s.host ∧
      (recomputeDebounce s).service = s.service ∧ (recomputeDebounce s).meas = s.meas ∧
      (recomputeDebounce s).zones = s.zones ∧ (recomputeDebounce s).thermal = s.thermal ∧
      (recomputeDebounce s).seq = s.seq ∧ (recomputeDebounce s).ladder = s.ladder ∧
      (recomputeDebounce s).chords = s.chords ∧ (recomputeDebounce s).queue = s.queue ∧
      (recomputeDebounce s).settings = s.settings ∧ (recomputeDebounce s).store = s.store ∧
      (recomputeDebounce s).freeIndex = s.freeIndex := by
  simp [recomputeDebounce]

/-! ### The start gate -/

@[simp] theorem flaggedZone_of_flagged (z : ZoneState) (h : z.lastFlag = true) : flaggedZone z = z := by
  simp [flaggedZone, h]

@[simp] theorem flaggedZone_of_new (z : ZoneState) (h : z.lastFlag = false) :
    flaggedZone z = { z with lastFlag := true, gate := .blocking, gateTimer := 0 } := by
  simp [flaggedZone, h]

/-- A zone is released at a gate evaluation exactly when it is a gate zone, comes to it not RELEASED, and leaves it RELEASED. -/
theorem gateReleases_iff (s : State) (z : Zone) :
    gateReleases s z = true ↔
      s.settings.zones[z].gateFlag = true ∧ (flaggedZone s.zones[z]).gate ≠ .released ∧
        (gateZone s z).gate = .released := by
  simp [gateReleases, and_assoc]

end Sys2Proof.Machine
end

