-- ==== Sys2Proof/Laws/PerInstr.lean ====
section
/-! SUPPORT. Statements about every command, one lemma per constructor. FrameFits: the frame that a well-formed command is the
taking of has a payload that a frame can carry (Table 10-1). -/

namespace Sys2Proof.Laws

/-- The frame that the command is the taking of, when it is one, carries at most 200 payload bytes. -/
def FrameFits.Statement (i : Instr) : Prop :=
  ∀ (l : Link) (f : Frame), i.wellFormed = true → frameOfCommand i = some (l, f) → f.payload.length ≤ 200

/-- A command of the link protocol whose well-formedness is that its payload fits. -/
theorem FrameFits.of_fits {i : Instr} {link : Link} {frame : Frame} (h : frameOfCommand i = some (link, frame))
    (w : i.wellFormed = true → payloadFits frame.payload = true) : FrameFits.Statement i := by
  intro l f wf e
  rw [h] at e
  obtain ⟨-, rfl⟩ := Prod.mk.inj (Option.some.inj e)
  simpa [payloadFits] using w wf

/-- A command that is no frame's taking. -/
theorem FrameFits.of_none {i : Instr} (h : frameOfCommand i = none) : FrameFits.Statement i := by
  intro l f _ e
  rw [h] at e
  cases e

theorem FrameFits.powerOnReset : FrameFits.Statement .powerOnReset :=
  FrameFits.of_none rfl
theorem FrameFits.pinReset : FrameFits.Statement .pinReset :=
  FrameFits.of_none rfl
theorem FrameFits.linkReset : FrameFits.Statement .linkReset :=
  FrameFits.of_none rfl
theorem FrameFits.resetEnd : FrameFits.Statement .resetEnd :=
  FrameFits.of_none rfl
theorem FrameFits.scanConversionComplete (code : Code) : FrameFits.Statement (.scanConversionComplete code) :=
  FrameFits.of_none rfl
theorem FrameFits.referenceConversionComplete (code : Code) :
    FrameFits.Statement (.referenceConversionComplete code) :=
  FrameFits.of_none rfl
theorem FrameFits.converterFault (code : Code) : FrameFits.Statement (.converterFault code) :=
  FrameFits.of_none rfl
theorem FrameFits.converterOk (code : Code) : FrameFits.Statement (.converterOk code) :=
  FrameFits.of_none rfl
theorem FrameFits.oneShotComplete (code : Code) : FrameFits.Statement (.oneShotComplete code) :=
  FrameFits.of_none rfl
theorem FrameFits.allocationPeriodExpiry : FrameFits.Statement .allocationPeriodExpiry :=
  FrameFits.of_none rfl
theorem FrameFits.gateRelease (zone : Zone) : FrameFits.Statement (.gateRelease zone) :=
  FrameFits.of_none rfl
theorem FrameFits.warmTimeout : FrameFits.Statement .warmTimeout :=
  FrameFits.of_none rfl
theorem FrameFits.fanPeriodExpiry : FrameFits.Statement .fanPeriodExpiry :=
  FrameFits.of_none rfl
theorem FrameFits.tachPulse : FrameFits.Statement .tachPulse :=
  FrameFits.of_none rfl
theorem FrameFits.fanFault : FrameFits.Statement .fanFault :=
  FrameFits.of_none rfl
theorem FrameFits.fanOk : FrameFits.Statement .fanOk :=
  FrameFits.of_none rfl
theorem FrameFits.minuteExpiry : FrameFits.Statement .minuteExpiry :=
  FrameFits.of_none rfl
theorem FrameFits.filterService : FrameFits.Statement .filterService :=
  FrameFits.of_none rfl
theorem FrameFits.overheatCheck : FrameFits.Statement .overheatCheck :=
  FrameFits.of_none rfl
theorem FrameFits.thermalTrip : FrameFits.Statement .thermalTrip :=
  FrameFits.of_none rfl
theorem FrameFits.thermalResume : FrameFits.Statement .thermalResume :=
  FrameFits.of_none rfl
theorem FrameFits.hpgRise : FrameFits.Statement .hpgRise :=
  FrameFits.of_none rfl
theorem FrameFits.hpgFall : FrameFits.Statement .hpgFall :=
  FrameFits.of_none rfl
theorem FrameFits.hpgTimeout : FrameFits.Statement .hpgTimeout :=
  FrameFits.of_none rfl
theorem FrameFits.resetHoldExpiry : FrameFits.Statement .resetHoldExpiry :=
  FrameFits.of_none rfl
theorem FrameFits.bootWindowExpiry : FrameFits.Statement .bootWindowExpiry :=
  FrameFits.of_none rfl
theorem FrameFits.runTimeoutExpiry : FrameFits.Statement .runTimeoutExpiry :=
  FrameFits.of_none rfl
theorem FrameFits.stabilityExpiry : FrameFits.Statement .stabilityExpiry :=
  FrameFits.of_none rfl
theorem FrameFits.graceExpiry : FrameFits.Statement .graceExpiry :=
  FrameFits.of_none rfl
theorem FrameFits.pulseTimerExpiry : FrameFits.Statement .pulseTimerExpiry :=
  FrameFits.of_none rfl
theorem FrameFits.offIntervalExpiry : FrameFits.Statement .offIntervalExpiry :=
  FrameFits.of_none rfl
theorem FrameFits.powerOffTimerExpiry : FrameFits.Statement .powerOffTimerExpiry :=
  FrameFits.of_none rfl
theorem FrameFits.scanCompletion (columns : Columns) : FrameFits.Statement (.scanCompletion columns) :=
  FrameFits.of_none rfl
theorem FrameFits.pressAccepted (position : Position) (columns : Columns) :
    FrameFits.Statement (.pressAccepted position columns) :=
  FrameFits.of_none rfl
theorem FrameFits.releaseAccepted (position : Position) (columns : Columns) :
    FrameFits.Statement (.releaseAccepted position columns) :=
  FrameFits.of_none rfl
theorem FrameFits.keyRepeat (columns : Columns) : FrameFits.Statement (.keyRepeat columns) :=
  FrameFits.of_none rfl
theorem FrameFits.keyStuck (position : Position) (columns : Columns) :
    FrameFits.Statement (.keyStuck position columns) :=
  FrameFits.of_none rfl
theorem FrameFits.chordFire (chord : ChordIndex) (columns : Columns) :
    FrameFits.Statement (.chordFire chord columns) :=
  FrameFits.of_none rfl
theorem FrameFits.cellWriteComplete : FrameFits.Statement .cellWriteComplete :=
  FrameFits.of_none rfl
theorem FrameFits.saveComplete (agrees : Bool) : FrameFits.Statement (.saveComplete agrees) :=
  FrameFits.of_none rfl
theorem FrameFits.factoryWriteComplete (readback : Half) : FrameFits.Statement (.factoryWriteComplete readback) :=
  FrameFits.of_none rfl
theorem FrameFits.interByteTimeout (link : Link) (bytes : List Byte) :
    FrameFits.Statement (.interByteTimeout link bytes) :=
  FrameFits.of_none rfl
theorem FrameFits.lengthError (link : Link) (length : Byte) : FrameFits.Statement (.lengthError link length) :=
  FrameFits.of_none rfl
theorem FrameFits.crcError (link : Link) (body : List Byte) (check : Half) :
    FrameFits.Statement (.crcError link body check) :=
  FrameFits.of_none rfl
theorem FrameFits.nonRequestFrame (link : Link) (kind tag : Byte) (payload : List Byte) :
    FrameFits.Statement (.nonRequestFrame link kind tag payload) :=
  FrameFits.of_fits rfl fun w => by
    simp only [Instr.wellFormed, Bool.and_eq_true] at w
    exact w.2
theorem FrameFits.unknownRequest (link : Link) (kind tag : Byte) (payload : List Byte) :
    FrameFits.Statement (.unknownRequest link kind tag payload) :=
  FrameFits.of_fits rfl fun w => by
    simp only [Instr.wellFormed, Bool.and_eq_true] at w
    exact w.2
theorem FrameFits.frameSent (link : Link) : FrameFits.Statement (.frameSent link) :=
  FrameFits.of_none rfl
theorem FrameFits.identify (link : Link) (tag : Byte) (payload : List Byte) :
    FrameFits.Statement (.identify link tag payload) :=
  FrameFits.of_fits rfl fun w => w
theorem FrameFits.getStatus (link : Link) (tag : Byte) (payload : List Byte) :
    FrameFits.Statement (.getStatus link tag payload) :=
  FrameFits.of_fits rfl fun w => w
theorem FrameFits.checkIn (link : Link) (tag : Byte) (payload : List Byte) :
    FrameFits.Statement (.checkIn link tag payload) :=
  FrameFits.of_fits rfl fun w => w
theorem FrameFits.readKeys (link : Link) (tag : Byte) (payload : List Byte) :
    FrameFits.Statement (.readKeys link tag payload) :=
  FrameFits.of_fits rfl fun w => w
theorem FrameFits.readLog (link : Link) (tag : Byte) (payload : List Byte) :
    FrameFits.Statement (.readLog link tag payload) :=
  FrameFits.of_fits rfl fun w => w
theorem FrameFits.getAttention (link : Link) (tag : Byte) (payload : List Byte) :
    FrameFits.Statement (.getAttention link tag payload) :=
  FrameFits.of_fits rfl fun w => w
theorem FrameFits.clearAttention (link : Link) (tag : Byte) (payload : List Byte) :
    FrameFits.Statement (.clearAttention link tag payload) :=
  FrameFits.of_fits rfl fun w => w
theorem FrameFits.setAttentionMask (link : Link) (tag : Byte) (payload : List Byte) :
    FrameFits.Statement (.setAttentionMask link tag payload) :=
  FrameFits.of_fits rfl fun w => w
theorem FrameFits.startHost (link : Link) (tag : Byte) (payload : List Byte) :
    FrameFits.Statement (.startHost link tag payload) :=
  FrameFits.of_fits rfl fun w => w
theorem FrameFits.powerOff (link : Link) (tag : Byte) (payload : List Byte) :
    FrameFits.Statement (.powerOff link tag payload) :=
  FrameFits.of_fits rfl fun w => w
theorem FrameFits.restart (link : Link) (tag : Byte) (payload : List Byte) :
    FrameFits.Statement (.restart link tag payload) :=
  FrameFits.of_fits rfl fun w => w
theorem FrameFits.ready (link : Link) (tag : Byte) (payload : List Byte) :
    FrameFits.Statement (.ready link tag payload) :=
  FrameFits.of_fits rfl fun w => w
theorem FrameFits.defer (link : Link) (tag : Byte) (payload : List Byte) :
    FrameFits.Statement (.defer link tag payload) :=
  FrameFits.of_fits rfl fun w => w
theorem FrameFits.releaseLockout (link : Link) (tag : Byte) (payload : List Byte) :
    FrameFits.Statement (.releaseLockout link tag payload) :=
  FrameFits.of_fits rfl fun w => w
theorem FrameFits.setTime (link : Link) (tag : Byte) (payload : List Byte) :
    FrameFits.Statement (.setTime link tag payload) :=
  FrameFits.of_fits rfl fun w => w
theorem FrameFits.readSensors (link : Link) (tag : Byte) (payload : List Byte) :
    FrameFits.Statement (.readSensors link tag payload) :=
  FrameFits.of_fits rfl fun w => w
theorem FrameFits.sampleChannel (link : Link) (tag : Byte) (payload : List Byte) :
    FrameFits.Statement (.sampleChannel link tag payload) :=
  FrameFits.of_fits rfl fun w => w
theorem FrameFits.setZone (link : Link) (tag : Byte) (payload : List Byte) :
    FrameFits.Statement (.setZone link tag payload) :=
  FrameFits.of_fits rfl fun w => w
theorem FrameFits.setHeaterCurve (link : Link) (tag : Byte) (payload : List Byte) :
    FrameFits.Statement (.setHeaterCurve link tag payload) :=
  FrameFits.of_fits rfl fun w => w
theorem FrameFits.setBudget (link : Link) (tag : Byte) (payload : List Byte) :
    FrameFits.Statement (.setBudget link tag payload) :=
  FrameFits.of_fits rfl fun w => w
theorem FrameFits.setFan (link : Link) (tag : Byte) (payload : List Byte) :
    FrameFits.Statement (.setFan link tag payload) :=
  FrameFits.of_fits rfl fun w => w
theorem FrameFits.setThermalLimits (link : Link) (tag : Byte) (payload : List Byte) :
    FrameFits.Statement (.setThermalLimits link tag payload) :=
  FrameFits.of_fits rfl fun w => w
theorem FrameFits.clearFilterService (link : Link) (tag : Byte) (payload : List Byte) :
    FrameFits.Statement (.clearFilterService link tag payload) :=
  FrameFits.of_fits rfl fun w => w
theorem FrameFits.setKeypad (link : Link) (tag : Byte) (payload : List Byte) :
    FrameFits.Statement (.setKeypad link tag payload) :=
  FrameFits.of_fits rfl fun w => w
theorem FrameFits.setKeyEntries (link : Link) (tag : Byte) (payload : List Byte) :
    FrameFits.Statement (.setKeyEntries link tag payload) :=
  FrameFits.of_fits rfl fun w => w
theorem FrameFits.setChord (link : Link) (tag : Byte) (payload : List Byte) :
    FrameFits.Statement (.setChord link tag payload) :=
  FrameFits.of_fits rfl fun w => w
theorem FrameFits.setLadder (link : Link) (tag : Byte) (payload : List Byte) :
    FrameFits.Statement (.setLadder link tag payload) :=
  FrameFits.of_fits rfl fun w => w
theorem FrameFits.setTiming (link : Link) (tag : Byte) (payload : List Byte) :
    FrameFits.Statement (.setTiming link tag payload) :=
  FrameFits.of_fits rfl fun w => w
theorem FrameFits.readSettings (link : Link) (tag : Byte) (payload : List Byte) :
    FrameFits.Statement (.readSettings link tag payload) :=
  FrameFits.of_fits rfl fun w => w
theorem FrameFits.saveSettings (link : Link) (tag : Byte) (payload : List Byte) :
    FrameFits.Statement (.saveSettings link tag payload) :=
  FrameFits.of_fits rfl fun w => w
theorem FrameFits.readFactoryWord (link : Link) (tag : Byte) (payload : List Byte) :
    FrameFits.Statement (.readFactoryWord link tag payload) :=
  FrameFits.of_fits rfl fun w => w
theorem FrameFits.programFactoryWord (link : Link) (tag : Byte) (payload : List Byte) :
    FrameFits.Statement (.programFactoryWord link tag payload) :=
  FrameFits.of_fits rfl fun w => w
theorem FrameFits.getLinkCounters (link : Link) (tag : Byte) (payload : List Byte) :
    FrameFits.Statement (.getLinkCounters link tag payload) :=
  FrameFits.of_fits rfl fun w => w
theorem FrameFits.resetSupervisor (link : Link) (tag : Byte) (payload : List Byte) :
    FrameFits.Statement (.resetSupervisor link tag payload) :=
  FrameFits.of_fits rfl fun w => w
theorem FrameFits.timeBaseTick : FrameFits.Statement .timeBaseTick :=
  FrameFits.of_none rfl
theorem FrameFits.rowDwellEnd (columns : Columns) : FrameFits.Statement (.rowDwellEnd columns) :=
  FrameFits.of_none rfl
theorem FrameFits.driveFrameStart (zone : Zone) : FrameFits.Statement (.driveFrameStart zone) :=
  FrameFits.of_none rfl
theorem FrameFits.driveOnTimeEnd (zone : Zone) : FrameFits.Statement (.driveOnTimeEnd zone) :=
  FrameFits.of_none rfl

end Sys2Proof.Laws
end

