-- ==== Sys2Proof/Laws/Receive.lean ====
section
/-! SUPPORT. The receivers (R164): an operation X that never touches the host link's receiver says so in X_listens; a frame
taken leaves its receiver hunting; and the examinations allowed to bytes that arrive are enough, so that bytes which arrive
in two parts have the effect of all of them together. -/

namespace Sys2Proof.Machine

/-! ### Operations that leave the host link's receiver alone -/

@[simp] theorem sendFrame_listens (l : Link) (f : Frame) (s : State) :
    (sendFrame l f s).host.receiver = s.host.receiver := (sendFrame_link l .host f s).1

@[simp] theorem sendNotice_listens (kind : Byte) (payload : List Byte) (s : State) :
    (sendNotice kind payload s).host.receiver = s.host.receiver := by simp [sendNotice]

@[simp] theorem sendReply_listens (l : Link) (kind tag : Byte) (payload : List Byte) (s : State) :
    (sendReply l kind tag payload s).host.receiver = s.host.receiver := by simp [sendReply]

@[simp] theorem raise_listens (c : Cause) (s : State) : (raise c s).host.receiver = s.host.receiver := by
  unfold raise; split <;> (try split) <;> simp

@[simp] theorem followLevel_listens (c : Cause) (b : Bool) (s : State) :
    (followLevel c b s).host.receiver = s.host.receiver := by
  unfold followLevel; split <;> simp

@[simp] theorem followQueue_listens (s : State) : (followQueue s).host.receiver = s.host.receiver := by
  simp [followQueue]

@[simp] theorem appendLog_listens (kind : RecordKind) (detail : Half) (s : State) :
    (appendLog kind detail s).host.receiver = s.host.receiver := by
  simp [appendLog]

@[simp] theorem flush_listens (s : State) : (flush s).host.receiver = s.host.receiver := by
  simp [flush]

@[simp] theorem enterResetHold_listens (s : State) : (enterResetHold s).host.receiver = s.host.receiver := by
  simp [enterResetHold]

@[simp] theorem startPowering_listens (s : State) : (startPowering s).host.receiver = s.host.receiver := by
  unfold startPowering; dsimp only; split <;> simp

@[simp] theorem enterWarming_listens (s : State) : (enterWarming s).host.receiver = s.host.receiver := by
  unfold enterWarming; dsimp only; split <;> split <;> simp

@[simp] theorem enterBooting_listens (s : State) : (enterBooting s).host.receiver = s.host.receiver := by
  simp [enterBooting]

@[simp] theorem stabilityReached_listens (s : State) : (stabilityReached s).host.receiver = s.host.receiver := by
  simp [stabilityReached]

@[simp] theorem enterRunning_listens (kind : RecordKind) (detail : Half) (s : State) :
    (enterRunning kind detail s).host.receiver = s.host.receiver := by
  unfold enterRunning; dsimp only; split <;> simp

@[simp] theorem enterRestarting_listens (action : RestartAction) (off : Nat) (source : RestartSource) (s : State) :
    (enterRestarting action off source s).host.receiver = s.host.receiver := by
  cases action <;> simp [enterRestarting]

@[simp] theorem enterOff_listens (detail : Half) (s : State) : (enterOff detail s).host.receiver = s.host.receiver := by
  simp [enterOff]

@[simp] theorem startStopTimer_listens (ms : Nat) (s : State) :
    (startStopTimer ms s).host.receiver = s.host.receiver := by
  unfold startStopTimer; split <;> simp

@[simp] theorem endThermalWarning_listens (s : State) : (endThermalWarning s).host.receiver = s.host.receiver := by
  unfold endThermalWarning; split <;> simp

@[simp] theorem carryOut_listens (s : State) : (carryOut s).host.receiver = s.host.receiver := by
  unfold carryOut; split
  · rfl
  · split <;> simp

@[simp] theorem releaseLockedOut_listens (detail : Half) (s : State) :
    (releaseLockedOut detail s).host.receiver = s.host.receiver := by
  simp [releaseLockedOut]

/-! ### A block that answers leaves both receivers alone -/

/-- The two receivers of t are those of s. -/
def SameReceivers (s t : State) : Prop :=
  t.host.receiver = s.host.receiver ∧ t.service.receiver = s.service.receiver

theorem SameReceivers.link {s t : State} (h : SameReceivers s t) (l : Link) : (t.link l).receiver = (s.link l).receiver := by
  cases l
  · exact h.1
  · exact h.2

@[simp] theorem setWaiting_receivers (l : Link) (b : Bool) (s : State) :
    (setWaiting l b s).host.receiver = s.host.receiver ∧ (setWaiting l b s).service.receiver = s.service.receiver := by
  cases l <;> simp [setWaiting, State.withLink]

@[simp] theorem sendFrame_service_receiver (l : Link) (f : Frame) (s : State) :
    (sendFrame l f s).service.receiver = s.service.receiver := (sendFrame_link l .service f s).1

@[simp] theorem sendReply_service_receiver (l : Link) (kind tag : Byte) (payload : List Byte) (s : State) :
    (sendReply l kind tag payload s).service.receiver = s.service.receiver := by simp [sendReply]

theorem refuse_receivers (status : Status) (s : State) : SameReceivers s (refuse status s).1 := ⟨rfl, rfl⟩

@[simp] theorem grantDefer_listens (s : State) : (grantDefer s).host.receiver = s.host.receiver := by simp [grantDefer]

@[simp] theorem grantDefer_service (s : State) : (grantDefer s).service = s.service := by simp [grantDefer]

@[simp] theorem stopHost_listens (delay : Nat) (s : State) : (stopHost delay s).host.receiver = s.host.receiver := by
  unfold stopHost; dsimp only; split <;> simp

@[simp] theorem stopHost_service (delay : Nat) (s : State) : (stopHost delay s).service = s.service := by
  unfold stopHost; dsimp only; split <;> simp

theorem powerOffEffect_receivers {delay : Nat} {s t : State} (h : powerOffEffect delay s = some t) : SameReceivers s t := by
  unfold powerOffEffect at h
  split at h <;> first | (cases h; done) | (cases h; simp [SameReceivers, requestOff])

@[simp] theorem applyZone_links (z : Zone) (x : ZoneSettings) (s : State) :
    (applyZone z x s).host = s.host ∧ (applyZone z x s).service = s.service := by
  unfold applyZone; dsimp only; split <;> simp

@[simp] theorem applyFan_links (x : FanSettings) (s : State) :
    (applyFan x s).host = s.host ∧ (applyFan x s).service = s.service := by
  simp [applyFan]

@[simp] theorem removeEntries_listens (n : Nat) (s : State) : (removeEntries n s).host.receiver = s.host.receiver := by
  simp [removeEntries]

@[simp] theorem removeEntries_service (n : Nat) (s : State) : (removeEntries n s).service = s.service := by
  simp [removeEntries]

@[simp] theorem setChordState_links (i : ChordIndex) (x : ChordState) (s : State) :
    (setChordState i x s).host = s.host ∧ (setChordState i x s).service = s.service := by
  simp [setChordState]

@[simp] theorem clearCounters_receivers (s : State) :
    (clearCounters s).host.receiver = s.host.receiver ∧ (clearCounters s).service.receiver = s.service.receiver := by
  simp [clearCounters, clearedCounters]

theorem sampleBody_receivers (l : Link) (tag : Byte) (payload : List Byte) (s : State) :
    SameReceivers s (sampleBody l tag payload s).1 := by
  unfold sampleBody
  (repeat' split) <;> simp [SameReceivers, refuse]

theorem readSensorsBody_receivers (payload : List Byte) (s : State) :
    SameReceivers s (readSensorsBody payload s).1 := by
  unfold readSensorsBody
  (repeat' split) <;> simp [SameReceivers, refuse]

theorem setZoneBody_receivers (payload : List Byte) (s : State) :
    SameReceivers s (setZoneBody payload s).1 := by
  unfold setZoneBody
  (repeat' split) <;> simp [SameReceivers, refuse]

theorem setHeaterCurveBody_receivers (payload : List Byte) (s : State) :
    SameReceivers s (setHeaterCurveBody payload s).1 := by
  unfold setHeaterCurveBody
  (repeat' first | split | (dsimp only; split)) <;> simp [SameReceivers, refuse]

theorem setBudgetBody_receivers (payload : List Byte) (s : State) :
    SameReceivers s (setBudgetBody payload s).1 := by
  unfold setBudgetBody
  (repeat' split) <;> simp [SameReceivers, refuse]

theorem clearFilterBody_receivers (payload : List Byte) (s : State) :
    SameReceivers s (clearFilterBody payload s).1 := by
  unfold clearFilterBody
  (repeat' split) <;> simp [SameReceivers, refuse]

theorem setFanBody_receivers (payload : List Byte) (s : State) :
    SameReceivers s (setFanBody payload s).1 := by
  unfold setFanBody
  (repeat' first | split | (dsimp only; split)) <;> simp [SameReceivers, refuse]

theorem setLimitsBody_receivers (payload : List Byte) (s : State) :
    SameReceivers s (setLimitsBody payload s).1 := by
  unfold setLimitsBody
  (repeat' first | split | (dsimp only; split)) <;> simp [SameReceivers, refuse]

theorem startHostBody_receivers (payload : List Byte) (s : State) :
    SameReceivers s (startHostBody payload s).1 := by
  unfold startHostBody
  (repeat' split) <;> simp [SameReceivers, refuse]

theorem releaseLockoutBody_receivers (payload : List Byte) (s : State) :
    SameReceivers s (releaseLockoutBody payload s).1 := by
  unfold releaseLockoutBody
  (repeat' split) <;> simp [SameReceivers, refuse]

theorem powerOffBody_receivers (payload : List Byte) (s : State) :
    SameReceivers s (powerOffBody payload s).1 := by
  unfold powerOffBody
  split
  · dsimp only
    split
    · next h => exact powerOffEffect_receivers h
    · exact refuse_receivers _ s
  · exact refuse_receivers _ s

theorem restartBody_receivers (payload : List Byte) (s : State) :
    SameReceivers s (restartBody payload s).1 := by
  unfold restartBody
  (repeat' split) <;> simp [SameReceivers, refuse]

theorem readyBody_receivers (l : Link) (payload : List Byte) (s : State) :
    SameReceivers s (readyBody l payload s).1 := by
  unfold readyBody
  (repeat' split) <;> simp [SameReceivers, refuse]

theorem deferBody_receivers (l : Link) (tag : Byte) (payload : List Byte) (s : State) :
    SameReceivers s (deferBody l tag payload s).1 := by
  unfold deferBody
  (repeat' split) <;> simp [SameReceivers, refuse]

theorem setLadderBody_receivers (payload : List Byte) (s : State) :
    SameReceivers s (setLadderBody payload s).1 := by
  unfold setLadderBody
  (repeat' split) <;> simp [SameReceivers, refuse]

theorem setTimingBody_receivers (payload : List Byte) (s : State) :
    SameReceivers s (setTimingBody payload s).1 := by
  unfold setTimingBody
  (repeat' split) <;> simp [SameReceivers, refuse]

theorem setKeypadBody_receivers (payload : List Byte) (s : State) :
    SameReceivers s (setKeypadBody payload s).1 := by
  unfold setKeypadBody
  (repeat' first | split | (dsimp only; split)) <;> simp [SameReceivers, refuse]

theorem setKeyEntriesBody_receivers (payload : List Byte) (s : State) :
    SameReceivers s (setKeyEntriesBody payload s).1 := by
  unfold setKeyEntriesBody
  (repeat' split) <;> simp [SameReceivers, refuse]

theorem setChordBody_receivers (payload : List Byte) (s : State) :
    SameReceivers s (setChordBody payload s).1 := by
  unfold setChordBody
  (repeat' first | split | (dsimp only; split)) <;> simp [SameReceivers, refuse]

theorem readKeysBody_receivers (l : Link) (payload : List Byte) (s : State) :
    SameReceivers s (readKeysBody l payload s).1 := by
  unfold readKeysBody
  (repeat' split) <;> simp [SameReceivers, refuse]

theorem readSettingsBody_receivers (payload : List Byte) (s : State) :
    SameReceivers s (readSettingsBody payload s).1 := by
  unfold readSettingsBody
  (repeat' split) <;> simp [SameReceivers, refuse]

theorem saveSettingsBody_receivers (l : Link) (tag : Byte) (payload : List Byte) (s : State) :
    SameReceivers s (saveSettingsBody l tag payload s).1 := by
  unfold saveSettingsBody
  (repeat' split) <;> simp [SameReceivers, refuse]

theorem readFactoryBody_receivers (payload : List Byte) (s : State) :
    SameReceivers s (readFactoryBody payload s).1 := by
  unfold readFactoryBody
  (repeat' split) <;> simp [SameReceivers, refuse]

theorem programBody_receivers (l : Link) (tag : Byte) (payload : List Byte) (s : State) :
    SameReceivers s (programBody l tag payload s).1 := by
  unfold programBody
  (repeat' first | split | (dsimp only; split)) <;> simp [SameReceivers, refuse]

theorem setTimeBody_receivers (payload : List Byte) (s : State) :
    SameReceivers s (setTimeBody payload s).1 := by
  unfold setTimeBody
  (repeat' split) <;> simp [SameReceivers, refuse]

theorem readLogBody_receivers (payload : List Byte) (s : State) :
    SameReceivers s (readLogBody payload s).1 := by
  unfold readLogBody
  (repeat' split) <;> simp [SameReceivers, refuse]

theorem identifyBody_receivers (l : Link) (payload : List Byte) (s : State) :
    SameReceivers s (identifyBody l payload s).1 := by
  unfold identifyBody
  (repeat' split) <;> simp [SameReceivers, refuse]

theorem getStatusBody_receivers (payload : List Byte) (s : State) :
    SameReceivers s (getStatusBody payload s).1 := by
  unfold getStatusBody
  (repeat' split) <;> simp [SameReceivers, refuse]

theorem getCountersBody_receivers (payload : List Byte) (s : State) :
    SameReceivers s (getCountersBody payload s).1 := by
  unfold getCountersBody
  (repeat' split) <;> simp [SameReceivers, refuse]

theorem getAttentionBody_receivers (payload : List Byte) (s : State) :
    SameReceivers s (getAttentionBody payload s).1 := by
  unfold getAttentionBody
  (repeat' split) <;> simp [SameReceivers, refuse]

theorem clearAttentionBody_receivers (payload : List Byte) (s : State) :
    SameReceivers s (clearAttentionBody payload s).1 := by
  unfold clearAttentionBody
  (repeat' split) <;> simp [SameReceivers, refuse]

theorem setMaskBody_receivers (payload : List Byte) (s : State) :
    SameReceivers s (setMaskBody payload s).1 := by
  unfold setMaskBody
  (repeat' split) <;> simp [SameReceivers, refuse]

/-! ### A frame taken leaves its receiver hunting (R164) -/

theorem SameReceivers.hunts {body : State → State × Option (List Byte)} (h : ∀ t, SameReceivers t (body t).1) (l : Link)
    (t : State) (g : (t.link l).receiver = .hunting) : ((body t).1.link l).receiver = .hunting := by
  rw [(h t).link l, g]

/-- An answered request leaves its receiver hunting when its block does. -/
theorem answer_hunts {l : Link} {kind tag : Byte} {body : State → State × Option (List Byte)} {s : State}
    (h : receiving s = true)
    (b : ∀ t, (t.link l).receiver = .hunting → ((body t).1.link l).receiver = .hunting) :
    ((answer l kind tag body s).link l).receiver = .hunting := by
  have start : ((setReceiver l .hunting s).link l).receiver = .hunting := by simp [setReceiver]
  by_cases w : (s.link l).waiting = true
  · rw [answer_of_waiting h w, sendReply, (sendFrame_link l l _ _).1, start]
  · have w : (s.link l).waiting = false := by simpa using w
    have g := b _ start
    rcases e : body (setReceiver l .hunting s) with ⟨t, _ | payload⟩
    · rw [answer_of_deferred h w e]
      simpa [e] using g
    · rw [answer_of_reply h w e, sendReply, (sendFrame_link l l _ _).1]
      simpa [e] using g

theorem strayCheckIn_link (l : Link) (s : State) : ((strayCheckIn l s).link l).receiver = (s.link l).receiver := by
  simp [strayCheckIn]

theorem takeCheckIn_listens (stage : Nat) (s : State) : (takeCheckIn stage s).host.receiver = s.host.receiver := by
  have stray := strayCheckIn_link .host s
  unfold takeCheckIn checkInBooting checkInRunning checkInWarned
  (repeat' split) <;> first | exact stray | simp

theorem checkIn_hunts {l : Link} {tag : Byte} {payload : List Byte} {s : State} (h : receiving s = true) :
    ((checkIn l tag payload s).link l).receiver = .hunting := by
  have start (k : Link) : ((setReceiver k .hunting s).link k).receiver = .hunting := by simp [setReceiver]
  unfold checkIn
  rw [if_pos h]
  split
  · split
    · exact (takeCheckIn_listens _ _).trans (start .host)
    · rw [strayCheckIn_link, start]
  · rw [strayCheckIn_link, start]

theorem beginReset_hunts (kind : ResetKind) (l : Link) (s : State) : ((beginReset kind s).link l).receiver = .hunting := by
  cases l <;> cases kind <;> rfl

theorem resetSupervisorBody_hunts (l : Link) (tag : Byte) (payload : List Byte) (t : State)
    (g : (t.link l).receiver = .hunting) : ((resetSupervisorBody l tag payload t).1.link l).receiver = .hunting := by
  unfold resetSupervisorBody
  split
  · dsimp only
    split
    · rw [sendReply, (sendFrame_link l l _ _).1]
      cases l <;> exact g
    · exact beginReset_hunts .link l _
  · exact g

/-- Once a frame has been taken on a link that receives, its receiver hunts (R164). -/
theorem takeFrame_hunts {l : Link} {f : Frame} {s : State} (h : receiving s = true) :
    ((takeFrame l f s).link l).receiver = .hunting := by
  have start : ((setReceiver l .hunting s).link l).receiver = .hunting := by simp [setReceiver]
  unfold takeFrame
  split
  · exact answer_hunts h (SameReceivers.hunts (identifyBody_receivers l f.payload) l)
  · exact answer_hunts h (SameReceivers.hunts (getStatusBody_receivers f.payload) l)
  · exact checkIn_hunts h
  · exact answer_hunts h (SameReceivers.hunts (readKeysBody_receivers l f.payload) l)
  · exact answer_hunts h (SameReceivers.hunts (readLogBody_receivers f.payload) l)
  · exact answer_hunts h (SameReceivers.hunts (getAttentionBody_receivers f.payload) l)
  · exact answer_hunts h (SameReceivers.hunts (clearAttentionBody_receivers f.payload) l)
  · exact answer_hunts h (SameReceivers.hunts (setMaskBody_receivers f.payload) l)
  · exact answer_hunts h (SameReceivers.hunts (startHostBody_receivers f.payload) l)
  · exact answer_hunts h (SameReceivers.hunts (powerOffBody_receivers f.payload) l)
  · exact answer_hunts h (SameReceivers.hunts (restartBody_receivers f.payload) l)
  · exact answer_hunts h (SameReceivers.hunts (readyBody_receivers l f.payload) l)
  · exact answer_hunts h (SameReceivers.hunts (deferBody_receivers l f.tag f.payload) l)
  · exact answer_hunts h (SameReceivers.hunts (releaseLockoutBody_receivers f.payload) l)
  · exact answer_hunts h (SameReceivers.hunts (setTimeBody_receivers f.payload) l)
  · exact answer_hunts h (SameReceivers.hunts (readSensorsBody_receivers f.payload) l)
  · exact answer_hunts h (SameReceivers.hunts (sampleBody_receivers l f.tag f.payload) l)
  · exact answer_hunts h (SameReceivers.hunts (setZoneBody_receivers f.payload) l)
  · exact answer_hunts h (SameReceivers.hunts (setHeaterCurveBody_receivers f.payload) l)
  · exact answer_hunts h (SameReceivers.hunts (setBudgetBody_receivers f.payload) l)
  · exact answer_hunts h (SameReceivers.hunts (setFanBody_receivers f.payload) l)
  · exact answer_hunts h (SameReceivers.hunts (setLimitsBody_receivers f.payload) l)
  · exact answer_hunts h (SameReceivers.hunts (clearFilterBody_receivers f.payload) l)
  · exact answer_hunts h (SameReceivers.hunts (setKeypadBody_receivers f.payload) l)
  · exact answer_hunts h (SameReceivers.hunts (setKeyEntriesBody_receivers f.payload) l)
  · exact answer_hunts h (SameReceivers.hunts (setChordBody_receivers f.payload) l)
  · exact answer_hunts h (SameReceivers.hunts (setLadderBody_receivers f.payload) l)
  · exact answer_hunts h (SameReceivers.hunts (setTimingBody_receivers f.payload) l)
  · exact answer_hunts h (SameReceivers.hunts (readSettingsBody_receivers f.payload) l)
  · exact answer_hunts h (SameReceivers.hunts (saveSettingsBody_receivers l f.tag f.payload) l)
  · exact answer_hunts h (SameReceivers.hunts (readFactoryBody_receivers f.payload) l)
  · exact answer_hunts h (SameReceivers.hunts (programBody_receivers l f.tag f.payload) l)
  · exact answer_hunts h (SameReceivers.hunts (getCountersBody_receivers f.payload) l)
  · exact answer_hunts h (resetSupervisorBody_hunts l f.tag f.payload)
  · split
    · unfold unknownRequest
      rw [if_pos h, sendReply, (sendFrame_link l l _ _).1, start]
    · unfold nonRequestFrame
      rw [if_pos h, start]

/-! ### The examinations allowed are enough (R164, log entry 27) -/

/-- Examinations that bytes arriving at a receiver can take: n bytes at a hunting receiver, or after those it holds. -/
def scanCost (r : Receiver) (n : Nat) : Nat :=
  match r with
  | .hunting => n * (n + 2)
  | .assembling bytes _ => n + (bytes.length + n) * (bytes.length + n + 2) + 1

theorem scanCost_le_scanFuel (r : Receiver) (n : Nat) : scanCost r n ≤ scanFuel ((heldBytes r).length + n) := by
  cases r with
  | hunting => simp only [scanCost, scanFuel, heldBytes, List.length_nil]; nlinarith
  | assembling bytes age => simp only [scanCost, scanFuel, heldBytes]; nlinarith

@[simp] theorem scanBytes_nil (fuel : Nat) (l : Link) (s : State) : scanBytes fuel l [] s = s := by
  cases fuel <;> rfl

theorem scanBytes_of_deaf {s : State} (h : receiving s = false) (fuel : Nat) (l : Link) (bytes : List Byte) :
    scanBytes fuel l bytes s = s := by
  cases fuel <;> cases bytes <;> simp [scanBytes, h]

/-- One examination (R164): the bytes left to examine after the byte b, of which the rest followed, and the state then. -/
def examine (l : Link) (b : Byte) (rest : List Byte) (s : State) : List Byte × State :=
  match (s.link l).receiver with
  | .hunting => (rest, if b = syncByte then setReceiver l (.assembling [] 0) s else s)
  | .assembling bytes _ =>
    match assemble (bytes ++ [b]) with
    | .partially => (rest, setReceiver l (.assembling (bytes ++ [b]) 0) s)
    | .badLength => (b :: rest, countLengthError l s)
    | .badCheck => (bytes ++ b :: rest, countCrcError l s)
    | .complete f => (rest, takeFrame l f s)

/-- A link that receives examines the next byte. -/
theorem scanBytes_step {s : State} (h : receiving s = true) (fuel : Nat) (l : Link) (b : Byte) (rest : List Byte) :
    scanBytes (fuel + 1) l (b :: rest) s = scanBytes fuel l (examine l b rest s).1 (examine l b rest s).2 := by
  rcases e : (s.link l).receiver with _ | ⟨bytes, age⟩
  · by_cases g : b = syncByte <;> simp [scanBytes, examine, h, e, g]
  · rcases g : assemble (bytes ++ [b]) with _ | _ | _ | f <;> simp [scanBytes, examine, h, e, g]

/-- An examination leaves the bytes after the rest alone. -/
theorem examine_append (l : Link) (b : Byte) (rest more : List Byte) (s : State) :
    examine l b (rest ++ more) s = ((examine l b rest s).1 ++ more, (examine l b rest s).2) := by
  unfold examine
  (repeat' split) <;> simp

/-- An examination leaves less to examine than there was. -/
theorem examine_cost {s : State} (h : receiving s = true) (l : Link) (b : Byte) (rest : List Byte) (k : Nat) :
    scanCost (((examine l b rest s).2).link l).receiver ((examine l b rest s).1.length + k) <
      scanCost (s.link l).receiver ((b :: rest).length + k) := by
  unfold examine
  rcases e : (s.link l).receiver with _ | ⟨bytes, age⟩
  · by_cases g : b = syncByte
    · simp only [if_pos g, setReceiver, withLink_link, scanCost, List.length_cons, List.length_nil]
      nlinarith
    · simp only [if_neg g, e, scanCost, List.length_cons]
      nlinarith
  · dsimp only
    split
    · simp only [setReceiver, withLink_link, scanCost, List.length_cons, List.length_append, List.length_nil]
      nlinarith
    · simp only [countLengthError, withLink_link, scanCost, List.length_cons]
      nlinarith
    · simp only [countCrcError, withLink_link, scanCost, List.length_cons, List.length_append]
      nlinarith
    · simp only [takeFrame_hunts h, scanCost, List.length_cons]
      nlinarith

/-- Two bounds that are both enough give the same state. -/
theorem scanBytes_enough (fuel : Nat) : ∀ (other : Nat) (l : Link) (bytes : List Byte) (s : State),
    scanCost (s.link l).receiver bytes.length ≤ fuel → scanCost (s.link l).receiver bytes.length ≤ other →
    scanBytes fuel l bytes s = scanBytes other l bytes s := by
  induction fuel with
  | zero =>
    intro other l bytes s h _
    cases bytes with
    | nil => simp
    | cons b rest => exfalso; revert h; cases (s.link l).receiver <;> simp [scanCost]
  | succ fuel ih =>
    intro other l bytes s h g
    cases bytes with
    | nil => simp
    | cons b rest =>
      by_cases r : receiving s = true
      · have c := examine_cost r l b rest 0
        simp only [Nat.add_zero] at c
        obtain ⟨other, rfl⟩ : ∃ n, other = n + 1 := ⟨other - 1, by omega⟩
        rw [scanBytes_step r, scanBytes_step r]
        exact ih other l _ _ (by omega) (by omega)
      · have r : receiving s = false := by simpa using r
        rw [scanBytes_of_deaf r, scanBytes_of_deaf r]

/-- Bytes that arrive in two parts have the effect of all of them together. -/
theorem scanBytes_append (fuel : Nat) : ∀ (first second : Nat) (l : Link) (bytes more : List Byte) (s : State),
    scanCost (s.link l).receiver (bytes.length + more.length) ≤ fuel → scanCost (s.link l).receiver bytes.length ≤ first →
    scanCost ((scanBytes first l bytes s).link l).receiver more.length ≤ second →
    scanBytes fuel l (bytes ++ more) s = scanBytes second l more (scanBytes first l bytes s) := by
  induction fuel with
  | zero =>
    intro first second l bytes more s h _ _
    obtain ⟨rfl, rfl⟩ : bytes = [] ∧ more = [] := by
      cases bytes <;> cases more <;> first | exact ⟨rfl, rfl⟩ |
        (exfalso; revert h; cases (s.link l).receiver <;> simp [scanCost])
    simp
  | succ fuel ih =>
    intro first second l bytes more s h g k
    cases bytes with
    | nil =>
      simp only [List.nil_append, scanBytes_nil] at k ⊢
      exact scanBytes_enough _ _ l more s (by simpa using h) k
    | cons b rest =>
      by_cases r : receiving s = true
      · have c := examine_cost r l b rest 0
        have d := examine_cost r l b rest more.length
        simp only [Nat.add_zero] at c
        obtain ⟨first, rfl⟩ : ∃ n, first = n + 1 := ⟨first - 1, by omega⟩
        rw [scanBytes_step r] at k ⊢
        rw [List.cons_append, scanBytes_step r, examine_append]
        dsimp only
        exact ih first second l _ more _ (Nat.le_of_lt_succ (d.trans_le h)) (by omega) k
      · have r : receiving s = false := by simpa using r
        rw [scanBytes_of_deaf r, scanBytes_of_deaf r, scanBytes_of_deaf r]

/-- Bytes that arrive in two parts have the effect of all of them together (R164). -/
theorem receive_append (l : Link) (bytes more : List Byte) (s : State) :
    receive l (bytes ++ more) s = receive l more (receive l bytes s) :=
  scanBytes_append _ _ _ l bytes more s
    (by rw [List.length_append]; exact scanCost_le_scanFuel _ _) (scanCost_le_scanFuel _ _) (scanCost_le_scanFuel _ _)

/-- Any bound that is enough gives what the receiver does (R164). -/
theorem receive_eq {fuel : Nat} {l : Link} {bytes : List Byte} {s : State}
    (h : scanCost (s.link l).receiver bytes.length ≤ fuel) : receive l bytes s = scanBytes fuel l bytes s :=
  scanBytes_enough _ _ l bytes s (scanCost_le_scanFuel _ _) h

/-- A link that receives examines the next byte, and then what that leaves (R164). -/
theorem receive_cons {s : State} (h : receiving s = true) (l : Link) (b : Byte) (rest : List Byte) :
    receive l (b :: rest) s = receive l (examine l b rest s).1 (examine l b rest s).2 := by
  have c := examine_cost h l b rest 0
  simp only [Nat.add_zero] at c
  rw [receive_eq (Nat.le_succ_of_le (Nat.le_refl _)), scanBytes_step h, ← receive_eq (Nat.le_of_lt c)]

@[simp] theorem receive_nil (l : Link) (s : State) : receive l [] s = s := scanBytes_nil _ l s

theorem receive_of_deaf {s : State} (h : receiving s = false) (l : Link) (bytes : List Byte) : receive l bytes s = s :=
  scanBytes_of_deaf h _ l bytes

end Sys2Proof.Machine
end

