-- ==== Sys2Proof/Tests/Slice0.lean ====
section
/-! SUPPORT. Tests on fixed values. Expected results come from the manual's tables and worked cases, each named in its comment.
Then, for every statement with hypotheses, a witness that meets them, clause by clause. -/

namespace Sys2Proof.Tests

open Sys2Proof.Machine

set_option maxRecDepth 20000

/-! ### Helpers -/

/-- The state after a command. -/
def after (c : Instr) (s : State) : State :=
  match exec c s with
  | .next t => t
  | .fault _ => s
  | .refused _ => s

/-- The state after some commands, the first one first. -/
def run (cs : List Instr) (s : State) : State := cs.foldl (fun t c => after c t) s

/-- The state after reset with a sequencer state in place. -/
def inState (st : SupervisorState) (timers : SequencerTimers) : State :=
  mapTimers (fun _ => timers) (enterState st State.reset)

/-- The state at the moment at which every sequencer timer that runs has run out. -/
def timeUp (s : State) : State :=
  mapTimers (fun t => ⟨runOut t.hpg, runOut t.resetHold, runOut t.bootWindow, runOut t.run, runOut t.stability,
    runOut t.grace, runOut t.pulse, runOut t.offInterval, runOut t.powerOff⟩) s

/-- Every channel VALID at a temperature. -/
def allAt (t : Int) (s : State) : State :=
  s.withMeas { s.meas with channels := Vector.replicate 8 ⟨some 186, some 744, some 186, some t, .valid⟩ }

/-- RUNNING, with its two timers. -/
def running : State :=
  inState .running { SequencerTimers.stopped with run := some ⟨30000, 30000⟩, stability := some ⟨600000, 600000⟩ }

/-- STARTING/BOOTING, with its boot window, and HPG present. -/
def booting : State :=
  setPowerGood true (inState .booting { SequencerTimers.stopped with bootWindow := some ⟨240000, 240000⟩ })

/-- WARNED with a warning and a grace. -/
def warned (w : Warning) : State :=
  let s := inState .warned { SequencerTimers.stopped with grace := some ⟨20000, 12345⟩ }
  s.withSeq { s.seq with warning := some w }

/-- RESTARTING/POWER_DOWN after a failure. -/
def poweredDown : State :=
  let s := inState .powerDown { SequencerTimers.stopped with offInterval := some ⟨10000, 10000⟩ }
  s.withSeq { s.seq with restart := some ⟨.cold, some 10, .ladder, false⟩ }

/-- RESTARTING/RESET_PULSE after a request. -/
def pulsing : State :=
  let s := inState .resetPulse { SequencerTimers.stopped with pulse := some ⟨200, 200⟩ }
  s.withSeq { s.seq with restart := some ⟨.warm, none, .request, false⟩ }

/-- The ROW7 dwell of a cycle, with one position down. -/
def scanning (down : List Position) (s : State) : State :=
  s.withKeypad
    { s.keypad with
      row := some 7
      debounceCount := 2
      held := down
      target := down.getLast?
      positions := Vector.ofFn fun p => if p ∈ down then ⟨true, true, 0, false, none⟩ else KeyPosition.fresh }

/-! ### Well-formed and ill-formed commands -/

theorem test_wellFormed_identify : (Instr.identify .host 7 []).wellFormed = true := by decide
theorem test_illFormed_payload_too_long : (Instr.identify .host 7 (List.replicate 201 0)).wellFormed = false := by decide
theorem test_illFormed_length_in_range : (Instr.lengthError .host 2).wellFormed = false := by decide
theorem test_illFormed_body_short : (Instr.crcError .host [3, 1, 7] 0).wellFormed = false := by decide
theorem test_illFormed_check_agrees : (Instr.crcError .host [2, 2, 7] 0xB479).wellFormed = false := by decide
theorem test_illFormed_request_kind : (Instr.nonRequestFrame .host 0x3F 7 []).wellFormed = false := by decide
theorem test_illFormed_no_request_payload : (Instr.nonRequestFrame .host 0x40 7 (List.replicate 201 0)).wellFormed = false := by
  decide
theorem test_illFormed_known_kind : (Instr.unknownRequest .host 0x22 7 []).wellFormed = false := by decide
theorem test_illFormed_unknown_payload : (Instr.unknownRequest .host 0x3F 7 (List.replicate 201 0)).wellFormed = false := by
  decide

/-! ### Frames (chapter 10) -/

/-- No row of the table gives bits. -/
theorem test_decodeTableWord_none : decodeTableWord 8 1 = none := rfl

/-- The frame of a Get Status with tag 7 (chapter 10, the worked check value). -/
theorem test_wire_of_getStatus : (Frame.mk 0x02 0x07 []).wire = [0x5A, 0x02, 0x02, 0x07, 0xB4, 0x79] := by decide

theorem test_command_of_frame : commandOfFrame .service ⟨0x14, 9, [0, 1, 0, 2]⟩ = .setBudget .service 9 [0, 1, 0, 2] := by
  decide

/-- A frame on the wire is taken: its reply stands in the output queue. -/
theorem test_receive_identify :
    ((after (.interByteTimeout .service (Frame.mk 0x01 5 []).wire) State.reset).service.output.map fun f => f.kind) =
      [0x81] := by
  decide

/-! ### Resets -/

/-- The state after reset is that of the power-on reset of a new part and its end (log entry 1). -/
theorem test_reset_is_power_on_of_new_part :
    run [.powerOnReset, .resetEnd] { State.reset with timeBase := 55, queue := ⟨[], 9, 3, 4⟩, causes := 0 } = State.reset := by
  decide

theorem test_step_of_empty_queue : (State.reset.pending = []) ∧ step State.reset = .next State.reset := ⟨rfl, rfl⟩

/-- A pin reset keeps HPWR_EN and the log, and its end adopts the computer (Table 4-8, R85). -/
theorem test_pin_reset_adopts :
    ((run [.pinReset, .resetEnd] booting).seq.state, (run [.pinReset, .resetEnd] booting).log.ring.map fun r => r.kind) =
      (.booting, [.powerOn, .settingsDefaulted, .supervisorReset, .settingsDefaulted, .hostStart]) := by
  decide

/-! ### Chapter 1 -/

/-- Table 1-7, conversion 1: a raw code of 0 after the accumulator 744 gives 558, 140 and −17.4 °C. -/
theorem test_filter_after_short :
    recordAfterScan (-400, 1650) 0 ⟨some 186, some 744, some 186, some (-100), .valid⟩ =
      ⟨some 0, some 558, some 140, some (-174), .valid⟩ := by
  decide

/-- Table 1-7, conversion 12: the filtered code 6 is OPEN_OR_SHORT and has no temperature. -/
theorem test_filter_open_or_short :
    recordAfterScan (-400, 1650) 0 ⟨some 0, some 33, some 8, some (-387), .valid⟩ =
      ⟨some 0, some 25, some 6, none, .openOrShort⟩ := by
  decide

/-- A reference out of its window counts a failure, and the second enters FAULT (R7, R8). -/
theorem test_converter_fault_at_second_failure :
    ((after (.converterFault 100)
        (State.reset.withMeas { State.reset.meas with current := some .reference, failCount := 1 })).meas.fault,
      (after (.converterFault 100)
        (State.reset.withMeas { State.reset.meas with current := some .reference })).meas.fault) = (true, false) := by
  decide

/-- A one-shot of reference 9 is answered with its raw code (R5). -/
theorem test_one_shot_reply :
    (run [.sampleChannel .service 3 [9], .scanConversionComplete 5, .oneShotComplete 512] State.reset).service.output =
      [⟨0x91, 3, [0x00, 9, 0x02, 0x00, 0]⟩] := by
  decide

/-! ### Chapters 2 and 3 -/

/-- Table 12-1 and the first row of Table 12-2: the grants at −28.0 °C under the off-budget. -/
theorem test_first_cold_allocation :
    ((after .allocationPeriodExpiry (allAt (-280) State.reset)).zones.toList.map
        fun z => (z.demandDuty, z.demandPower, z.grantedPower, z.priority)) =
      [(960, 384, 384, 1), (967, 580, 580, 4), (800, 120, 120, 0), (660, 132, 116, 5)] := by
  decide

/-- The fourth row of Table 12-2: HZ3 is served before HZ1, which ages. -/
theorem test_fourth_cold_allocation :
    ((run [.allocationPeriodExpiry, .allocationPeriodExpiry, .allocationPeriodExpiry, .allocationPeriodExpiry]
        (allAt (-280) State.reset)).zones.toList.map fun z => (z.grantedPower, z.grantedDuty, z.priority)) =
      [(384, 960, 1), (564, 940, 3), (120, 800, 0), (132, 660, 6)] := by
  decide

/-- The fan curve at −28.0 °C gives 0 ‰ (chapter 12.1), and three stalled periods are a fault (R51). -/
theorem test_fan_stops_in_the_cold : (after .fanPeriodExpiry (allAt (-280) State.reset)).thermal.fanDuty = 0 := by decide

theorem test_fan_faults_at_third_stall :
    ((run [.fanPeriodExpiry, .fanPeriodExpiry] (allAt 450 State.reset)).thermal.fanFault,
      (run [.fanPeriodExpiry, .fanPeriodExpiry, .fanFault] (allAt 450 State.reset)).thermal.fanFault) = (false, true) := by
  decide

/-- A duty of 245 keeps the output on for 24.5 ms; a grant of 252 that comes at 25.0 ms turns it on for 0.2 ms more (R31). -/
theorem test_on_time_of_a_tenth_of_a_millisecond :
    let grant (duty : Nat) (s : State) := s.withZones (put s.zones 0 { s.zones[(0 : Zone)] with grantedDuty := duty })
    let on := grant 245 (State.reset.withZones (put State.reset.zones 0 { State.reset.zones[(0 : Zone)] with frame := some 240 }))
    let ended := after (.driveOnTimeEnd 0) on
    let later := grant 252 (after .timeBaseTick ended)
    (heaterOn on 0, heaterOn ended 0, later.zones[(0 : Zone)].frame, heaterOn later 0,
      heaterOn (after (.driveOnTimeEnd 0) later) 0) = (true, false, some 250, true, false) := by
  decide

/-- With a trip hold of 0 one hot check trips, and the heaters are cut (R56, R57). -/
theorem test_trip_at_once :
    let s := allAt 850 State.reset
    let t := after .thermalTrip (s.withSettings { s.settings with limits := { s.settings.limits with tripHold := 0 } })
    (t.thermal.tripped, t.log.ring.getLast?.map fun r => (r.kind, r.detail)) = (true, some (.thermalTrip, 850)) := by
  decide

/-! ### Chapters 4 to 6 -/

/-- The first failure of a RUNNING computer is warned of by rung 0 (chapter 12.2, records 41 and 42). -/
theorem test_run_timeout_warns :
    let t := after .runTimeoutExpiry (timeUp running)
    (t.seq.state, t.ladder, (t.log.ring.drop 2).map fun r => (r.kind, r.failures)) =
      (.warned, ⟨0, 1⟩, [(.checkinTimeout, 0), (.warningIssued, 1)]) := by
  decide

/-- Its Restart Pending notice has 20 s of grace and two defers left (Table 10-9, chapter 12.2). -/
theorem test_restart_pending_notice :
    (⟨0x41, 0, [0, 0, 0, 20, 2, 1]⟩ : Frame) ∈ (after .runTimeoutExpiry (timeUp running)).host.output := by
  decide

/-- A Check-In that is taken first restarts the run timeout, and the expiry of the same moment does not occur (R93). -/
theorem test_check_in_forestalls_the_run_timeout :
    let t := run [.checkIn .host 0 [5], .runTimeoutExpiry] (timeUp running)
    (t.seq.state, t.ladder, t.seq.timers.run) = (.running, ⟨0, 0⟩, some ⟨30000, 30000⟩) := by
  decide

/-- A timer runs out by the ticks given: a power-off timer of 1 s, 999 ms and 1000 ms later (R80, R152). -/
theorem test_power_off_timer_counts_ticks :
    let s := inState .stopping { SequencerTimers.stopped with powerOff := some ⟨1000, 2⟩ }
    ((run [.timeBaseTick, .powerOffTimerExpiry] s).seq.state,
      (run [.timeBaseTick, .timeBaseTick, .powerOffTimerExpiry] s).seq.state) = (.stopping, .off) := by
  decide

/-- The third failure leaves rung 0 (chapter 12.2, record 48). -/
theorem test_third_failure_leaves_the_rung :
    (after .runTimeoutExpiry (timeUp (running.withLadder ⟨0, 2⟩))).ladder = ⟨1, 1⟩ := by
  decide

/-- Leaving the flipping rung 2 toggles the boot slot; the last rung's exhaustion locks out (R97, R98, Table 5-3). -/
theorem test_flip_and_lockout :
    ((after .bootWindowExpiry (timeUp (booting.withLadder ⟨2, 1⟩))).store.slot,
      (after .bootWindowExpiry (timeUp (booting.withLadder ⟨3, 2⟩))).seq.state) = (true, .lockedOut) := by
  decide

/-- The records of a failure that flips the boot slot, with their details, and of one that locks out (R74, R75, R99, R101). -/
theorem test_records_of_flip_and_lockout :
    (((after .bootWindowExpiry (timeUp (booting.withLadder ⟨2, 1⟩))).log.ring.drop 2).map fun r => (r.kind, r.detail),
      ((after .bootWindowExpiry (timeUp (booting.withLadder ⟨3, 2⟩))).log.ring.drop 2).map fun r => (r.kind, r.state)) =
      ([(.checkinTimeout, 0), (.slotFlip, 1), (.restart, 0x0100)],
        [(.checkinTimeout, .booting), (.lockout, .lockedOut)]) := by
  decide

/-- A Check-In at the confirm stage confirms the boot; the one below it does not (R90). -/
theorem test_check_in_confirms :
    ((after (.checkIn .host 0 [4]) booting).seq.state, (after (.checkIn .host 0 [3]) booting).seq.state) =
      (.running, .booting) := by
  decide

/-- A Check-In on the service link is stray (R87). -/
theorem test_check_in_on_service_is_stray : (after (.checkIn .service 0 [4]) booting).service.strays = 1 := by decide

/-- A Defer leaves one defer and a grace of 60 s (chapter 12.2, record 43). -/
theorem test_defer :
    let t := after (.defer .host 1 []) (warned ⟨.checkinTimeout, .warm, 2, true⟩)
    (t.seq.timers.grace, t.seq.warning, t.log.ring.getLast?.map fun r => (r.kind, r.detail)) =
      (some ⟨60000, 60000⟩, some ⟨.checkinTimeout, .warm, 1, true⟩, some (.warningDeferred, 1)) := by
  decide

/-- A thermal replacement keeps the shorter grace (chapter 12.3: 9 s of 20 against a thermal grace of 15 s). -/
theorem test_thermal_replacement_keeps_the_grace :
    let s := warned ⟨.checkinTimeout, .warm, 2, true⟩
    let t := shutdownDemand (s.withSeq { s.seq with timers := { s.seq.timers with grace := some ⟨20000, 9000⟩ } })
    (t.seq.timers.grace, t.seq.warning) = (some ⟨9000, 9000⟩, some ⟨.thermal, .off, 0, false⟩) := by
  decide

/-! ### Chapters 7 and 8 -/

/-- The debounce time at −28.0 °C is 39 ms and N is 61; at −32.0 °C N is 63 (chapters 12.1 and 12.4). -/
theorem test_debounce_count :
    (debounceCountOf (debounceTimeOf Settings.defaults.keypad.curve (some (-280))) 60,
      debounceCountOf (debounceTimeOf Settings.defaults.keypad.curve (some (-320))) 60) = (61, 63) := by
  decide

/-- A press that has stood for N completions is accepted, stored as PRESS, and KEYS becomes pending (R127, R145). -/
theorem test_press_accepted :
    let t := run [.scanCompletion 1, .rowDwellEnd 0, .rowDwellEnd 0, .rowDwellEnd 0, .rowDwellEnd 0, .rowDwellEnd 0,
      .rowDwellEnd 0, .rowDwellEnd 0, .pressAccepted 42 1] (scanning [] State.reset)
    (t.keypad.held, t.queue.entries.map fun e => e.kind, holdsCause t.causes .keys) = ([42], [.press 42 42], true) := by
  decide

/-- Three closed corners of a rectangle are ambiguous; two keys of a row are not (R126). -/
theorem test_ghost :
    (holdsThreeCorners (fun p => decide (p ∈ [0, 1, 6])), holdsThreeCorners fun p => decide (p ∈ [0, 1, 2])) =
      (true, false) := by
  decide

/-- The RELEASE chord of entry 3 fires in LOCKED_OUT (chapter 12.4). -/
theorem test_release_chord :
    let s := scanning [42, 47, 45] (inState .lockedOut SequencerTimers.stopped)
    let t := after (.chordFire 3 0b101001)
      ((setChordState 3 ⟨.holding, some ⟨5000, 5000⟩⟩ s).withLadder ⟨3, 2⟩)
    (t.seq.state, t.ladder, (t.log.ring.drop 2).map fun r => (r.kind, r.detail, r.rung)) =
      (.warming, ⟨0, 0⟩, [(.chord, 0x0301, 3), (.lockoutReleased, 1, 0)]) := by
  decide

/-! ### Chapters 9 to 11 -/

/-- Set Time tags its record with the new value and answers the old one (R153). -/
theorem test_set_time :
    let t := after (.setTime .service 2 [0, 0, 1, 0]) (State.reset.withTimeBase 77)
    (t.timeBase, t.log.ring.getLast?.map fun r => (r.kind, r.time), t.service.output) =
      (256, some (.timeSet, 256), [⟨0x8F, 2, [0, 0, 0, 0, 77]⟩]) := by
  decide

/-- Read Log from sequence 2 (R160, Table 10-8). -/
theorem test_read_log :
    (after (.readLog .service 1 [0, 0, 0, 2, 1]) State.reset).service.output =
      [⟨0x85, 1, [0, 1, 0, 0, 0, 1, 0, 0, 0, 2, 0, 0, 0, 0, 0, 2, 0, 0, 0, 0, 26, 0, 0, 0, 0x80, 0, 0, 0]⟩] := by
  decide

/-- A record of a sequence number. -/
def numbered (q : Full) : LogRecord := ⟨q, 0, .timeSet, .off, 0, 0, false, none, 0⟩

/-- A log whose numbering has passed from 4294967295 to 1: records 4294967294, 4294967295 and 1. -/
def pastWrap : State :=
  State.reset.withLog ⟨[numbered 0xFFFFFFFE, numbered 0xFFFFFFFF, numbered 1], 2, true, 65535⟩

/-- Read Log after the wrap (R160): from 1 the record 1, from 4294967290 all three, from 2 none. -/
theorem test_read_log_after_the_wrap :
    ([[0, 0, 0, 1, 10], [0xFF, 0xFF, 0xFF, 0xFA, 10], [0, 0, 0, 2, 10]].map fun p =>
        (after (.readLog .service 1 p) pastWrap).service.output.map fun f => (f.payload.drop 1).head?) =
      [[some 1], [some 3], [some 0]] := by
  decide

/-- A word takes one value and no second one (R183). -/
theorem test_factory_word :
    let t := run [.programFactoryWord .service 1 [4, 0, 9], .factoryWriteComplete 9, .programFactoryWord .service 2 [4, 0, 8]]
      State.reset
    (t.store.words[4], t.service.output.map fun f => f.payload) = (9, [[0x00, 4, 0, 9], [0x16]]) := by
  decide

/-- Set Budget brings a value above 6000 down (R38). -/
theorem test_set_budget_clamps :
    let t := after (.setBudget .service 1 [0xFF, 0xFF, 0x02, 0x58]) State.reset
    (t.settings.offBudget, t.settings.onBudget, t.service.output.map fun f => f.payload) =
      (6000, 600, [[0x01, 0x17, 0x70, 0x02, 0x58]]) := by
  decide

/-! ### Witnesses

One theorem for each statement that has hypotheses: states and operands that meet them, clause by clause, at the ends of
their ranges. -/

/-- The state after reset, with four frames waiting on the host link. -/
def crowded : State := State.reset.withHost (LinkState.fresh (List.replicate 4 ⟨0x40, 0, []⟩))

/-- The state after reset, with the host link waiting for a save. -/
def saving : State := after (.saveSettings .host 9 []) State.reset

/-- The state after reset, with the reply of a Reset Supervisor still to leave the service link. -/
def leaving : State := after (.resetSupervisor .service 9 []) State.reset

theorem test_witness_StepRunsFrontCommand :
    (State.reset.withPending [.tachPulse, .fanPeriodExpiry]).pending = .tachPulse :: [.fanPeriodExpiry] ∧
      State.reset.pending = [] := by
  decide

theorem test_witness_WireFrameIsTakenAsItsCommand :
    (List.replicate 200 (0 : Byte)).length ≤ 200 ∧ receiving State.reset = true ∧
      (State.reset.link .host).receiver = .hunting ∧ (State.reset.link .service).receiver = .hunting := by
  decide

theorem test_witness_FrameAndCommandAgree :
    let i : Instr := .nonRequestFrame .host 0x40 7 (List.replicate 200 0)
    i.wellFormed = true ∧ frameOfCommand i = some (.host, ⟨0x40, 7, List.replicate 200 0⟩) ∧
      (0x40 ≤ (0x40 : Byte).toNat ∧ 0x23 ≤ (0x23 : Byte).toNat ∧ (0x3F : Byte).toNat ≤ 0x3F) := by
  decide

theorem test_witness_ReceiveErrorsAreCounted :
    receiving State.reset = true ∧ (1 : Byte).toNat < 2 ∧ 202 < (203 : Byte).toNat ∧
      (2 ≤ (2 : Byte).toNat ∧ (2 : Byte).toNat ≤ 202 ∧ ([2, 7] : List Byte).length = (2 : Byte).toNat ∧
        (0 : Half) ≠ crc16 [2, 2, 7] ∧ 0x5A ∉ ([2, 2, 7] : List Byte) ∧ 0x5A ∉ halfBytes 0) ∧
      (([1, 0x5A, 2, 2, 7] : List Byte).length = (5 : Byte).toNat ∧ (0xB479 : Half) ≠ crc16 [5, 1, 0x5A, 2, 2, 7] ∧
        [5, 1, 0x5A, 2, 2, 7] ++ halfBytes 0xB479 = [5, 1] ++ (Frame.mk 2 7 []).wire ∧ 0x5A ∉ ([5, 1] : List Byte) ∧
        (Frame.mk 2 7 []).payload.length ≤ 200 ∧ (State.reset.link .host).receiver = .hunting) ∧
      (let s := setReceiver .service (.assembling [2, 0x5A] 3) State.reset
       receiving s = true ∧ (s.link .service).receiver = .assembling [2, 0x5A] 3) ∧
      ((State.reset.link .service).receiver = .hunting ∧ (202 : Byte).toNat ≤ 202 ∧
        ([1, 2, 3] : List Byte).length < (2 : Byte).toNat + 2) ∧
      0x5A ∉ ([0x5B, 0x59] : List Byte) := by
  decide

/-- A frame inside a frame that fails its check is taken, once the failure is counted (R164). -/
theorem test_frame_inside_a_failed_frame :
    let t := after (.crcError .service [5, 1, 0x5A, 2, 2, 7] 0xB479) State.reset
    t.service.crcErrors = 1 ∧ t.service.output.map (fun f => (f.kind, f.tag)) = [(0x82, 7)] := by
  decide

theorem test_witness_DispatchTestsRefuse :
    receiving State.reset = true ∧
      (0x40 ≤ (0x40 : Byte).toNat ∧ 0x40 ≤ (0xFF : Byte).toNat ∧ (0 : Byte) = 0) ∧
      (0x23 ≤ (0x23 : Byte).toNat ∧ (0x3F : Byte).toNat ≤ 0x3F) ∧
      (receiving saving = true ∧ (saving.link .host).waiting = true) ∧
      Dispatches .service State.reset ∧ Dispatches .host State.reset := by
  decide

theorem test_witness_WrongLengthIsRefused :
    Dispatches .host State.reset ∧ payloadLength 0x01 = some 0 ∧ payloadLength 0x22 = some 0 ∧
      payloadLength 0x16 = some 21 ∧ (List.replicate 20 (0 : Byte)).length ≠ 21 ∧ ((0x22 : Byte) ≠ 0x0C) ∧
      (headLength 0x18 = some 10 ∧ (List.replicate 9 (0 : Byte)).length < 10 ∧ headLength 0x1B = some 1 ∧
        ([] : List Byte).length < 1) ∧
      (countedLength 0x13 [3, 8, 0] = some 34 ∧ ([3, 8, 0] : List Byte).length ≠ 34 ∧
        countedLength 0x15 [0, 0, 0, 0, 0, 4] = some 22 ∧ countedLength 0x18 [0, 0, 0, 0, 0, 0, 0, 0, 7, 4] = some 26 ∧
        countedLength 0x19 [47, 1] = some 4 ∧ countedLength 0x19 [0, 48, 1, 1] = some 98 ∧
        countedLength 0x1B [6] = some 31 ∧ countedLength 0x1B [1, 0] = some 6) := by
  decide

theorem test_witness_ReceiversAreDeafThroughResets :
    receiving leaving = false ∧ receiving (after .pinReset State.reset) = false := by
  decide

theorem test_witness_FramesLeaveInOrderAndAResetMayFollow :
    ((State.reset.link .host).output.length < 4 ∧ 4 ≤ (crowded.link .host).output.length) ∧
      ((65535 : Nat) ≤ 65535 ∧ (State.reset.link .host).output = ⟨0x40, 0, [9, 3, 0]⟩ :: [] ∧
        State.reset.resetReply ≠ some .host ∧ (State.reset.link .service).output = []) ∧
      (Dispatches .service State.reset ∧ (State.reset.link .service).output.length < 4) ∧
      (Dispatches .host crowded ∧ 4 ≤ (crowded.link .host).output.length) ∧
      leaving.resetReply = some .service ∧ (leaving.link .service).output = ⟨0xA2, 9, [0x00]⟩ :: [] := by
  decide

/-- Also for IdentifyAndReadSensorsReply, whose one hypothesis is this. -/
theorem test_witness_requests_dispatch :
    Dispatches .host State.reset ∧ Dispatches .service State.reset ∧ Dispatches .host running ∧
      Dispatches .service booting ∧ Dispatches .host crowded := by
  decide

theorem test_witness_StatusReplyHasSeventyBytes :
    (Dispatches .host State.reset ∧ State.reset.seq.warning = none) ∧
      (let s := warned ⟨.powerFault, .cold 3600, 7, true⟩
       Dispatches .service s ∧ s.seq.warning = some ⟨.powerFault, .cold 3600, 7, true⟩ ∧
        12345 = (match s.seq.timers.grace with
          | some x => x.left
          | none => 0)) := by
  decide

theorem test_witness_LinkCountersAreReadAndCleared :
    Dispatches .host State.reset ∧ 1 < (2 : Byte).toNat ∧ 1 < (255 : Byte).toNat := by
  decide

theorem test_witness_AttentionIsRaisedReadAndCleared :
    holdsCause State.reset.causes .settings = true ∧
      (holdsCause running.causes .thermal = false ∧ holdsCause running.settings.mask .thermal = true) ∧
      (holdsCause (State.reset.withCauses 0).causes .log = false ∧ holdsCause State.reset.settings.mask .log = false) ∧
      State.reset.causes &&& ~~~causeWeights = 0 ∧ Dispatches .host State.reset := by
  decide

theorem test_witness_TimeBaseCountsAndIsSet :
    State.reset.resetting ≠ some .powerOn ∧ (after .powerOnReset State.reset).resetting = some .powerOn ∧
      Dispatches .service State.reset := by
  decide

theorem test_witness_ReadLogReturnsTheRunAskedFor :
    Dispatches .service State.reset ∧ LogLaw State.reset ∧ State.reset.log.wrapped = false ∧
      State.reset.log.ring.length < State.reset.log.nextSeq.toNat ∧ 0 < (1 : Byte).toNat ∧
      (Dispatches .host pastWrap ∧ LogLaw pastWrap ∧ pastWrap.log.wrapped = true ∧
        ((pastWrap.log.ring[2]?.map fun r => r.seq.toNat) = some 1) ∧
        ((pastWrap.log.ring.head?.map fun r => r.seq.toNat) = some 4294967294) ∧
        (∀ r ∈ pastWrap.log.ring, r.seq.toNat ≠ 4294967290) ∧ ∀ r ∈ pastWrap.log.ring, r.seq.toNat ≠ 2) := by
  decide

theorem test_witness_settings_in_range : SettingsInRange Settings.defaults := by
  refine ⟨by decide, by decide, by decide, by decide, by decide, by decide, by decide, by decide, by decide, by decide⟩

theorem test_witness_ReadSettingsReturnsTheGroup :
    Dispatches .service State.reset ∧ SettingsInRange State.reset.settings ∧ (0 : Byte).toNat ≤ 10 ∧ (10 : Byte).toNat ≤ 10 ∧
      10 < (11 : Byte).toNat ∧ timingPayload State.reset.settings.timing = timingPayload Settings.defaults.timing :=
  ⟨by decide, test_witness_settings_in_range, by decide, by decide, by decide, rfl⟩

theorem test_witness_SavedSettingsOutliveThePower :
    (Dispatches .service State.reset ∧ State.reset.store.imageWrite = none) ∧
      (Dispatches .service saving ∧ saving.store.imageWrite.isSome = true) ∧
      saving.store.imageWrite = some ⟨Settings.defaults, some (.host, 9)⟩ ∧
      (after .pinReset saving).store.imageWrite = some ⟨Settings.defaults, none⟩ := by
  decide

/-- Saved settings other than the defaults outlive the supply. -/
theorem test_saved_settings_outlive_the_power :
    let s := run [.setBudget .host 1 [0, 7, 0, 9], .saveSettings .host 2 []] State.reset
    ((run [.saveComplete true, .powerOnReset, .resetEnd] s).settings.offBudget,
      (run [.saveComplete false, .powerOnReset, .resetEnd] s).settings.offBudget,
      (run [.powerOnReset, .resetEnd] s).settings.offBudget) = (7, 1200, 1200) := by
  decide

theorem test_witness_FactoryWordIsWrittenOnce :
    (Dispatches .service State.reset ∧ ((0xFF : Byte) ++ (0xFE : Byte) ≠ (0xFFFF : Half)) ∧
        State.reset.store.words[(31 : Fin 32)] = 0xFFFF) ∧
      (31 < (32 : Byte).toNat ∧ ((0xFF : Byte) ++ (0xFF : Byte) = (0xFFFF : Half))) ∧
      (let s := run [.programFactoryWord .service 1 [4, 0, 9], .factoryWriteComplete 9] State.reset
       Dispatches .service s ∧ s.store.words[(4 : Fin 32)] ≠ 0xFFFF) ∧
      (after (.programFactoryWord .service 1 [4, 0, 9]) State.reset).store.wordWrite = some ⟨4, 9, some 1⟩ := by
  decide

theorem test_witness_FactoryWordsAreRead :
    (Dispatches .host State.reset ∧ (31 : Byte).toNat ≤ 31 ∧ 1 ≤ (1 : Byte).toNat ∧
        (31 : Byte).toNat + (1 : Byte).toNat ≤ 32) ∧
      (31 < (32 : Byte).toNat ∧ (0 : Byte).toNat = 0 ∧ 32 < (31 : Byte).toNat + (2 : Byte).toNat) ∧
      (let s := after (.programFactoryWord .service 1 [4, 0, 9]) State.reset
       Dispatches .host s ∧ StoreLaw s ∧ s.store.wordWrite = some ⟨4, 9, some 1⟩) := by
  decide

/-- The state after reset, with a cell write in progress. -/
def flipping : State := flipSlot State.reset

theorem test_witness_BootSlotCellSurvivesThePower :
    (flipping.store.cellWrite = some ⟨true, ⟨true, 1, 1, true⟩⟩ ∧ flipping.store.cellQueued = false) ∧
      (let s := flipSlot (after .cellWriteComplete flipping)
       s.store.cellWrite = some ⟨false, ⟨false, 2, 2, true⟩⟩ ∧ s.store.cellQueued = false) ∧
      ((flipSlot flipping).store.cellWrite = some ⟨true, ⟨true, 1, 1, true⟩⟩ ∧
        (flipSlot flipping).store.cellQueued = true) ∧
      (let s := after .cellWriteComplete flipping
       s.store.cellWrite = none ∧ (after .powerOnReset s).store.slot = s.store.slot ∧
        (after .powerOnReset s).store.flips = s.store.flips ∧ s.store.copyA.valid = true ∧ s.store.copyB.valid = false) ∧
      (State.reset.store.copyA.valid = false ∧ State.reset.store.copyB.valid = false) ∧
      (let s := after .cellWriteComplete (flipSlot (after .cellWriteComplete flipping))
       s.store.cellWrite = none ∧ s.store.copyA.valid = true ∧ s.store.copyB.valid = true ∧
        s.store.copyB.writeNumber = s.store.copyA.writeNumber + 1) := by
  decide

/-- A write that was queued carries the newest contents, to the other copy, with the next number (R182). -/
theorem test_queued_cell_write :
    (after .cellWriteComplete (flipSlot flipping)).store.cellWrite = some ⟨false, ⟨false, 2, 2, true⟩⟩ := by
  decide

theorem test_witness_ResetsBegin :
    State.reset.resetting ≠ some .powerOn ∧ saving.resetting ≠ some .powerOn ∧ leaving.resetReply.isSome = true ∧
      (leaving.resetReply = some .service ∧ (leaving.link .service).output = ⟨0xA2, 9, [0x00]⟩ :: []) := by
  decide

/-- The settings law of a state that holds the defaults and saves nothing. -/
theorem settingsLaw_of_defaults (s : State) (h : s.settings = Settings.defaults) (hi : s.store.imageWrite = none)
    (hc : s.store.image.checks = false) : SettingsLaw s :=
  ⟨h ▸ test_witness_settings_in_range, by simp [hi], by simp [hc]⟩

theorem test_lawful_with_a_command_waiting : Lawful (State.reset.withPending [.tachPulse]) := by
  refine ⟨settingsLaw_of_defaults _ rfl rfl rfl, by decide, by decide, by decide, by decide, by decide,
    by decide, by decide, by decide, by decide, by decide, by decide, by decide⟩

/-- For the six statements that every step keeps the laws (StepKeepsSettingsInRange and those that follow it). -/
theorem test_witness_StepKeepsTheLaws :
    ∃ t, Lawful (State.reset.withPending [.tachPulse]) ∧ step (State.reset.withPending [.tachPulse]) = .next t :=
  ⟨_, test_lawful_with_a_command_waiting, rfl⟩

theorem test_lawful_through_a_pin_reset : Lawful (after .pinReset booting) := by
  refine ⟨settingsLaw_of_defaults _ rfl rfl rfl, by decide, by decide, by decide, by decide, by decide,
    by decide, by decide, by decide, by decide, by decide, by decide, by decide⟩

theorem test_lawful_through_a_pin_reset_without_power_good : Lawful (after .pinReset running) := by
  refine ⟨settingsLaw_of_defaults _ rfl rfl rfl, by decide, by decide, by decide, by decide, by decide,
    by decide, by decide, by decide, by decide, by decide, by decide, by decide⟩

theorem test_lawful_through_a_power_on_reset : Lawful (after .powerOnReset State.reset) := by
  refine ⟨settingsLaw_of_defaults _ rfl rfl rfl, by decide, by decide, by decide, by decide, by decide,
    by decide, by decide, by decide, by decide, by decide, by decide, by decide⟩

/-- No persistent write is in progress. -/
abbrev StoreIdle (st : Store) : Prop := st.imageWrite = none ∧ st.cellWrite = none ∧ st.wordWrite = none

/-- The state after reset, taken to OFF. -/
def off : State := enterState .off State.reset

/-- A link reset through which the settings say that the computer is not started. -/
def unattended : State :=
  beginReset .link
    (off.withSettings { Settings.defaults with timing := { Settings.defaults.timing with autostart := false } })

/-- A link reset through which no zone has its gate flag set. -/
def ungated : State :=
  beginReset .link
    (off.withSettings
      { Settings.defaults with zones := mapEach (fun z => { z with gateFlag := false }) Settings.defaults.zones })

/-- The settings law of a state that holds the defaults, but for the gate flags and autostart, and saves nothing. -/
theorem settingsLaw_of_zones_and_timing (s : State) (zones : Vector ZoneSettings 4) (timing : TimingSettings)
    (h : s.settings = { Settings.defaults with zones := zones, timing := timing })
    (hz : ∀ z : Zone, ZoneInRange zones[z] ∧ CurveInRange 8 0 1000 zones[z].curve) (ht : TimingInRange timing)
    (hi : s.store.imageWrite = none) (hc : s.store.image.checks = false) : SettingsLaw s :=
  have d := test_witness_settings_in_range
  ⟨h ▸ ⟨hz, d.2.1, d.2.2.1, d.2.2.2.1, d.2.2.2.2.1, d.2.2.2.2.2.1, d.2.2.2.2.2.2.1, d.2.2.2.2.2.2.2.1, ht,
    d.2.2.2.2.2.2.2.2.2⟩, by simp [hi], by simp [hc]⟩

theorem test_lawful_through_a_link_reset : Lawful unattended := by
  refine ⟨settingsLaw_of_zones_and_timing _ _ _ rfl (by decide) (by decide) rfl rfl, by decide, by decide, by decide,
    by decide, by decide, by decide, by decide, by decide, by decide, by decide, by decide, by decide⟩

theorem test_lawful_through_a_link_reset_without_gates : Lawful ungated := by
  refine ⟨settingsLaw_of_zones_and_timing _ _ _ rfl (by decide) (by decide) rfl rfl, by decide, by decide, by decide,
    by decide, by decide, by decide, by decide, by decide, by decide, by decide, by decide, by decide⟩

/-- What RESET_END sets (Tables 1-8, 2-11, 3-6 and 7-6): the default zones have gate flags, the largest debounce time is 40 ms. -/
theorem test_blocks_after_a_reset :
    let t := after .resetEnd (after .pinReset running)
    t.meas.current = some (.scan 0) ∧ t.zones[(0 : Zone)].frame = some 0 ∧ t.zones[(1 : Zone)].frame = none ∧
      t.thermal.startPermitted = false ∧ t.keypad.row = some 0 ∧ t.keypad.debounceTime = 40 ∧
      t.keypad.debounceCount = 63 := by
  decide

/-- A reset of each kind that can end, with the computer powered and HPG present, powered and HPG absent, and not powered, with a
bad image and without one, with autostart and without. -/
theorem test_witness_ResetsEnd :
    (Lawful (after .powerOnReset State.reset) ∧ (after .powerOnReset State.reset).resetting = some .powerOn ∧
        StoreIdle (after .powerOnReset State.reset).store ∧ (after .powerOnReset State.reset).seq.hpwrEn = false) ∧
      (Lawful (after .pinReset booting) ∧ (after .pinReset booting).resetting = some .pin ∧
        StoreIdle (after .pinReset booting).store ∧ (after .pinReset booting).seq.hpwrEn = true ∧
        (after .pinReset booting).seq.hpg = true) ∧
      (Lawful (after .pinReset running) ∧ (after .pinReset running).resetting = some .pin ∧
        StoreIdle (after .pinReset running).store ∧ (after .pinReset running).seq.hpwrEn = true ∧
        (after .pinReset running).seq.hpg = false ∧
        true = (decide (ResetKind.pin ≠ .link) && !((after .pinReset running).store.image.checks &&
          decide ((after .pinReset running).store.image.revision = 1)))) ∧
      (Lawful unattended ∧ unattended.resetting = some .link ∧ StoreIdle unattended.store ∧
        unattended.seq.hpwrEn = false ∧ (after .resetEnd unattended).settings.timing.autostart = false ∧
        false = (decide (ResetKind.link ≠ .link) && !(unattended.store.image.checks &&
          decide (unattended.store.image.revision = 1)))) ∧
      (Lawful ungated ∧ ungated.resetting = some .link ∧ StoreIdle ungated.store ∧ ungated.seq.hpwrEn = false ∧
        (after .resetEnd ungated).settings.timing.autostart = true ∧
        ∀ z : Zone, (after .resetEnd ungated).settings.zones[z].gateFlag = false) ∧
      ((after .pinReset saving).resetting = some .pin ∧ (ResetKind.pin ≠ .powerOn) ∧
        (after .pinReset saving).store.imageWrite ≠ none ∧ State.reset.resetting = none) :=
  ⟨⟨test_lawful_through_a_power_on_reset, by decide⟩, ⟨test_lawful_through_a_pin_reset, by decide⟩,
    ⟨test_lawful_through_a_pin_reset_without_power_good, by decide⟩, ⟨test_lawful_through_a_link_reset, by decide⟩,
    ⟨test_lawful_through_a_link_reset_without_gates, by decide⟩, by decide⟩

/-- A state with a conversion in progress. -/
def converting (c : Conversion) (s : State) : State := s.withMeas { s.meas with current := some c }

theorem test_witness_ScanConversionUpdatesItsChannel :
    State.reset.meas.current = some (.scan 0) ∧ State.reset.meas.fault = false ∧
      State.reset.meas.channels[(0 : Channel)].accumulator = none ∧ State.reset.meas.oneShots = [] ∧
      ((-400, 1650) = calibration State.reset.store.words 0 ∧
        (-800, 2500) = calibration (put (put State.reset.store.words 18 0x8000) 19 0xFFFE) 7) ∧
      State.reset.meas.todo = 1 :: [2, 3, 4, 5, 6, 7] ∧ (0 : Channel) ≠ State.reset.settings.keypad.channel ∧
      (let s := run [.converterFault 100, .sampleChannel .service 3 [9]]
        (converting .reference (State.reset.withMeas { State.reset.meas with failCount := 1 }))
       s.meas.current = some (.scan 0) ∧ s.meas.fault = true ∧ s.meas.oneShots ≠ []) ∧
      (let s := converting (.scan 7) ((allAt 450 State.reset).withMeas { (allAt 450 State.reset).meas with todo := [] })
       s.meas.current = some (.scan 7) ∧ s.meas.channels[(7 : Channel)].accumulator = some 744 ∧ s.meas.oneShots = [] ∧
        s.meas.todo = []) ∧
      ((converting (.scan 3) State.reset).meas.current = some (.scan 3) ∧
        (3 : Channel) = State.reset.settings.keypad.channel) := by
  decide

theorem test_witness_ReferenceCheckMovesTheConverterStatus :
    let s := converting .reference State.reset
    let failed := s.withMeas { s.meas with failCount := 1 }
    let faulty := converting .reference (after (.converterFault 0) failed)
    let recovering := faulty.withMeas { faulty.meas with refPtr := .lo, passCount := 2 }
    let enabling := s.withMeas { s.meas with enabled := 0x7F }
    let disabling := enabling.withSettings { enabling.settings with channelEnable := 0 }
    (enabling.meas.enabled.getLsbD 7 ≠ enabling.settings.channelEnable.getLsbD 7 ∧
        (after (.referenceConversionComplete 1015) enabling).meas.channels[(7 : Channel)].reason = .noData ∧
        (after (.referenceConversionComplete 1015) enabling).meas.current = some (.scan 0)) ∧
      (disabling.meas.current = some .reference ∧ disabling.meas.oneShots = [] ∧
        disabling.meas.enabled.getLsbD 6 ≠ disabling.settings.channelEnable.getLsbD 6 ∧
        disabling.meas.enabled.getLsbD 7 = disabling.settings.channelEnable.getLsbD 7 ∧
        (after (.referenceConversionComplete 1015) disabling).meas.current = some .reference) ∧
      (s.meas.refPtr = .hi ∧ s.meas.fault = false ∧ (after (.referenceConversionComplete 1015) s).meas.failCount < 2) ∧
      (failed.meas.fault = false ∧ (after (.referenceConversionComplete 1014) failed).meas.failCount = 2) ∧
      (faulty.meas.fault = true ∧ faulty.meas.refPtr = .mid ∧
        (after (.referenceConversionComplete 520) faulty).meas.passCount < 3) ∧
      (recovering.meas.fault = true ∧ (after (.referenceConversionComplete 8) recovering).meas.passCount = 3) := by
  decide

theorem test_witness_OneShotIsQueuedAndAnswered :
    Dispatches .host State.reset ∧ Dispatches .service State.reset ∧ 10 < (11 : Byte).toNat ∧
      (let s := run [.sampleChannel .service 3 [10], .sampleChannel .host 4 [0], .scanConversionComplete 5] State.reset
       let last := s.withMeas { s.meas with oneShots := [⟨.host, 4, 0⟩] }
       let done := last.withMeas { last.meas with todo := [] }
       (s.meas.current = some .oneShot ∧ s.meas.oneShots = ⟨.service, 3, 10⟩ :: [⟨.host, 4, 0⟩]) ∧
        (last.meas.current = some .oneShot ∧ last.meas.oneShots = ⟨.host, 4, 0⟩ :: [] ∧
          last.meas.todo = 1 :: [2, 3, 4, 5, 6, 7]) ∧
        (done.meas.current = some .oneShot ∧ done.meas.oneShots = ⟨.host, 4, 0⟩ :: [] ∧ done.meas.todo = [])) := by
  decide

theorem test_witness_AllocationSharesTheBudget :
    State.reset.thermal.allocationTimer.isSome = true ∧ State.reset.seq.hpwrEn = false ∧ running.seq.hpwrEn = true ∧
      (let s := allAt (-280) State.reset
       let t := after .allocationPeriodExpiry s
       (s.zones[(2 : Zone)].priority < s.zones[(0 : Zone)].priority) ∧ 0 < t.zones[(0 : Zone)].grantedPower) ∧
      ((-300 : Int) ≤ -300 ∧ ascending ([⟨-300, 1000⟩, ⟨-100, 600⟩] ++ [⟨100, 0⟩]) = true ∧ (100 : Int) ≤ 100 ∧
        ascending ([⟨-300, 1000⟩] ++ ⟨-100, 600⟩ :: ⟨100, 0⟩ :: []) = true ∧ (-100 : Int) ≤ -100 ∧ (-100 : Int) < 100) ∧
      (curveValue [⟨-300, 1000⟩, ⟨-100, 600⟩, ⟨100, 0⟩] (-280), curveValue [⟨-300, 1000⟩, ⟨-100, 600⟩, ⟨100, 0⟩] (-100)) =
        (960, 600) := by
  decide

/-- A warm part whose HZ2 was just made a gate zone, with a gate hold in s. -/
def newlyFlagged (hold : Nat) : State :=
  let s := allAt 450 State.reset
  (s.withZones (put s.zones 2 { s.zones[(2 : Zone)] with lastFlag := false, gate := .released })).withSettings
    { s.settings with limits := { s.settings.limits with gateHold := hold } }

/-- A zone newly flagged and warm passes to RELEASED at once with a gate hold of 0, and counts with another (R41, R43). -/
theorem test_gate_release_of_a_new_gate_zone :
    (((after (.gateRelease 2) (newlyFlagged 0)).zones[(2 : Zone)].gate,
        (after (.gateRelease 2) (newlyFlagged 0)).zones[(2 : Zone)].lastFlag) = (.released, true)) ∧
      (after (.gateRelease 2) (newlyFlagged 1)).zones[(2 : Zone)].lastFlag = false ∧
      (after .allocationPeriodExpiry (newlyFlagged 1)).zones[(2 : Zone)].gate = .counting := by
  decide

theorem test_witness_GateEvaluationPermitsTheStart :
    let cold := allAt (-280) State.reset
    let warm := allAt 450 State.reset
    let counting := run (List.replicate 240 .allocationPeriodExpiry) warm
    (cold.thermal.allocationTimer.isSome = true ∧ cold.settings.zones[(3 : Zone)].gateFlag = false ∧
        cold.settings.zones[(0 : Zone)].gateFlag = true ∧ zoneWarm cold 0 = false) ∧
      (warm.settings.zones[(2 : Zone)].gateFlag = true ∧ warm.zones[(2 : Zone)].lastFlag = true ∧ zoneWarm warm 2 = true ∧
        warm.zones[(2 : Zone)].gate = .blocking ∧ 0 < warm.settings.limits.gateHold) ∧
      (counting.zones[(2 : Zone)].gate = .counting ∧ zoneWarm counting 2 = true ∧
        counting.zones[(2 : Zone)].lastFlag = true ∧ counting.seq.state = .warming ∧
        counting.zones[(2 : Zone)].gateLength ≤ counting.zones[(2 : Zone)].gateTimer + 250 ∧
        counting.thermal.startPermitted = false ∧
        (after .allocationPeriodExpiry counting).thermal.startPermitted = true) ∧
      running.seq.state ≠ .warming ∧ cold.zones[(0 : Zone)].gate = .blocking ∧ cold.zones[(0 : Zone)].lastFlag = true ∧
      ((newlyFlagged 0).settings.zones[(2 : Zone)].gateFlag = true ∧ (newlyFlagged 0).zones[(2 : Zone)].lastFlag = false ∧
        zoneWarm (newlyFlagged 0) 2 = true ∧ (newlyFlagged 0).settings.limits.gateHold = 0 ∧
        (newlyFlagged 0).thermal.allocationTimer.isSome = true ∧ 0 < (newlyFlagged 1).settings.limits.gateHold) ∧
      (let released := after .allocationPeriodExpiry counting
       released.zones[(2 : Zone)].gate = .released ∧ released.zones[(2 : Zone)].lastFlag = true ∧
        released.settings.zones[(2 : Zone)].gateFlag = true ∧ zoneWarm released 2 = true) ∧
      ((after .allocationPeriodExpiry warm).zones[(2 : Zone)].gate = .counting ∧
        (after .allocationPeriodExpiry warm).zones[(2 : Zone)].gateTimer + 250 <
          (after .allocationPeriodExpiry warm).zones[(2 : Zone)].gateLength) ∧
      (after .pinReset warm).thermal.allocationTimer = none := by
  decide

/-- A drive frame of HTR0 at a time in 0.1 ms, with a granted duty. -/
def driving (elapsed duty : Nat) : State :=
  State.reset.withZones (put State.reset.zones 0 { State.reset.zones[(0 : Zone)] with frame := some elapsed, grantedDuty := duty })

theorem test_witness_DriveFramesFollowTheGrant :
    State.reset.resetting = none ∧ State.reset.zones[(0 : Zone)].frame = some 0 ∧
      State.reset.zones[(1 : Zone)].frame = none ∧ (after .pinReset State.reset).resetting.isSome = true ∧
      ((driving 990 999).zones[(0 : Zone)].frame = some 990 ∧ (driving 990 999).zones[(0 : Zone)].grantedDuty < 1000 ∧
        990 ≤ (driving 990 999).zones[(0 : Zone)].grantedDuty ∧
        (driving 990 999).zones[(0 : Zone)].grantedDuty < 990 / 10 * 10 + 10) ∧
      (0 ≤ (driving 0 0).zones[(0 : Zone)].grantedDuty ∧ (driving 0 0).zones[(0 : Zone)].grantedDuty < 0 / 10 * 10 + 10) ∧
      (245 / 10 * 10 + 10 ≤ (driving 245 250).zones[(0 : Zone)].grantedDuty ∧
        (driving 246 245).zones[(0 : Zone)].grantedDuty < 246) ∧
      (1000 ≤ (driving 999 1000).zones[(0 : Zone)].grantedDuty ∧ (driving 999 1000).zones[(0 : Zone)].frame = some 999) := by
  decide

theorem test_witness_ClimateSettingsInRangeAreApplied :
    (ZoneInRange ⟨7, 2000, 1000, 15, true, -400, []⟩ ∧ ZoneInRange ⟨0, 0, 0, 0, false, 600, []⟩) ∧
      (CurveInRange 8 0 1000 [⟨-550, 1000⟩] ∧
        CurveInRange 8 0 1000
          [⟨-550, 0⟩, ⟨-300, 1⟩, ⟨-100, 2⟩, ⟨0, 3⟩, ⟨1, 1000⟩, ⟨100, 500⟩, ⟨200, 7⟩, ⟨1250, 1000⟩]) ∧
      FanInRange ⟨0xFF, 1000, 10000, [⟨1250, 1000⟩]⟩ ∧
      LimitsInRange
        { Settings.defaults.limits with
          tripTemperature := 1250, tripHold := 60, resumeTemperature := 1249, resumeHold := 600, serviceCount := 1 } ∧
      Dispatches .host running ∧
      (1 ≤ ([(0x8000, 0xFFFF)] : List (Half × Half)).length ∧ ([(0x8000, 0xFFFF)] : List (Half × Half)).length ≤ 4 ∧
        ascending (([(0x8000, 0xFFFF), (0x7FFF, 0)] : List (Half × Half)).map
          fun p => ⟨max (-550) (min p.1.toInt 1250), min p.2.toNat 1000⟩) = true) ∧
      max (-550) (min (0x8000 : Half).toInt 1250) < max (-550) (min (0x7FFF : Half).toInt 1250) := by
  decide

/-- Set Zone with every field above its range (R34). -/
theorem test_set_zone_clamps :
    let t := after (.setZone .service 1 [3, 7, 0xFF, 0xFF, 0xFF, 0xFF, 0xFF, 2, 0x80, 0]) State.reset
    (t.settings.zones[(3 : Zone)], t.service.output) =
      (⟨7, 2000, 1000, 15, true, -400, State.reset.settings.zones[(3 : Zone)].curve⟩,
        [⟨0x92, 1, [0x01, 3, 7, 0x07, 0xD0, 0x03, 0xE8, 15, 1, 0xFE, 0x70]⟩]) := by
  decide

theorem test_witness_StructuralErrorsChangeNothing :
    Dispatches .host State.reset ∧ (3 < (4 : Byte).toNat ∧ 7 < (8 : Byte).toNat) ∧
      (8 < (9 : Byte).toNat ∧ ([(10, 0), (10, 0)] : List (Half × Half)).length = (2 : Byte).toNat ∧
        ([0, 10, 0, 0, 0, 10, 0, 0] : List Byte) =
          ([(10, 0), (10, 0)] : List (Half × Half)).flatMap (fun p => halfBytes p.1 ++ halfBytes p.2) ∧
        ascending (([(10, 0), (10, 0)] : List (Half × Half)).map
          fun p => ⟨max (-550) (min p.1.toInt 1250), min p.2.toNat 1000⟩) = false) ∧
      4 < (5 : Byte).toNat ∧ (List.replicate 14 (0 : Byte)).length = 14 ∧ 6 < (7 : Byte).toNat ∧
      ((List.replicate 12 (0 : Byte)).length = 12 ∧
        max (-550) (min (0x7FFF : Half).toInt 1250) ≤ max (-550) (min (0x04E2 : Half).toInt 1250)) ∧
      ((List.replicate 8 (0 : Byte)).length = 8 ∧
        ([0x80, 0, 0, 0, 0xFD, 0xDA, 0, 0] : List Byte) =
          ([(0x8000, 0), (0xFDDA, 0)] : List (Half × Half)).flatMap (fun p => halfBytes p.1 ++ halfBytes p.2) ∧
        ascending (([(0x8000, 0), (0xFDDA, 0)] : List (Half × Half)).map
          fun p => ⟨max (-550) (min p.1.toInt 1250), max 2 (min p.2.toNat 100)⟩) = false) ∧
      (47 < (48 : Byte).toNat ∧ 48 < (47 : Byte).toNat + (2 : Byte).toNat) ∧
      (((List.range 48).filter fun p => (1 : BitVec 48).getLsbD p).length < 2 ∧
        4 < ((List.range 48).filter fun p => (0x1F : BitVec 48).getLsbD p).length ∧
        (∃ p : Position, (0x3 : BitVec 48).getLsbD p.val = true ∧ (0x2 : BitVec 48).getLsbD p.val = true)) := by
  decide

theorem test_witness_SetBudgetReplacesBothBudgets :
    Dispatches .service State.reset ∧ ([1, 2, 3] : List Byte).length ≠ 4 ∧
      State.reset.thermal.allocationTimer.isSome = true ∧
      exec .allocationPeriodExpiry State.reset = .next (after .allocationPeriodExpiry State.reset) :=
  ⟨by decide, by decide, by decide, rfl⟩

theorem test_witness_WarmTimeoutStartsOrHolds :
    State.reset.thermal.warmTimer.isSome = true ∧ State.reset.seq.state = .warming ∧
      State.reset.settings.limits.warmStart = false ∧ State.reset.thermal.tripped = false ∧
      (let s := State.reset.withSettings
        { State.reset.settings with limits := { State.reset.settings.limits with warmStart := true } }
       s.thermal.warmTimer.isSome = true ∧ s.seq.state = .warming ∧ s.settings.limits.warmStart = true ∧
        s.thermal.tripped = false) := by
  decide

theorem test_witness_FanPeriodsMeasureAndJudge :
    let s := State.reset
    let stalled := s.withThermal { s.thermal with stall := 2 }
    let faulty := s.withThermal { s.thermal with fanFault := true, tach := 20, recovery := 1 }
    s.thermal.fanTimer.isSome = true ∧ (2185 : Nat) * 30 > 65535 ∧
      (s.thermal.fanFault = false ∧ 250 ≤ s.thermal.fanDuty ∧ min (s.thermal.tach * 30) 65535 < s.settings.fan.stallSpeed ∧
        s.thermal.stall < 2) ∧
      (stalled.thermal.fanFault = false ∧ 2 ≤ stalled.thermal.stall) ∧
      (faulty.thermal.fanFault = true ∧ faulty.settings.fan.stallSpeed ≤ min (faulty.thermal.tach * 30) 65535 ∧
        faulty.thermal.recovery < 2) ∧
      ¬ (250 ≤ (249 : Nat) ∧ (0 : Nat) < s.settings.fan.stallSpeed) ∧
      (∀ c : Channel, s.settings.fan.mask.getLsbD c.val = true → reading s c = none) ∧
      (let warm := allAt 300 s
       warm.meas.fault = false ∧ warm.settings.fan.mask.getLsbD 5 = true ∧ reading warm 5 = some 300 ∧
        ∀ d : Channel, reading warm d = some 300) := by
  decide

theorem test_witness_FilterWatchCountsStrainedMinutes :
    State.reset.thermal.minuteTimer.isSome = true ∧ State.reset.thermal.filterSet = false ∧
      0 < State.reset.settings.limits.serviceCount ∧
      (let s := (allAt 450 State.reset).withThermal { State.reset.thermal with watch := 240 }
       let hot := s.withSettings { s.settings with limits := { s.settings.limits with rise := 0 } }
       reading hot hot.settings.limits.board = some 450 ∧ reading hot hot.settings.limits.inlet = some 450 ∧
        hot.thermal.filterSet = false ∧ hot.settings.limits.serviceCount ≤ hot.thermal.watch + 1 ∧
        (after .filterService hot).thermal.filterSet = true) := by
  decide

theorem test_witness_ClearFilterServiceRestartsTheWatch :
    Dispatches .host State.reset ∧ ([0] : List Byte) ≠ [] ∧
      exec .minuteExpiry State.reset = .next (after .minuteExpiry State.reset) ∧
      Dispatches .host (after .minuteExpiry State.reset) ∧ State.reset.thermal.minuteTimer.isSome = true :=
  ⟨by decide, by decide, rfl, by decide, by decide⟩

/-- RUNNING and hot, with the trip timer 100 ms short of its length. -/
def overheating : State :=
  allAt 850 (running.withThermal { running.thermal with tripTimer := some ⟨4900, 5000⟩ })

/-- TRIPPED and cool, with a resume timer. -/
def resuming (timer : Option Counter) (s : State) : State :=
  (allAt 700 s).withThermal { s.thermal with tripped := true, resumeTimer := timer }

/-- The trip hold and the resume hold set to 0. -/
def withoutHolds (s : State) : State :=
  s.withSettings { s.settings with limits := { s.settings.limits with tripHold := 0, resumeHold := 0 } }

theorem test_witness_OverheatMonitorTripsAndResumes :
    (State.reset.thermal.checkTimer.isSome = true ∧ State.reset.thermal.tripped = false ∧ monitorHot State.reset = false) ∧
      (overheating.thermal.checkTimer.isSome = true ∧ overheating.thermal.tripped = false ∧ monitorHot overheating = true ∧
        overheating.thermal.tripTimer = some ⟨4900, 5000⟩ ∧ 4800 + 100 < 5000 ∧ 5000 ≤ 4900 + 100 ∧
        overheating.seq.state = .running) ∧
      (let s := allAt 850 State.reset
       monitorHot s = true ∧ s.thermal.tripTimer = none ∧ 0 < s.settings.limits.tripHold ∧
        (withoutHolds s).settings.limits.tripHold = 0 ∧ (withoutHolds s).thermal.tripTimer = none ∧
        monitorHot (withoutHolds s) = true) ∧
      (let s := resuming (some ⟨59900, 60000⟩) State.reset
       s.thermal.checkTimer.isSome = true ∧ s.thermal.tripped = true ∧ monitorCool s = true ∧ 60000 ≤ 59900 + 100 ∧
        59800 + 100 < 60000 ∧ s.thermal.resumeTimer = some ⟨59900, 60000⟩ ∧ s.seq.state ≠ .cooling) ∧
      (let s := resuming none (enterState .cooling State.reset)
       s.thermal.checkTimer.isSome = true ∧ s.thermal.tripped = true ∧ monitorCool s = true ∧ s.seq.state = .cooling ∧
        s.thermal.resumeTimer = none ∧ 0 < s.settings.limits.resumeHold ∧
        (withoutHolds s).settings.limits.resumeHold = 0) ∧
      (let s := State.reset.withThermal { State.reset.thermal with tripped := true }
       s.thermal.tripped = true ∧ monitorCool s = false) ∧
      (let s := allAt 850 (booting.withThermal { booting.thermal with tripTimer := some ⟨4900, 5000⟩ })
       s.seq.state = .booting ∧ monitorHot s = true) := by
  decide

/-- A restart warning with 12.345 s of grace left becomes a thermal one with as much (R116), and with a thermal grace of 0 the
computer is switched off at once (log entry 19). -/
theorem test_trip_in_a_restart_warning :
    let s := (withoutHolds (allAt 850 (warned ⟨.checkinTimeout, .warm, 2, true⟩)))
    let t := after .thermalTrip s
    let u := after .thermalTrip
      (s.withSettings { s.settings with timing := { s.settings.timing with thermalGrace := 0 } })
    (t.seq.state, t.seq.timers.grace, u.seq.state, u.seq.hpwrEn) = (.warned, some ⟨12345, 12345⟩, .cooling, false) := by
  decide

theorem test_witness_StatesAreEnteredWithTheirLines :
    State.reset.thermal.startPermitted = false ∧ State.reset.seq.hpg = false ∧ booting.seq.hpg = true ∧
      0 < State.reset.settings.limits.warmTimeout ∧
      (State.reset.withThermal { State.reset.thermal with startPermitted := true }).thermal.startPermitted = true ∧
      (State.reset.withSettings { State.reset.settings with limits := { State.reset.settings.limits with warmTimeout := 0 } }
        ).settings.limits.warmTimeout = 0 := by
  decide

/-- STARTING/POWERING, with its HPG timeout. -/
def powering : State := inState .powering { SequencerTimers.stopped with hpg := some ⟨500, 500⟩ }

/-- STARTING/RESET_HOLD, with its reset hold, and HPG present. -/
def holding : State := setPowerGood true (inState .resetHold { SequencerTimers.stopped with resetHold := some ⟨100, 100⟩ })

/-- STOPPING, with its power-off timer, and HPG present. -/
def stopping : State := setPowerGood true (inState .stopping { SequencerTimers.stopped with powerOff := some ⟨5000, 5000⟩ })

theorem test_witness_PowerGoodRisesAndFalls :
    (powering.seq.hpg = false ∧ powering.seq.state = .powering ∧ powering.resetting = none) ∧
      (running.seq.hpg = false ∧ running.seq.state ≠ .powering) ∧ booting.seq.hpg = true ∧
      ((setPowerGood true State.reset).seq.hpg = true ∧ (setPowerGood true State.reset).seq.hpwrEn = false) ∧
      ((after .pinReset booting).seq.hpg = true ∧ (after .pinReset booting).resetting.isSome = true) ∧
      (stopping.seq.hpg = true ∧ stopping.seq.hpwrEn = true ∧ stopping.resetting = none ∧ stopping.seq.state = .stopping) ∧
      (let s := setPowerGood true (warned ⟨.checkinTimeout, .warm, 2, true⟩)
       s.seq.hpg = true ∧ s.seq.hpwrEn = true ∧ s.resetting = none ∧ s.seq.state = .warned) ∧
      (holding.seq.hpg = true ∧ holding.seq.hpwrEn = true ∧ holding.resetting = none ∧ holding.seq.state = .resetHold) ∧
      booting.seq.state = .booting ∧ (setPowerGood true running).seq.state = .running ∧
      (setPowerGood true pulsing).seq.state = .resetPulse ∧ (setPowerGood true pulsing).seq.hpwrEn = true := by
  decide

theorem test_witness_TimeoutsAreFailures :
    (booting.seq.state = .booting ∧ (timeUp booting).seq.timers.bootWindow = some ⟨240000, 0⟩) ∧
      (running.seq.state = .running ∧ (timeUp running).seq.timers.run = some ⟨30000, 0⟩) ∧
      (powering.seq.state = .powering ∧ (timeUp powering).seq.timers.hpg = some ⟨500, 0⟩) ∧
      (booting.settings.ladder[booting.ladder.rung]? = some ⟨.warm, 2, 10, true, false⟩ ∧ booting.ladder.failures < 2) ∧
      (let s := booting.withLadder ⟨2, 1⟩
       s.settings.ladder[s.ladder.rung]? = some ⟨.cold, 1, 300, false, true⟩ ∧ 1 ≤ s.ladder.failures ∧
        s.settings.ladder[s.ladder.rung + 1]? = some ⟨.cold, 2, 10, false, false⟩) ∧
      (let s := booting.withLadder ⟨3, 2⟩
       s.settings.ladder[s.ladder.rung]? = some ⟨.cold, 2, 10, false, false⟩ ∧ 2 ≤ s.ladder.failures ∧
        s.settings.ladder[s.ladder.rung + 1]? = none) ∧
      (running.host.output.length ≤ 1 ∧ 0 < running.settings.timing.warningGrace) ∧
      (receiving running = true ∧ 1 ≤ (1 : Byte).toNat ∧ (15 : Byte).toNat ≤ 15 ∧ 0 < running.settings.timing.runTimeout) := by
  decide

theorem test_witness_SequencerTimersExpire :
    (holding.seq.state = .resetHold ∧ (timeUp holding).seq.timers.resetHold = some ⟨100, 0⟩) ∧
      (pulsing.seq.state = .resetPulse ∧ (timeUp pulsing).seq.timers.pulse = some ⟨200, 0⟩ ∧
        (timeUp pulsing).seq.hpg = false) ∧
      (setPowerGood true (timeUp pulsing)).seq.hpg = true ∧
      (poweredDown.seq.state = .powerDown ∧ (timeUp poweredDown).seq.timers.offInterval = some ⟨10000, 0⟩ ∧
        (timeUp poweredDown).seq.restart = some ⟨.cold, some 10, .ladder, false⟩) ∧
      (stopping.seq.state = .stopping ∧ (timeUp stopping).seq.timers.powerOff = some ⟨5000, 0⟩) ∧
      (running.seq.state = .running ∧ (timeUp running).seq.timers.stability = some ⟨600000, 0⟩) ∧
      (let s := timeUp (warned ⟨.checkinTimeout, .warm, 2, true⟩)
       s.seq.state = .warned ∧ s.seq.timers.grace = some ⟨20000, 0⟩ ∧
        s.seq.warning = some ⟨.checkinTimeout, .warm, 2, true⟩) ∧
      (timeUp (warned ⟨.powerFault, .cold 3600, 0, true⟩)).seq.warning = some ⟨.powerFault, .cold 3600, 0, true⟩ ∧
      (timeUp (warned ⟨.thermal, .off, 0, false⟩)).seq.warning = some ⟨.thermal, .off, 0, false⟩ ∧
      (State.reset.seq.state ≠ .powering ∧ expired powering.seq.timers.hpg = false ∧
        expired holding.seq.timers.resetHold = false ∧ expired stopping.seq.timers.powerOff = false) := by
  decide

/-- With a stability time of 0 in force. -/
def stableAtOnce (s : State) : State :=
  s.withSettings { s.settings with timing := { s.settings.timing with stability := 0 } }

/-- STABLE follows BOOT_CONFIRMED, and WARNING_CANCELLED, at once, and the ladder is reset (R94, R113). -/
theorem test_stable_at_the_entry :
    ([stableAtOnce (booting.withLadder ⟨1, 1⟩), stableAtOnce ((warned ⟨.checkinTimeout, .warm, 2, true⟩).withLadder ⟨1, 1⟩)].map
        fun s => (((after (.checkIn .host 0 [4]) s).log.ring.drop 2).map fun r => (r.kind, r.rung),
          (after (.checkIn .host 0 [4]) s).ladder)) =
      [([(.bootConfirmed, 1), (.stable, 1)], ⟨0, 0⟩), ([(.warningCancelled, 1), (.stable, 1)], ⟨0, 0⟩)] := by
  decide

theorem test_witness_CheckInIsTakenByState :
    receiving running = true ∧ 15 < (16 : Byte).toNat ∧
      (State.reset.seq.state ≠ .booting ∧ State.reset.seq.state ≠ .running ∧ State.reset.seq.state ≠ .warned) ∧
      (receiving booting = true ∧ booting.seq.state = .booting ∧ (3 : Byte).toNat < booting.settings.timing.confirmStage ∧
        booting.settings.timing.confirmStage ≤ (4 : Byte).toNat ∧ 0 < booting.settings.timing.stability) ∧
      (running.seq.state = .running ∧ (15 : Byte).toNat ≤ 15 ∧ (1 : Byte) ≠ 0) ∧
      (let s := warned ⟨.checkinTimeout, .warm, 2, true⟩
       receiving s = true ∧ s.seq.state = .warned ∧ s.settings.timing.confirmStage ≤ (4 : Byte).toNat) ∧
      (let s := warned ⟨.thermal, .off, 0, false⟩
       receiving s = true ∧ s.seq.state = .warned ∧ s.seq.warning = some ⟨.thermal, .off, 0, false⟩) ∧
      (receiving (stableAtOnce booting) = true ∧ (stableAtOnce booting).seq.state = .booting ∧
        (stableAtOnce booting).settings.timing.confirmStage ≤ (15 : Byte).toNat ∧
        (stableAtOnce booting).settings.timing.stability = 0) ∧
      (let s := stableAtOnce (warned ⟨.checkinTimeout, .warm, 2, true⟩)
       receiving s = true ∧ s.seq.state = .warned ∧ s.seq.warning = some ⟨.checkinTimeout, .warm, 2, true⟩ ∧
        s.settings.timing.confirmStage ≤ (4 : Byte).toNat ∧ s.settings.timing.stability = 0) := by
  decide

theorem test_witness_StartHostLeavesOff :
    (Dispatches .host off ∧ off.seq.state = .off ∧ off.thermal.startPermitted = false) ∧
      Dispatches .service (after (.startHost .host 1 []) off) ∧
      exec (.startHost .host 1 []) off = .next (after (.startHost .host 1 []) off) ∧
      (Dispatches .host State.reset ∧ State.reset.seq.state ≠ .off) ∧ ([0] : List Byte) ≠ [] :=
  ⟨by decide, by decide, rfl, by decide, by decide⟩

theorem test_witness_ReleaseAndRestartByState :
    (let s := inState .lockedOut SequencerTimers.stopped
     Dispatches .service s ∧ s.seq.state = .lockedOut) ∧
      (Dispatches .host State.reset ∧ State.reset.seq.state ≠ .lockedOut ∧ State.reset.seq.state ≠ .booting ∧
        State.reset.seq.state ≠ .running) ∧
      1 < (2 : Byte).toNat ∧ (Dispatches .host booting ∧ booting.seq.state = .booting) ∧
      (Dispatches .host running ∧ running.seq.state = .running) ∧ (1 : Byte).toNat ≤ 1 ∧
      (3600 = max 1 (min ((0x0E : Byte) ++ (0x11 : Byte)).toNat 3600)) ∧
      1 = max 1 (min ((0 : Byte) ++ (0 : Byte)).toNat 3600) := by
  decide

theorem test_witness_PowerOffByState :
    Dispatches .host off ∧ off.seq.state = .off ∧ (inState .lockedOut SequencerTimers.stopped).seq.state = .lockedOut ∧
      pulsing.seq.state = .resetPulse ∧ State.reset.seq.state = .warming ∧
      (inState .cooling SequencerTimers.stopped).seq.state = .cooling ∧ powering.seq.state = .powering ∧
      holding.seq.state = .resetHold ∧ stopping.seq.state = .stopping ∧
      (poweredDown.seq.state = .powerDown ∧ poweredDown.seq.restart = some ⟨.cold, some 10, .ladder, false⟩) ∧
      (600 = min ((2 : Byte) ++ (0x59 : Byte)).toNat 600) ∧ (0 = min ((0 : Byte) ++ (0 : Byte)).toNat 600) ∧
      (let s := warned ⟨.thermal, .off, 0, false⟩
       Dispatches .host s ∧ s.seq.state = .warned ∧ s.seq.warning = some ⟨.thermal, .off, 0, false⟩ ∧
        s.seq.timers.grace = some ⟨20000, 12345⟩ ∧ 0 < min (600 * 1000) 12345) ∧
      (let s := warned ⟨.powerFault, .warm, 2, true⟩
       s.seq.state = .warned ∧ s.seq.warning = some ⟨.powerFault, .warm, 2, true⟩ ∧ 0 < 1 * 1000 ∧ 0 * 1000 = 0) ∧
      (let s := timeUp (warned ⟨.thermal, .off, 0, false⟩)
       Dispatches .service s ∧ s.seq.state = .warned ∧ s.seq.warning = some ⟨.thermal, .off, 0, false⟩ ∧
        s.seq.timers.grace = some ⟨20000, 0⟩ ∧ min (600 * 1000) 0 = 0) := by
  decide

/-- A Restart that is taken appends RESTART with the source REQUEST (R75, Table 9-2). -/
theorem test_restart_record_of_a_request :
    [(1 : Byte), 0].map (fun action =>
        ((after (.restart .host 1 [action, 0, 9]) booting).log.ring.getLast?).map fun r => (r.kind, r.detail, r.state)) =
      [some (.restart, 0x0101, .powerDown), some (.restart, 0x0001, .resetPulse)] := by
  decide

/-- A Power Off of delay 0 in a warning drops it and ends in OFF at once (R80, R119). -/
theorem test_power_off_at_once_in_a_warning :
    (let t := after (.powerOff .host 1 [0, 0]) (warned ⟨.powerFault, .warm, 2, true⟩)
     (t.seq.state, (t.log.ring.drop 2).map fun r => (r.kind, r.detail))) =
      (.off, [(.warningCancelled, 1), (.powerOff, 0)]) := by
  decide

theorem test_witness_ReadyAndDeferAnswerTheWarning :
    (let s := warned ⟨.checkinTimeout, .warm, 1, true⟩
     Dispatches .host s ∧ s.seq.state = .warned ∧ (timeUp s).seq.timers.grace = some ⟨20000, 0⟩ ∧
      s.seq.warning = some ⟨.checkinTimeout, .warm, 1, true⟩ ∧ (0 : Nat) < 1 ∧ 0 < s.settings.timing.deferStep ∧
      (let z := s.withSettings { s.settings with timing := { s.settings.timing with deferStep := 0 } }
       Dispatches .host z ∧ z.seq.state = .warned ∧ z.seq.warning = some ⟨.checkinTimeout, .warm, 1, true⟩ ∧
        z.settings.timing.deferStep = 0 ∧ z.host.output.length ≤ 2)) ∧
      (Dispatches .host running ∧ running.seq.state ≠ .warned) ∧
      (let s := warned ⟨.checkinTimeout, .cold 10, 0, true⟩
       Dispatches .host s ∧ s.seq.warning = some ⟨.checkinTimeout, .cold 10, 0, true⟩) := by
  decide

/-- With a defer step of 0 the record and the reply come before the action (R112). -/
theorem test_defer_step_of_zero :
    (let s := warned ⟨.checkinTimeout, .cold 30, 2, true⟩
     let t := after (.defer .host 8 [])
       (s.withSettings { s.settings with timing := { s.settings.timing with deferStep := 0 } })
     (t.seq.state, (t.log.ring.drop 2).map (fun r => (r.kind, r.detail)), t.host.output.drop 1)) =
      (.powerDown, [(.warningDeferred, 1), (.restart, 0x0100)], [⟨0x8D, 8, [0x00, 0x00, 0x00, 1]⟩]) := by
  decide

theorem test_witness_SetLadderReturnsToTheFirstRung :
    LadderInRange [⟨.cold, 7, 3600, true, true⟩] ∧ LadderInRange (List.replicate 6 ⟨.warm, 1, 1, false, false⟩) ∧
      (Dispatches .host running ∧ running.seq.state ≠ .warned ∧ running.seq.state ≠ .resetPulse ∧
        running.seq.state ≠ .powerDown) ∧
      (Dispatches .host pulsing ∧ pulsing.seq.state = .resetPulse) ∧ poweredDown.seq.state = .powerDown ∧
      (1 ≤ ([(2, 0, 0, 0xFF)] : List (Byte × Byte × Half × Byte)).length ∧
        (List.replicate 6 ((0, 8, 3601, 4) : Byte × Byte × Half × Byte)).length ≤ 6) := by
  decide

/-- Set Ladder with an action, attempts, an off interval and flags out of their ranges (R103, step 5). -/
theorem test_set_ladder_clamps :
    let t := after (.setLadder .service 1 [1, 2, 0, 0xFF, 0xFF, 0xFE]) State.reset
    (t.settings.ladder, t.service.output) =
      ([⟨.cold, 1, 3600, false, true⟩], [⟨0x9B, 1, [0x01, 1, 1, 1, 0x0E, 0x10, 2]⟩]) := by
  decide

theorem test_witness_SetTimingClampsEveryField : Dispatches .service running ∧ (List.replicate 19 (0 : Byte)).length ≠ 20 := by
  decide

theorem test_witness_RowsAreSampledAndChangesAccepted :
    State.reset.keypad.row = some ⟨(0 : Fin 7).val, by omega⟩ ∧
      (after (.rowDwellEnd 0) State.reset).keypad.row = some 1 ∧ (after .pinReset State.reset).keypad.row = none ∧
      (let s := scanning [0, 1] State.reset
       KeypadLaw s ∧ s.keypad.row = some 7 ∧ NoChordDue s ∧ expired s.keypad.repeatTimer = false ∧
        (∀ q : Position, expired s.keypad.positions[q].hold = false) ∧ s.queue.entries.length + 0 + 0 ≤ 64 ∧
        (s.keypad.positions[(0 : Position)].raw = true ∧ s.keypad.positions[(0 : Position)].debounced = true)) ∧
      (let s := after (.scanCompletion 1) (scanning [] State.reset)
       let t := s.withKeypad { s.keypad with row := some 7 }
       KeypadLaw t ∧ t.keypad.positions[(42 : Position)].debounced = false ∧
        t.keypad.debounceCount ≤ t.keypad.positions[(42 : Position)].count + 1 ∧
        ambiguous t.keypad.debounceCount (countedPositions 1 t) = false) ∧
      (let s := scanning [36, 37] State.reset
       let t := (after (.scanCompletion 1) s)
       let u := t.withKeypad { t.keypad with row := some 7 }
       KeypadLaw u ∧ ambiguous u.keypad.debounceCount (countedPositions 1 u) = true) ∧
      (let s := after (.scanCompletion 0) (scanning [42] State.reset)
       let t := s.withKeypad { s.keypad with row := some 7 }
       KeypadLaw t ∧ t.keypad.positions[(42 : Position)].debounced = true ∧
        t.keypad.debounceCount ≤ t.keypad.positions[(42 : Position)].count + 1) := by
  refine ⟨by decide, by decide, by decide, by decide, by decide, by decide, by decide⟩

/-- At one scan completion the release comes before the press, in the held list and in the queue (R127). -/
theorem test_release_before_press :
    (let s := after (.scanCompletion 1) (scanning [47] State.reset)
     let t := after (.scanCompletion 1) (s.withKeypad { s.keypad with row := some 7 })
     (t.keypad.held, t.queue.entries.map fun e => e.kind)) = ([42], [.release 47 47, .press 42 42]) := by
  decide

/-- The state after reset, with 64 entries in the Key Queue. -/
def full : State :=
  State.reset.withQueue ⟨List.replicate 64 ⟨0, 0, .press 0 0, none⟩, 64, 0, 0⟩

theorem test_witness_KeyEventsAreStoredLostOrFlushed :
    State.reset.settings.keys[(47 : Position)].enabled = true ∧
      (let s := after (.setKeyEntries .host 1 [0, 1, 0, 0]) State.reset
       s.settings.keys[(0 : Position)].enabled = false) ∧
      State.reset.queue.entries.length < 64 ∧ 64 ≤ full.queue.entries.length := by
  decide

/-- The keys of a scanning part, with a repeat target and its timer. -/
def repeating (down : List Position) (target : Option Position) (timer : Option Timer) : State :=
  let s := scanning down State.reset
  s.withKeypad { s.keypad with target := target, repeatTimer := timer }

/-- A chord entry at the end of its hold, its members held. -/
def chording (i : ChordIndex) (down : List Position) (s : State) : State :=
  setChordState i ⟨.holding, some ⟨5000, 0⟩⟩ (scanning down s)

/-- The chord entry of this index fires the event alone. -/
def eventOnly (i : ChordIndex) (s : State) : State :=
  s.withSettings
    { s.settings with chords := put s.settings.chords i { s.settings.chords[(0 : ChordIndex)] with action := .event } }

/-- Two entries with the same members at the end of their holds. -/
def chordingTwice : State := setChordState 1 ⟨.holding, some ⟨5000, 0⟩⟩ (chording 0 [42, 47] (eventOnly 1 (eventOnly 0 running)))

theorem test_witness_RepeatStuckAndChordEvents :
    (let s := repeating [42] (some 42) (some ⟨500, 0⟩)
     Quiet 1 s ∧ s.keypad.target = some 42 ∧ s.keypad.held.getLast? = some 42 ∧ expired s.keypad.repeatTimer = true ∧
      s.keypad.repeatTimer.isSome = true ∧
      s.settings.keys[(42 : Position)].enabled = true ∧ s.settings.keys[(42 : Position)].repeats = true ∧
      s.keypad.positions[(42 : Position)].suppressed = false ∧
      (∀ q : Position, expired s.keypad.positions[q].hold = false) ∧ NoChordDue s ∧ s.queue.entries.length < 64) ∧
      (let s := repeating [42] (some 43) (some ⟨500, 0⟩)
       Quiet 1 s ∧ s.keypad.held.getLast? ≠ s.keypad.target ∧ (after (.scanCompletion 1) s).keypad.target.isSome = true) ∧
      (Quiet 0 (repeating [] (some 42) none) ∧ (after (.scanCompletion 0) (repeating [] (some 42) none)).keypad.target = none) ∧
      (let s := (scanning [42] State.reset).withKeypad
        { (scanning [42] State.reset).keypad with
          positions := put (scanning [42] State.reset).keypad.positions 42 ⟨true, true, 0, false, some ⟨3000, 0⟩⟩ }
       Quiet 1 s ∧ s.keypad.positions[(42 : Position)].debounced = true ∧
        s.keypad.positions[(42 : Position)].suppressed = false ∧ s.keypad.positions[(42 : Position)].hold.isSome = true ∧
        (∀ q : Position, q ≠ 42 → expired s.keypad.positions[q].hold = false) ∧
        (expired s.keypad.repeatTimer = false ∧ s.keypad.target = some 42) ∧ NoChordDue s) ∧
      (let s := chording 2 [42, 44, 47] running
       Quiet 0b100101 s ∧ (∀ q : Position, expired s.keypad.positions[q].hold = false) ∧
        expired s.keypad.repeatTimer = false ∧ s.chords[(2 : ChordIndex)].phase = .holding ∧
        s.chords[(2 : ChordIndex)].hold.isSome = true ∧
        EntryMatches s.settings.chords[(2 : ChordIndex)] s.keypad.positions ∧
        (∀ j : ChordIndex, j ≠ 2 → s.chords[j].phase ≠ .holding ∨ expired s.chords[j].hold = false) ∧
        s.settings.chords[(2 : ChordIndex)].action = .coldRestart ∧ s.seq.state = .running) := by
  decide

theorem test_witness_RepeatStuckAndChordEvents_actions :
    (let s := chording 1 [42, 43, 47] booting
     Quiet 0b100011 s ∧ EntryMatches s.settings.chords[(1 : ChordIndex)] s.keypad.positions ∧
      s.settings.chords[(1 : ChordIndex)].action = .warmRestart ∧ s.seq.state = .booting) ∧
      (let s := chording 3 [42, 45, 47] (inState .lockedOut SequencerTimers.stopped)
       Quiet 0b101001 s ∧ EntryMatches s.settings.chords[(3 : ChordIndex)] s.keypad.positions ∧
        s.settings.chords[(3 : ChordIndex)].action = .release ∧ s.seq.state = .lockedOut ∧
        s.thermal.startPermitted = false) ∧
      (let s := chording 0 [42, 47] off
       Quiet 0b100001 s ∧ EntryMatches s.settings.chords[(0 : ChordIndex)] s.keypad.positions ∧
        s.settings.chords[(0 : ChordIndex)].action = .start ∧ s.seq.state = .off) ∧
      ((chording 0 [42, 47] running).settings.chords[(0 : ChordIndex)].action = .start ∧ running.seq.state ≠ .off) := by
  decide

theorem test_witness_RepeatStuckAndChordEvents_two :
    (Quiet 0b100001 chordingTwice ∧ (0 : ChordIndex) < 1 ∧ expired chordingTwice.keypad.repeatTimer = false ∧
        (∀ q : Position, expired chordingTwice.keypad.positions[q].hold = false) ∧
        (∀ k : ChordIndex, k = 0 ∨ k = 1 →
          chordingTwice.chords[k].phase = .holding ∧ expired chordingTwice.chords[k].hold = true ∧
            chordingTwice.settings.chords[k].action = .event ∧
            EntryMatches chordingTwice.settings.chords[k] chordingTwice.keypad.positions) ∧
        (∀ k : ChordIndex, k ≠ 0 → k ≠ 1 → chordingTwice.chords[k].phase ≠ .holding) ∧
        chordingTwice.queue.entries.length < 63) := by
  decide

/-- The moves of Table 8-4, but for the firing, of an entry that matches (2) and of one that does not (0). -/
theorem test_chord_table :
    ([(.idle, .idle), (.holding, .holding), (.fired, .fired)].map fun x : ChordPhase × ChordPhase =>
        let s := scanning [42, 44, 47] running
        let t := after (.scanCompletion 0b100101)
          (setChordState 2 ⟨x.1, some ⟨8000, 1⟩⟩ (setChordState 0 ⟨x.2, some ⟨3000, 1⟩⟩ s))
        (t.chords[(2 : ChordIndex)].phase, t.chords[(0 : ChordIndex)].phase)) =
      [(.holding, .idle), (.holding, .idle), (.fired, .idle)] := by
  decide

/-- A release of the target passes the repeat to the earlier key with the full delay; the empty list stops it; an expiry of a
target that is not eligible restarts the timer with the interval, without an event (R129). -/
theorem test_repeat_target :
    (let passed := after (.scanCompletion 1) (repeating [42] (some 43) (some ⟨100, 7⟩))
     let stopped := after (.scanCompletion 0) (repeating [] (some 42) (some ⟨100, 7⟩))
     let blocked := after (.scanCompletion 1)
       (setPosition 42 ⟨true, true, 0, true, none⟩ (repeating [42] (some 42) (some ⟨500, 0⟩)))
     [(passed.keypad.target, passed.keypad.repeatTimer, passed.queue.entries.length),
       (stopped.keypad.target, stopped.keypad.repeatTimer, stopped.queue.entries.length),
       (blocked.keypad.target, blocked.keypad.repeatTimer, blocked.queue.entries.length)]) =
      [(some 42, some ⟨500, 500⟩, 0), (none, none, 0), (some 42, some ⟨100, 100⟩, 0)] := by
  decide

/-- Two entries that fire at one scan completion do so in index order, each with its event and its record (R140, R141). -/
theorem test_two_chords_in_index_order :
    (let t := after (.scanCompletion 0b100001) chordingTwice
     ((t.log.ring.drop 2).map (fun r => (r.kind, r.detail)), t.queue.entries.map fun e => e.kind)) =
      ([(.chord, 0x0001), (.chord, 0x0101)], [.chord 0, .chord 1]) := by
  decide

theorem test_witness_KeySettingsInRangeAreApplied :
    (Dispatches .host State.reset ∧
        KeypadInRange ⟨500, 2000, 1000, 600, 7, [⟨-550, 100⟩, ⟨0, 2⟩, ⟨1, 2⟩, ⟨1250, 2⟩]⟩ ∧
        KeypadInRange ⟨20, 100, 20, 0, 0, [⟨0, 2⟩]⟩) ∧
      (1 ≤ ([⟨0, true, true⟩] : List KeyEntry).length ∧ 47 + ([⟨0, true, true⟩] : List KeyEntry).length ≤ 48 ∧
        0 + (List.replicate 48 (⟨7, false, true⟩ : KeyEntry)).length ≤ 48) ∧
      (ChordInRange ⟨0b11, 0, 100, .event⟩ ∧ ChordInRange ⟨0b1111, 1 <<< 47, 10000, .release⟩) ∧
      (1 ≤ ([(0x8000, 0)] : List (Half × Half)).length ∧ ([(0x8000, 0)] : List (Half × Half)).length ≤ 4 ∧
        ascending (([(0x8000, 0), (0x7FFF, 0xFFFF)] : List (Half × Half)).map
          fun p => ⟨max (-550) (min p.1.toInt 1250), max 2 (min p.2.toNat 100)⟩) = true) ∧
      (1 ≤ ([(7, 0xFF)] : List (Byte × Byte)).length ∧ 47 + ([(7, 0xFF)] : List (Byte × Byte)).length ≤ 48) ∧
      (2 ≤ ((List.range 48).filter fun p => (0x800000000001 : BitVec 48).getLsbD p).length ∧
        ((List.range 48).filter fun p => (0x800000000007 : BitVec 48).getLsbD p).length ≤ 4 ∧
        ∀ p : Position, ¬ ((0x800000000001 : BitVec 48).getLsbD p.val = true ∧ (2 : BitVec 48).getLsbD p.val = true)) := by
  decide

/-- The flag bits that mean nothing are cleared, which makes the reply CLAMPED (R134). -/
theorem test_set_key_entries_clears_flags :
    (after (.setKeyEntries .service 1 [47, 1, 9, 0xFE]) State.reset).service.output = [⟨0x99, 1, [0x01, 47, 1, 9, 2]⟩] := by
  decide

theorem test_witness_ReadKeysRemovesOrKeeps :
    Dispatches .host full ∧ Dispatches .service full ∧ 0 < (1 : Byte).toNat ∧ 0 < (255 : Byte).toNat ∧
      (10 = min (min (255 : Byte).toNat 10) full.queue.entries.length) ∧
      (0 = min (min (1 : Byte).toNat 10) State.reset.queue.entries.length) ∧ (0 : Byte).toNat = 0 ∧ 1 < (2 : Byte).toNat := by
  decide

end Sys2Proof.Tests
end

section
/-! SUPPORT. The heater zones and the power budget (chapter 2): two-byte fields, what the grant walk hands out, which grants an
expiry of the allocation timer leaves, and Set Budget at its block. -/

namespace Sys2Proof.Machine

/-! ### Two-byte fields -/

/-- The value of an unsigned two-byte field (00_scope.md, Multi-byte fields). -/
theorem readHalf_eq (hi lo : Byte) : readHalf hi lo = hi.toNat * 256 + lo.toNat := by
  rw [readHalf, BitVec.toNat_append, ← Nat.shiftLeft_add_eq_or_of_lt lo.isLt, Nat.shiftLeft_eq]

theorem twoBytes_eq (n : Nat) : twoBytes n = [oneByte (n / 256), oneByte n] := by
  have high : (BitVec.ofNat 16 n >>> 8).truncate 8 = oneByte (n / 256) := by
    apply BitVec.eq_of_toNat_eq
    simp [oneByte]
    omega
  have low : (BitVec.ofNat 16 n).truncate 8 = oneByte n := by
    apply BitVec.eq_of_toNat_eq
    simp [oneByte]
  rw [twoBytes, halfBytes, high, low]

/-- A 16-bit number is written as the bytes of a field exactly when the field reads as that number. -/
theorem twoBytes_eq_iff {n : Nat} (h : n < 65536) (hi lo : Byte) : twoBytes n = [hi, lo] ↔ n = readHalf hi lo := by
  have hhi := hi.isLt
  have hlo := lo.isLt
  simp only [twoBytes_eq, readHalf_eq, oneByte, List.cons.injEq, and_true, BitVec.toNat_eq, BitVec.toNat_ofNat]
  omega

/-- A field brought to an upper end below 65536 is written as received exactly when it was not above that end. -/
theorem twoBytes_clampNat_eq_iff {high : Nat} (h : high < 65536) (hi lo : Byte) :
    twoBytes (clampNat 0 high (readHalf hi lo)) = [hi, lo] ↔ readHalf hi lo ≤ high := by
  rw [twoBytes_eq_iff (by unfold clampNat; omega)]
  unfold clampNat
  omega

/-! ### The grant walk (R26 to R28) -/

theorem grantOf_grantWalk_cons (demand : Zone → Nat) (x z : Zone) (rest : List Zone) (power : Nat) :
    grantOf (grantWalk demand (x :: rest) power) z =
      if x = z then min (demand x) power else grantOf (grantWalk demand rest (power - min (demand x) power)) z := by
  by_cases h : x = z <;> simp [grantOf, grantWalk, h]

/-- The walk hands out the whole demand of its zones, or the power it starts with when that is less (R28). -/
theorem sum_grantOf_grantWalk (demand : Zone → Nat) (order : List Zone) (distinct : order.Nodup) (power : Nat) :
    (order.map (grantOf (grantWalk demand order power))).sum = min power (order.map demand).sum := by
  induction order generalizing power with
  | nil => simp
  | cons x rest ih =>
    obtain ⟨fresh, distinct⟩ := List.nodup_cons.mp distinct
    have later : rest.map (grantOf (grantWalk demand (x :: rest) power)) =
        rest.map (grantOf (grantWalk demand rest (power - min (demand x) power))) := by
      refine List.map_congr_left fun z mem => ?_
      rw [grantOf_grantWalk_cons, if_neg (ne_of_mem_of_not_mem mem fresh).symm]
    rw [List.map_cons, List.sum_cons, List.map_cons, List.sum_cons, later, ih distinct, grantOf_grantWalk_cons, if_pos rfl]
    omega

theorem insertZone_perm (priority : Zone → Nat) (z : Zone) (order : List Zone) :
    (insertZone priority z order).Perm (z :: order) := by
  induction order with
  | nil => rfl
  | cons y rest ih =>
    unfold insertZone
    split
    · rfl
    · exact (ih.cons y).trans (.swap z y rest)

theorem foldl_insertZone_perm (priority : Zone → Nat) (zones order : List Zone) :
    (zones.foldl (fun order z => insertZone priority z order) order).Perm (zones ++ order) := by
  induction zones generalizing order with
  | nil => exact .refl order
  | cons z rest ih =>
    calc
      List.Perm _ (rest ++ insertZone priority z order) := ih _
      List.Perm _ (rest ++ z :: order) := (insertZone_perm priority z order).append_left rest
      List.Perm _ (z :: (rest ++ order)) := List.perm_middle

/-- The grant order holds each zone once (R27). -/
theorem grantOrder_perm (priority : Zone → Nat) : (grantOrder priority).Perm [0, 1, 2, 3] :=
  foldl_insertZone_perm priority [0, 1, 2, 3] []

/-- The grants of an allocation never exceed the selected budget (R28). -/
theorem sum_grantedPowerOf_le (s : State) :
    grantedPowerOf s 0 + grantedPowerOf s 1 + grantedPowerOf s 2 + grantedPowerOf s 3 ≤ selectedBudget s := by
  have perm := grantOrder_perm fun y => s.zones[y].priority
  have handedOut := sum_grantOf_grantWalk (demandPowerOf s) _ (perm.nodup_iff.mpr (by decide)) (selectedBudget s)
  have total := (perm.map (grantedPowerOf s)).sum_eq
  simp only [List.map_cons, List.map_nil, List.sum_cons, List.sum_nil] at total
  have le : ((grantOrder fun y => s.zones[y].priority).map (grantedPowerOf s)).sum ≤ selectedBudget s :=
    handedOut.trans_le (min_le_left _ _)
  omega

/-! ### The grants after an expiry of the allocation timer (R22) -/

theorem exec_allocationPeriodExpiry_of_running {s : State} (h : s.thermal.allocationTimer.isSome = true) :
    exec .allocationPeriodExpiry s = .next (allocationExpiry s) := by
  simp [exec, execAllocationPeriodExpiry, allocationPeriodExpiry, h]

@[simp] theorem flaggedZone_grantedPower (z : ZoneState) : (flaggedZone z).grantedPower = z.grantedPower := by
  unfold flaggedZone
  split <;> rfl

@[simp] theorem releaseIfReached_grantedPower (z : ZoneState) : (releaseIfReached z).grantedPower = z.grantedPower := by
  unfold releaseIfReached
  split <;> rfl

@[simp] theorem gateStep_grantedPower (warm : Bool) (hold : Nat) (z : ZoneState) :
    (gateStep warm hold z).grantedPower = z.grantedPower := by
  unfold gateStep
  split <;> simp

@[simp] theorem gateZone_grantedPower (s : State) (z : Zone) : (gateZone s z).grantedPower = s.zones[z].grantedPower := by
  unfold gateZone
  split <;> simp

@[simp] theorem evaluateGate_grantedPower (s : State) (z : Zone) :
    (evaluateGate s).zones[z].grantedPower = s.zones[z].grantedPower := by
  simp [evaluateGate]

@[simp] theorem allocate_grantedPower (s : State) (z : Zone) :
    (allocate s).zones[z].grantedPower = grantedPowerOf s z := by
  simp [allocate, allocatedZone]

/-- The grants do not depend on the allocation timer, and the gate evaluation of the same expiry leaves them in force. -/
theorem allocationExpiry_grantedPower (s : State) (z : Zone) :
    (allocationExpiry s).zones[z].grantedPower = grantedPowerOf s z := by
  rw [allocationExpiry, evaluateGate_grantedPower, allocate_grantedPower]
  rfl

/-! ### SET_BUDGET (R38) -/

theorem exec_setBudget (l : Link) (tag : Byte) (payload : List Byte) (s : State) :
    exec (.setBudget l tag payload) s = .next (answer l 0x14 tag (setBudgetBody payload) s) := rfl

theorem setBudgetBody_of_length_ne {payload : List Byte} (h : payload.length ≠ 4) (s : State) :
    setBudgetBody payload s = refuse .badLength s := by
  unfold setBudgetBody
  split
  · exact absurd rfl h
  · rfl

/-- The status of the reply: OK when neither budget was above 6000, else CLAMPED (R38). -/
theorem appliedStatus_budget (f1 f0 n1 n0 : Byte) :
    appliedStatus [f1, f0, n1, n0]
        (budgetPayload (clampNat 0 6000 (readHalf f1 f0)) (clampNat 0 6000 (readHalf n1 n0))) =
      if readHalf f1 f0 ≤ 6000 ∧ readHalf n1 n0 ≤ 6000 then .ok else .clamped := by
  have fields (off on : Nat) : budgetPayload off on = [f1, f0, n1, n0] ↔ twoBytes off = [f1, f0] ∧ twoBytes on = [n1, n0] := by
    simp [budgetPayload, twoBytes_eq, and_assoc]
  simp only [appliedStatus, fields, twoBytes_clampNat_eq_iff (show 6000 < 65536 by decide)]

theorem setReceiver_withSettings (l : Link) (r : Receiver) (x : Settings) (s : State) :
    setReceiver l r (s.withSettings x) = (setReceiver l r s).withSettings x := by
  cases l <;> rfl

/-- Set Budget of four bytes: both budgets are replaced, and the reply carries the applied values (R38). -/
theorem answer_setBudget {l : Link} {s : State} (h : Dispatches l s) (tag f1 f0 n1 n0 : Byte) {off on : Nat}
    (hoff : off = clampNat 0 6000 (readHalf f1 f0)) (hon : on = clampNat 0 6000 (readHalf n1 n0)) :
    answer l 0x14 tag (setBudgetBody [f1, f0, n1, n0]) s =
      sendReply l 0x14 tag
        (statusByte (if readHalf f1 f0 ≤ 6000 ∧ readHalf n1 n0 ≤ 6000 then .ok else .clamped) :: budgetPayload off on)
        (setReceiver l .hunting (s.withSettings { s.settings with offBudget := off, onBudget := on })) := by
  subst hoff hon
  obtain ⟨hears, free⟩ := h
  refine answer_of_reply hears free ?_
  simp [setBudgetBody, appliedStatus_budget, setReceiver_withSettings]

/-- Settles O39: the status follows from the fields that are written as received, and the grants of the next allocation from
what the grant walk hands out. -/
theorem setBudgetReplacesBothBudgets : Obligations.SetBudgetReplacesBothBudgets := by
  unfold Obligations.SetBudgetReplacesBothBudgets
  refine ⟨?applied, ?badLength, ?nextAllocation⟩
  case applied =>
    intro l tag f1 f0 n1 n0 off on s dispatches hoff hon
    have brought (n : Nat) : min n 6000 = clampNat 0 6000 n := by simp [clampNat]
    rw [exec_setBudget,
      answer_setBudget dispatches tag f1 f0 n1 n0 (hoff.trans (brought _)) (hon.trans (brought _)), apply_ite statusByte]
    rfl
  case badLength =>
    intro l tag payload s ⟨hears, free⟩ wrong
    rw [exec_setBudget, answer_of_reply hears free (setBudgetBody_of_length_ne wrong _)]
    rfl
  case nextAllocation =>
    intro s t running ht
    obtain rfl : allocationExpiry s = t := by
      simpa [exec_allocationPeriodExpiry_of_running running] using ht
    have shared := sum_grantedPowerOf_le s
    simp only [← allocationExpiry_grantedPower, selectedBudget] at shared
    exact shared

end Sys2Proof.Machine
end

section
/-! SUPPORT. The filter watch (chapter 3): what one minute does to the watch count, Clear Filter Service at its block, and the
place of the fan and the filter in the payload of Get Status. -/

namespace Sys2Proof.Machine

/-! ### The minute of the filter watch (R53, R54) -/

theorem exec_minuteExpiry (s : State) : exec .minuteExpiry s = .next (minuteExpiry s) := rfl

theorem watchStep_le (s : State) : watchStep s ≤ s.thermal.watch + 1 := by
  unfold watchStep
  split
  · exact Nat.le_refl _
  · omega

@[simp] theorem enterFilterService_watch (s : State) : (enterFilterService s).thermal.watch = s.thermal.watch := by
  simp [enterFilterService]

/-- A minute leaves the watch count standing, or steps it before the FILTER status is decided (R53, R54). -/
theorem minuteStep_watch_le (s : State) : (minuteStep s).thermal.watch ≤ s.thermal.watch + 1 := by
  unfold minuteStep
  dsimp only
  split
  · exact Nat.le_succ _
  · split
    · rw [enterFilterService_watch]
      exact watchStep_le _
    · exact watchStep_le _

theorem minuteExpiry_watch_le (s : State) : (minuteExpiry s).thermal.watch ≤ s.thermal.watch + 1 := by
  unfold minuteExpiry
  split
  · exact minuteStep_watch_le s
  · exact Nat.le_succ _

/-! ### CLEAR_FILTER_SERVICE (R55) -/

theorem exec_clearFilterService (l : Link) (tag : Byte) (payload : List Byte) (s : State) :
    exec (.clearFilterService l tag payload) s = .next (answer l 0x17 tag (clearFilterBody payload) s) := rfl

theorem clearFilterBody_of_ne_nil {payload : List Byte} (h : payload ≠ []) (s : State) :
    clearFilterBody payload s = refuse .badLength s := by
  cases payload with
  | nil => exact absurd rfl h
  | cons b rest => rfl

/-- The filter watch as a taken Clear Filter Service leaves it: the minute timer goes on (R55). -/
def restartedWatch (x : Thermal) : Thermal := { x with watch := 0, filterSet := false }

theorem clearFilterBody_nil (s : State) :
    clearFilterBody [] s = (s.withThermal (restartedWatch s.thermal), some [statusByte .ok]) := rfl

theorem setReceiver_withThermal (l : Link) (r : Receiver) (x : Thermal) (s : State) :
    setReceiver l r (s.withThermal x) = (setReceiver l r s).withThermal x := by
  cases l <;> rfl

/-- Clear Filter Service with no payload restarts the watch and answers OK (R55). -/
theorem answer_clearFilter {l : Link} {s : State} (h : Dispatches l s) (tag : Byte) :
    answer l 0x17 tag (clearFilterBody []) s =
      sendReply l 0x17 tag [statusByte .ok] (setReceiver l .hunting (s.withThermal (restartedWatch s.thermal))) := by
  obtain ⟨hears, free⟩ := h
  refine answer_of_reply hears free ?_
  simp [clearFilterBody_nil, setReceiver_withThermal]

theorem thermal_of_clearFilterService {l : Link} {tag : Byte} {s t : State} (h : Dispatches l s)
    (taken : exec (.clearFilterService l tag []) s = .next t) : t.thermal = restartedWatch s.thermal := by
  rw [exec_clearFilterService, answer_clearFilter h, Host.Outcome.next.injEq] at taken
  simp [← taken]

/-! ### The payload of Get Status (Table 10-5) -/

theorem exec_getStatus (l : Link) (tag : Byte) (payload : List Byte) (s : State) :
    exec (.getStatus l tag payload) s = .next (answer l 0x02 tag (getStatusBody payload) s) := rfl

@[simp] theorem twoBytes_length (n : Nat) : (twoBytes n).length = 2 := rfl

@[simp] theorem fourBytes_length (x : Full) : (fourBytes x).length = 4 := rfl

@[simp] theorem hostStatus_length (s : State) : (hostStatus s).length = 9 := rfl

@[simp] theorem warningStatus_length (s : State) : (warningStatus s).length = 7 := by
  unfold warningStatus
  split <;> rfl

@[simp] theorem zoneStatus_length (z : ZoneState) : (zoneStatus z).length = 8 := rfl

/-- The fan and the filter follow the 56 bytes of the time base, the sequencer, the warning, the flags and the four zones. -/
theorem statusReply_drop_56 (s : State) : (statusReply s).drop 56 = climateStatus s := by
  unfold statusReply
  refine List.drop_left' ?_
  simp

/-- The FILTER status and the watch count stand at offsets 61 to 63. -/
theorem statusReply_filter (s : State) :
    ((statusReply s).drop 61).take 3 = flagByte s.thermal.filterSet :: twoBytes s.thermal.watch := by
  rw [show 61 = 56 + 5 from rfl, ← List.drop_drop, statusReply_drop_56]
  rfl

/-- Settles O43: both orders with the minute follow from the watch that a taken request leaves, and the report from the place
of the filter in the status. -/
theorem clearFilterServiceRestartsTheWatch : Obligations.ClearFilterServiceRestartsTheWatch := by
  unfold Obligations.ClearFilterServiceRestartsTheWatch
  refine ⟨?restarted, ?badLength, ?minuteBefore, ?minuteAfter, ?reported⟩
  case restarted =>
    intro l tag s dispatches
    rw [exec_clearFilterService, answer_clearFilter dispatches]
    rfl
  case badLength =>
    intro l tag payload s ⟨hears, free⟩ wrong
    rw [exec_clearFilterService, answer_of_reply hears free (clearFilterBody_of_ne_nil wrong _)]
    rfl
  case minuteBefore =>
    intro l tag s t u _ dispatches taken
    rw [thermal_of_clearFilterService dispatches taken]
    exact ⟨rfl, rfl⟩
  case minuteAfter =>
    intro l tag s t u dispatches _ taken minute
    obtain rfl : minuteExpiry t = u := by simpa [exec_minuteExpiry] using minute
    calc
      (minuteExpiry t).thermal.watch ≤ t.thermal.watch + 1 := minuteExpiry_watch_le t
      _ = 1 := by rw [thermal_of_clearFilterService dispatches taken]; rfl
  case reported =>
    intro l tag s ⟨hears, free⟩
    refine ⟨statusReply (setReceiver l .hunting s), ?_, ?_⟩
    · rw [exec_getStatus, answer_of_reply hears free rfl]
      rfl
    · simp [statusReply_filter, flagByte]

end Sys2Proof.Machine
end

section
/-! SUPPORT. Check-in and the restart ladder (chapter 5): the fields of a Set Timing request and what they become at its
block. -/

namespace Sys2Proof.Machine

/-! ### Fields and statuses as bytes -/

/-- The two bytes of a 16-bit field read back as the field. -/
theorem readHalf_of_halves (h : Half) : readHalf ((h >>> 8).truncate 8) (h.truncate 8) = h.toNat :=
  ((twoBytes_eq_iff h.isLt _ _).mp (by simp [twoBytes, halfBytes])).symm

/-- A flag taken from a byte is written as 1 when the byte was not 0 (Table 5-5, autostart). -/
theorem flagByte_decide_ne_zero (b : Byte) : flagByte (decide (b ≠ 0)) = if b = 0 then 0 else 1 := by
  simp [flagByte]

theorem statusByte_appliedStatus (received applied : List Byte) :
    statusByte (appliedStatus received applied) = if applied = received then 0x00 else 0x01 :=
  apply_ite statusByte _ _ _

/-! ### SET_TIMING (R104) -/

theorem exec_setTiming (l : Link) (tag : Byte) (payload : List Byte) (s : State) :
    exec (.setTiming l tag payload) s = .next (answer l 0x1C tag (setTimingBody payload) s) := rfl

theorem setTimingBody_of_length_ne {payload : List Byte} (h : payload.length ≠ 20) (s : State) :
    setTimingBody payload s = refuse .badLength s := by
  unfold setTimingBody
  split
  · exact absurd rfl h
  · rfl

/-- The fields of a Set Timing request as they are received, in the order of Table 5-5. -/
structure TimingFields where
  boot : Half
  run : Half
  confirm : Byte
  stable : Half
  hpg : Half
  hold : Half
  pulse : Half
  grace : Half
  step : Half
  limit : Byte
  thermal : Byte
  auto : Byte

/-- The twenty bytes of the request. -/
def TimingFields.bytes (f : TimingFields) : List Byte :=
  halfBytes f.boot ++ halfBytes f.run ++ [f.confirm] ++ halfBytes f.stable ++ halfBytes f.hpg ++ halfBytes f.hold ++
    halfBytes f.pulse ++ halfBytes f.grace ++ halfBytes f.step ++ [f.limit, f.thermal, f.auto]

/-- The settings that the fields become, each in its range of Table 5-5. -/
def TimingFields.clamped (f : TimingFields) : TimingSettings where
  bootWindow := clampNat 10 1800 f.boot.toNat
  runTimeout := clampNat 1 600 f.run.toNat
  confirmStage := clampNat 1 15 f.confirm.toNat
  stability := clampNat 0 3600 f.stable.toNat
  hpgTimeout := clampNat 10 5000 f.hpg.toNat
  resetHold := clampNat 10 2000 f.hold.toNat
  warmPulse := clampNat 10 2000 f.pulse.toNat
  warningGrace := clampNat 0 300 f.grace.toNat
  deferStep := clampNat 0 600 f.step.toNat
  deferLimit := clampNat 0 7 f.limit.toNat
  thermalGrace := clampNat 0 60 f.thermal.toNat
  autostart := decide (f.auto ≠ 0)

/-- Any twenty bytes are taken: no state of the sequencer refuses them (R104). -/
theorem setTimingBody_bytes (f : TimingFields) (s : State) :
    setTimingBody f.bytes s =
      (s.withSettings { s.settings with timing := f.clamped },
        some (statusByte (appliedStatus f.bytes (timingPayload f.clamped)) :: timingPayload f.clamped)) := by
  simp only [TimingFields.bytes, TimingFields.clamped, halfBytes, List.cons_append, List.nil_append, setTimingBody,
    readHalf_of_halves]

/-- Set Timing of twenty bytes replaces the group and replies with the values it now holds (R104). -/
theorem answer_setTiming {l : Link} {s : State} (h : Dispatches l s) (tag : Byte) (f : TimingFields) :
    answer l 0x1C tag (setTimingBody f.bytes) s =
      sendReply l 0x1C tag
        ((if timingPayload f.clamped = f.bytes then 0x00 else 0x01) :: timingPayload f.clamped)
        (setReceiver l .hunting (s.withSettings { s.settings with timing := f.clamped })) := by
  obtain ⟨hears, free⟩ := h
  refine answer_of_reply hears free ?_
  simp [setTimingBody_bytes, statusByte_appliedStatus, setReceiver_withSettings]

/-- Settles O55: the settings taken are the received fields brought into range, and the applied bytes are those settings as
the reply writes them. -/
theorem setTimingClampsEveryField : Obligations.SetTimingClampsEveryField := by
  unfold Obligations.SetTimingClampsEveryField
  refine ⟨?taken, ?badLength⟩
  case taken =>
    intro l tag boot run stable hpg hold pulse grace step confirm limit thermal auto received applied x s dispatches
      hx hreceived happlied
    let f : TimingFields := ⟨boot, run, confirm, stable, hpg, hold, pulse, grace, step, limit, thermal, auto⟩
    have inRange : x = f.clamped := by
      simp only [hx, f, TimingFields.clamped, clampNat, Nat.zero_max]
    have written : applied = timingPayload f.clamped := by
      simp only [happlied, inRange, timingPayload, f, TimingFields.clamped, flagByte_decide_ne_zero]
    obtain rfl : received = f.bytes := hreceived
    rw [exec_setTiming, answer_setTiming dispatches, written, inRange]
    rfl
  case badLength =>
    intro l tag payload s ⟨hears, free⟩ wrong
    rw [exec_setTiming, answer_of_reply hears free (setTimingBody_of_length_ne wrong _)]
    rfl

end Sys2Proof.Machine
end

section
/-! SUPPORT. The factory store (chapter 11): Read Factory Word at its block, test by test, and the reading of a single word. -/

namespace Sys2Proof.Machine

/-! ### READ_FACTORY_WORD (R184) -/

theorem exec_readFactoryWord (l : Link) (tag : Byte) (payload : List Byte) (s : State) :
    exec (.readFactoryWord l tag payload) s = .next (answer l 0x1F tag (readFactoryBody payload) s) := rfl

theorem readFactoryBody_of_length_ne {payload : List Byte} (h : payload.length ≠ 2) (s : State) :
    readFactoryBody payload s = refuse .badLength s := by
  unfold readFactoryBody
  split
  · exact absurd rfl h
  · rfl

theorem readFactoryBody_of_out_of_range {first count : Byte}
    (h : 31 < first.toNat ∨ count.toNat = 0 ∨ 32 < first.toNat + count.toNat) (s : State) :
    readFactoryBody [first, count] s = refuse .badValue s :=
  if_pos h

theorem readFactoryBody_of_in_range {first count : Byte} (some_word : 1 ≤ count.toNat)
    (fits : first.toNat + count.toNat ≤ 32) (s : State) :
    readFactoryBody [first, count] s =
      (s, some (statusByte .ok :: first :: count ::
        ((s.store.words.toList.drop first.toNat).take count.toNat).flatMap halfBytes)) :=
  if_neg (by omega)

/-- A range of words within the store is read out as the words stand when the request is taken (R184). -/
theorem exec_readFactoryWord_of_in_range {l : Link} {first count : Byte} {s : State} (h : Dispatches l s)
    (some_word : 1 ≤ count.toNat) (fits : first.toNat + count.toNat ≤ 32) (tag : Byte) :
    exec (.readFactoryWord l tag [first, count]) s =
      .next (sendReply l 0x1F tag
        (statusByte .ok :: first :: count ::
          ((s.store.words.toList.drop first.toNat).take count.toNat).flatMap halfBytes)
        (setReceiver l .hunting s)) := by
  obtain ⟨hears, free⟩ := h
  rw [exec_readFactoryWord, answer_of_reply hears free (readFactoryBody_of_in_range some_word fits _)]
  simp

/-! ### A single word -/

theorem oneByte_toNat {n : Nat} (h : n < 256) : (oneByte n).toNat = n :=
  Nat.mod_eq_of_lt h

theorem vector_take_one_drop {α : Type} {n : Nat} (v : Vector α n) (i : Fin n) :
    (v.toList.drop i.val).take 1 = [v[i]] := by
  rw [List.take_one_drop_eq_of_lt_length (by simp)]
  simp

/-- A request for one word is answered with the two bytes of that word. -/
theorem exec_readFactoryWord_single {l : Link} {s : State} (h : Dispatches l s) (tag : Byte) (i : Fin 32) :
    exec (.readFactoryWord l tag [oneByte i.val, 1]) s =
      .next (sendReply l 0x1F tag (statusByte .ok :: oneByte i.val :: 1 :: halfBytes s.store.words[i])
        (setReceiver l .hunting s)) := by
  have index : (oneByte i.val).toNat = i.val := oneByte_toNat (by omega)
  have one : (1 : Byte).toNat = 1 := rfl
  rw [exec_readFactoryWord_of_in_range h (Nat.le_of_eq one.symm) (by omega), index, one, vector_take_one_drop,
    List.flatMap_singleton]

theorem StoreLaw.word_of_wordWrite {s : State} {w : WordWrite} (law : StoreLaw s) (h : s.store.wordWrite = some w) :
    s.store.words[w.index] = 0xFFFF :=
  law.1 w (by simp [h])

/-- Settles O20: a range in the store is read out, each refusal comes from its test at the block, and a word that is being
programmed is blank by the store law. -/
theorem factoryWordsAreRead : Obligations.FactoryWordsAreRead := by
  unfold Obligations.FactoryWordsAreRead
  refine ⟨?read, ?badValue, ?badLength, ?programming, ?blank⟩
  case read =>
    intro l tag first count s dispatches _ some_word fits
    exact exec_readFactoryWord_of_in_range dispatches some_word fits tag
  case badValue =>
    intro l tag first count s ⟨hears, free⟩ outside
    rw [exec_readFactoryWord, answer_of_reply hears free (readFactoryBody_of_out_of_range outside _)]
    rfl
  case badLength =>
    intro l tag payload s ⟨hears, free⟩ wrong
    rw [exec_readFactoryWord, answer_of_reply hears free (readFactoryBody_of_length_ne wrong _)]
    rfl
  case programming =>
    intro l tag w s dispatches law writing
    rw [exec_readFactoryWord_single dispatches, law.word_of_wordWrite writing]
    rfl
  case blank => rfl

end Sys2Proof.Machine
end

section
/-! SUPPORT. The laws of the device outside a reset: the laws that every operation keeps even midway through a command (Sound),
the sequencer's law that holds between commands (Seated), and the elementary updates that keep them. -/

namespace Sys2Proof.Machine

/-! ### The laws between and within commands -/

/-- The laws that an operation outside a reset keeps also midway through a command: all but those of the levels, timers and
records of the supervisor state. -/
structure Sound (s : State) : Prop where
  settings : SettingsLaw s
  awake : s.resetting = none
  stage : s.seq.stage ≤ 15
  ladder : LadderLaw s
  heater : HeaterLaw s
  fan : FanLaw s
  measurement : MeasurementLaw s
  log : LogLaw s
  keypad : KeypadLaw s
  queue : QueueLaw s
  link : LinkLaw s
  waiting : WaitingLaw s
  store : StoreLaw s

/-- The levels of Table 4-1 and the timers and records that belong to the supervisor state alone (R63, R64, R66, R67, R107). -/
structure Seated (s : State) : Prop where
  powered : s.seq.hpwrEn = poweredIn s.seq.state
  held : s.seq.hrst = heldInReset s.seq.state
  warning : s.seq.warning.isSome = decide (s.seq.state = .warned)
  grace : s.seq.timers.grace.isSome = decide (s.seq.state = .warned)
  restart : s.seq.restart.isSome = decide (s.seq.state = .resetPulse ∨ s.seq.state = .powerDown)
  hpg : s.seq.timers.hpg.isSome = decide (s.seq.state = .powering)
  resetHold : s.seq.timers.resetHold.isSome = decide (s.seq.state = .resetHold)
  bootWindow : s.seq.timers.bootWindow.isSome = decide (s.seq.state = .booting)
  run : s.seq.timers.run.isSome = decide (s.seq.state = .running)
  pulse : s.seq.timers.pulse.isSome = decide (s.seq.state = .resetPulse)
  offInterval : s.seq.timers.offInterval.isSome = decide (s.seq.state = .powerDown)
  powerOff : s.seq.timers.powerOff.isSome = decide (s.seq.state = .stopping)
  stability : s.seq.timers.stability.isSome = true → s.seq.state = .running
  warm : s.thermal.warmTimer.isSome = true → s.seq.state = .warming

/-- What holds between two commands outside a reset. -/
structure Steady (s : State) : Prop where
  sound : Sound s
  seated : Seated s

theorem resetLaw_of_awake {s : State} (h : s.resetting = none) : ResetLaw s := by
  simp [ResetLaw, h]

theorem Steady.lawful {s : State} (h : Steady s) : Lawful s where
  settings := h.sound.settings
  reset := resetLaw_of_awake h.sound.awake
  sequencer :=
    ⟨fun _ => ⟨h.seated.powered, h.seated.held⟩, h.seated.warning, h.seated.grace, h.seated.restart, h.seated.hpg,
      h.seated.resetHold, h.seated.bootWindow, h.seated.run, h.seated.pulse, h.seated.offInterval, h.seated.powerOff,
      h.seated.stability, h.seated.warm, h.sound.stage⟩
  ladder := h.sound.ladder
  heater := h.sound.heater
  fan := h.sound.fan
  measurement := h.sound.measurement
  log := h.sound.log
  keypad := h.sound.keypad
  queue := h.sound.queue
  link := h.sound.link
  waiting := h.sound.waiting
  store := h.sound.store

theorem Lawful.steady {s : State} (h : Lawful s) (awake : s.resetting = none) : Steady s := by
  obtain ⟨levels, warning, grace, restart, hpg, resetHold, bootWindow, run, pulse, offInterval, powerOff, stability, warm,
    stage⟩ := h.sequencer
  obtain ⟨powered, held⟩ := levels awake
  exact
    ⟨⟨h.settings, awake, stage, h.ladder, h.heater, h.fan, h.measurement, h.log, h.keypad, h.queue, h.link, h.waiting,
        h.store⟩,
      ⟨powered, held, warning, grace, restart, hpg, resetHold, bootWindow, run, pulse, offInterval, powerOff, stability,
        warm⟩⟩

/-- A state with the same sequencer and warm timer is seated with it. -/
theorem Seated.of_same {s t : State} (h : Seated s) (seq : t.seq = s.seq)
    (warm : t.thermal.warmTimer = s.thermal.warmTimer) : Seated t := by
  obtain ⟨h1, h2, h3, h4, h5, h6, h7, h8, h9, h10, h11, h12, h13, h14⟩ := h
  constructor <;> simp only [seq, warm] <;> assumption

/-! ### Settings -/

theorem Sound.inRange {s : State} (h : Sound s) : SettingsInRange s.settings := h.settings.1

theorem Sound.fanMinimum_le {s : State} (h : Sound s) : s.settings.fan.minimum ≤ 1000 := by
  obtain ⟨-, -, -, ⟨minimum, -⟩, -⟩ := h.inRange
  exact minimum

/-! ### Links -/

theorem bump_le {n : Nat} (h : n ≤ 65535) : bump n ≤ 65535 := by
  rw [bump_eq n h]
  omega

theorem oneLinkLaw_sent {x : LinkState} (h : OneLinkLaw x) {f : Frame} (short : f.payload.length ≤ 200) :
    OneLinkLaw
      { x with
        output := if x.output.length < 4 then x.output ++ [f] else x.output
        discarded := if x.output.length < 4 then x.discarded else bump x.discarded } := by
  obtain ⟨room, fits, crc, length, timeouts, strays, discarded⟩ := h
  refine ⟨?_, ?_, crc, length, timeouts, strays, ?_⟩
  · dsimp only
    split
    · rw [List.length_append, List.length_singleton]
      omega
    · exact room
  · intro g mem
    dsimp only at mem
    split at mem
    · rcases List.mem_append.mp mem with old | new
      · exact fits g old
      · rw [List.mem_singleton.mp new]
        exact short
    · exact fits g mem
  · dsimp only
    split
    · exact discarded
    · exact bump_le discarded

/-- The two links replaced, with their waiting flags kept. -/
theorem Sound.withLinks {s : State} (h : Sound s) {x y : LinkState} (hx : OneLinkLaw x) (hy : OneLinkLaw y)
    (wx : x.waiting = s.host.waiting) (wy : y.waiting = s.service.waiting) :
    Sound { s with host := x, service := y } :=
  { h with
    link := ⟨hx, hy⟩
    waiting := by
      obtain ⟨host, service, current⟩ := h.waiting
      exact ⟨by rw [wx]; exact host, by rw [wy]; exact service, current⟩ }

theorem Sound.withLink {s : State} (h : Sound s) (l : Link) {x : LinkState} (hx : OneLinkLaw x)
    (w : x.waiting = (s.link l).waiting) : Sound (s.withLink l x) := by
  obtain ⟨host, service⟩ := h.link
  cases l
  · exact h.withLinks hx service w rfl
  · exact h.withLinks host hx rfl w

theorem Sound.oneLink {s : State} (h : Sound s) (l : Link) : OneLinkLaw (s.link l) := by
  cases l
  · exact h.link.1
  · exact h.link.2

theorem Sound.sendFrame {s : State} (h : Sound s) (l : Link) {f : Frame} (short : f.payload.length ≤ 200) :
    Sound (sendFrame l f s) := by
  rw [sendFrame_eq]
  exact h.withLink l (oneLinkLaw_sent (h.oneLink l) short) rfl

theorem Sound.sendReply {s : State} (h : Sound s) (l : Link) (kind tag : Byte) {payload : List Byte}
    (short : payload.length ≤ 200) : Sound (sendReply l kind tag payload s) :=
  h.sendFrame l short

theorem Sound.sendNotice {s : State} (h : Sound s) (kind : Byte) {payload : List Byte} (short : payload.length ≤ 200) :
    Sound (sendNotice kind payload s) :=
  h.sendFrame .host short

theorem Sound.setReceiver {s : State} (h : Sound s) (l : Link) (r : Receiver) : Sound (setReceiver l r s) :=
  h.withLink l (h.oneLink l) rfl

/-! ### Attention causes -/

theorem causeWeight_within (c : Cause) : causeWeight c &&& ~~~causeWeights = 0 := by
  cases c <;> decide

/-- A latched cause, which is set by an event and not by the length of the Key Queue (Table 10-6). -/
def Latched (c : Cause) : Prop := c ≠ .keys ∧ c ≠ .keysHalf ∧ c ≠ .keysFull

theorem or_within {x y : Half} (hx : x &&& ~~~causeWeights = 0) (hy : y &&& ~~~causeWeights = 0) :
    (x ||| y) &&& ~~~causeWeights = 0 := by
  rw [BitVec.and_comm, BitVec.and_or_distrib_left, BitVec.and_comm _ x, BitVec.and_comm _ y, hx, hy]
  rfl

theorem and_within {x : Half} (hx : x &&& ~~~causeWeights = 0) (y : Half) : (x &&& y) &&& ~~~causeWeights = 0 := by
  rw [BitVec.and_assoc, BitVec.and_comm y, ← BitVec.and_assoc, hx]
  exact BitVec.zero_and

/-- The pending set replaced by one with the same key causes. -/
theorem Sound.withCauses {s : State} (h : Sound s) {x : Half} (within : x &&& ~~~causeWeights = 0)
    (keys : holdsCause x .keys = holdsCause s.causes .keys)
    (half : holdsCause x .keysHalf = holdsCause s.causes .keysHalf)
    (full : holdsCause x .keysFull = holdsCause s.causes .keysFull) : Sound (s.withCauses x) :=
  { h with
    queue := by
      obtain ⟨room, k, kh, kf, -, gaps, lost, flushed⟩ := h.queue
      exact ⟨room, keys.trans k, half.trans kh, full.trans kf, within, gaps, lost, flushed⟩ }

theorem Sound.causesWithin {s : State} (h : Sound s) : s.causes &&& ~~~causeWeights = 0 := by
  obtain ⟨-, -, -, -, within, -⟩ := h.queue
  exact within

theorem Sound.raise {s : State} (h : Sound s) {c : Cause} (latched : Latched c) : Sound (raise c s) := by
  obtain ⟨notKeys, notHalf, notFull⟩ := latched
  have set : Sound (s.withCauses (s.causes ||| causeWeight c)) :=
    h.withCauses (or_within h.causesWithin (causeWeight_within c)) (by simp [holdsCause_or, notKeys])
      (by simp [holdsCause_or, notHalf]) (by simp [holdsCause_or, notFull])
  unfold Machine.raise
  split
  · exact h
  · split
    · exact set.sendNotice 0x40 (by simp [halfBytes])
    · exact set

/-! ### The Event Log -/

theorem runsOn_append (first next : Full) (ring : List LogRecord) (r : LogRecord) :
    runsOn first next (ring ++ [r]) = (runsOn first r.seq ring && decide (followingSeq r.seq = next)) := by
  induction ring generalizing first with
  | nil =>
    by_cases h : r.seq = first
    · simp [runsOn, h]
    · simp [runsOn, h, Ne.symm h]
  | cons a rest ih => simp [runsOn, ih, Bool.and_assoc]

theorem consecutive_iff (log : EventLog) :
    consecutive log = true ↔ (∃ first, runsOn first log.nextSeq log.ring = true) ∧ (log.ring = [] → log.nextSeq = 1) := by
  unfold consecutive
  rcases e : log.ring with _ | ⟨r, rest⟩
  · simp [runsOn]
  · simp [runsOn]

theorem runsOn_tail {first next : Full} {ring : List LogRecord} (h : runsOn first next ring = true) :
    ∃ second, runsOn second next ring.tail = true := by
  cases ring with
  | nil => exact ⟨first, h⟩
  | cons a rest => exact ⟨followingSeq first, by simpa [runsOn] using (Bool.and_eq_true_iff.mp h).2⟩

theorem followingSeq_ne_zero (q : Full) : followingSeq q ≠ 0 := by
  unfold followingSeq
  split
  · decide
  · next h =>
    intro e
    apply h
    apply BitVec.eq_of_toNat_eq
    have := congrArg BitVec.toNat e
    simp only [BitVec.toNat_add, BitVec.toNat_allOnes] at this ⊢
    have lt := q.isLt
    simp at this
    omega

/-- What the laws say of the log, but that a ring is empty through a power-on reset only (R155, R157, R160). -/
abbrev LogRuns (log : EventLog) : Prop :=
  log.ring.length ≤ 32 ∧ consecutive log = true ∧ log.nextSeq ≠ 0 ∧ (∀ r ∈ log.ring, r.seq ≠ 0) ∧
    (log.wrapped = false → log.overwrites < 65535 → log.nextSeq.toNat = log.overwrites + log.ring.length + 1) ∧
    log.overwrites ≤ 65535 ∧ ∀ r ∈ log.ring, ∀ t ∈ r.temperature.toList, TemperatureInRange t

theorem logLaw_iff (s : State) :
    LogLaw s ↔ LogRuns s.log ∧ (s.log.ring = [] → s.resetting = some .powerOn) := by
  simp only [LogLaw, LogRuns, and_assoc]

theorem addRecord_ring_length (r : LogRecord) (log : EventLog) :
    (addRecord r log).ring.length = if log.ring.length < 32 then log.ring.length + 1 else log.ring.length - 1 + 1 := by
  unfold addRecord Config.logRecords
  split <;> simp

theorem addRecord_runs {log : EventLog} (h : LogRuns log) {r : LogRecord} (seq : r.seq = log.nextSeq)
    (temperature : ∀ t ∈ r.temperature.toList, TemperatureInRange t) : LogRuns (addRecord r log) := by
  obtain ⟨room, run, numbered, numbers, counts, overwrites, temperatures⟩ := h
  have next : (addRecord r log).nextSeq = followingSeq log.nextSeq := rfl
  have older (P : LogRecord → Prop) (old : ∀ x ∈ log.ring, P x) (new : P r) : ∀ x ∈ (addRecord r log).ring, P x := by
    intro x mem
    unfold addRecord at mem
    dsimp only at mem
    split at mem <;> rcases List.mem_append.mp mem with m | m
    · exact old x m
    · rwa [List.mem_singleton.mp m]
    · exact old x (List.mem_of_mem_tail m)
    · rwa [List.mem_singleton.mp m]
  refine ⟨?_, ?_, ?_, older _ numbers (seq ▸ numbered), ?_, ?_, older _ temperatures temperature⟩
  · rw [addRecord_ring_length]
    split <;> omega
  · obtain ⟨⟨first, runs⟩, -⟩ := (consecutive_iff log).mp run
    obtain ⟨second, runsTail⟩ := runsOn_tail runs
    refine (consecutive_iff _).mpr ⟨?_, fun e => absurd (mem_addRecord r log) (by simp [e])⟩
    rw [next]
    unfold addRecord
    dsimp only
    split
    · exact ⟨first, by simp [runsOn_append, seq, runs]⟩
    · exact ⟨second, by simp [runsOn_append, seq, runsTail]⟩
  · rw [next]
    exact followingSeq_ne_zero _
  · intro unwrapped few
    rw [addRecord_ring_length, next]
    simp only [addRecord, Config.logRecords, Bool.or_eq_false_iff, decide_eq_false_iff_not] at unwrapped few ⊢
    obtain ⟨before, notLast⟩ := unwrapped
    have lt := log.nextSeq.isLt
    have notMax : log.nextSeq.toNat ≠ 4294967295 := fun e => notLast (BitVec.eq_of_toNat_eq (by simpa using e))
    have stepped : (followingSeq log.nextSeq).toNat = log.nextSeq.toNat + 1 := by
      rw [followingSeq, if_neg notLast, BitVec.toNat_add]
      simp
      omega
    have counted := counts before
    rw [stepped]
    split at few
    · next h => rw [if_pos h, if_pos h, counted few]; omega
    · next h =>
      rw [bump_eq _ overwrites] at few
      rw [if_neg h, if_neg h, bump_eq _ overwrites, counted (by omega)]
      omega
  · unfold addRecord
    dsimp only
    split
    · exact overwrites
    · exact bump_le overwrites

theorem Sound.withLog {s : State} (h : Sound s) {x : EventLog} (runs : LogRuns x) (some_record : x.ring ≠ []) :
    Sound (s.withLog x) :=
  { h with log := (logLaw_iff _).mpr ⟨runs, fun e => absurd e some_record⟩ }

/-- A reading lies in range (R12). -/
theorem reading_inRange {s : State} (h : MeasurementLaw s) {c : Channel} {t : Int} (r : reading s c = some t) :
    TemperatureInRange t := by
  obtain ⟨records, -⟩ := h
  obtain ⟨-, temperatures, -⟩ := records c
  unfold reading at r
  split at r
  · exact temperatures t (by simpa using r)
  · cases r

theorem appendLog_runs {s : State} (h : LogRuns s.log) (m : MeasurementLaw s) (kind : RecordKind) (detail : Half) :
    LogRuns (appendLog kind detail s).log := by
  rw [appendLog_log]
  exact addRecord_runs h rfl fun t mem => reading_inRange m (by simpa [stampRecord] using mem)

theorem Sound.appendLog {s : State} (h : Sound s) (kind : RecordKind) (detail : Half) : Sound (appendLog kind detail s) := by
  have runs := appendLog_runs ((logLaw_iff s).mp h.log).1 h.measurement kind detail
  rw [appendLog_log] at runs
  exact (h.withLog runs (List.ne_nil_of_mem (mem_addRecord _ _))).raise (by simp [Latched])

/-! ### The sequencer, the ladder and the Thermal Controller -/

theorem Sound.withSeq {s : State} (h : Sound s) {x : Sequencer} (powered : x.hpwrEn = s.seq.hpwrEn) (stage : x.stage ≤ 15) :
    Sound (s.withSeq x) :=
  { h with
    stage := stage
    fan := ⟨fun on => h.fan.1 (powered ▸ on), h.fan.2⟩ }

theorem Sound.withLadder {s : State} (h : Sound s) {x : LadderPosition}
    (law : ∃ i : x.rung < s.settings.ladder.length, x.failures ≤ (s.settings.ladder[x.rung]'i).attempts) :
    Sound (s.withLadder x) :=
  { h with ladder := law }

/-- The Thermal Controller replaced: the fan duty stays where R50 has it, and a trip is only set with every demand at 0. -/
theorem Sound.withThermal {s : State} (h : Sound s) {x : Thermal}
    (trip : x.tripped = true → ∀ z : Zone, s.zones[z].demandDuty = 0)
    (minimum : s.seq.hpwrEn = true → s.settings.fan.minimum ≤ x.fanDuty) (most : x.fanDuty ≤ 1000) :
    Sound (s.withThermal x) :=
  { h with
    heater := fun z =>
      have ⟨granted, demand, _, frame⟩ := h.heater z
      ⟨granted, demand, fun tripped => trip tripped z, frame⟩
    fan := ⟨minimum, most⟩ }

theorem Sound.noDemandWhileTripped {s : State} (h : Sound s) (t : s.thermal.tripped = true) (z : Zone) :
    s.zones[z].demandDuty = 0 := by
  obtain ⟨-, -, tripped, -⟩ := h.heater z
  exact tripped t

/-- The Thermal Controller replaced, with its fan duty and its overheat status kept. -/
theorem Sound.withThermal_same {s : State} (h : Sound s) {x : Thermal} (tripped : x.tripped = s.thermal.tripped)
    (duty : x.fanDuty = s.thermal.fanDuty) : Sound (s.withThermal x) :=
  h.withThermal (fun t => h.noDemandWhileTripped (tripped ▸ t)) (fun on => duty ▸ h.fan.1 on) (duty ▸ h.fan.2)

theorem Sound.withZones {s : State} (h : Sound s) {x : Vector ZoneState 4} (law : HeaterLaw (s.withZones x)) :
    Sound (s.withZones x) :=
  { h with heater := law }

theorem Sound.withKeypad {s : State} (h : Sound s) {x : Keypad} (law : KeypadLaw (s.withKeypad x)) :
    Sound (s.withKeypad x) :=
  { h with keypad := law }

theorem Sound.withChords {s : State} (h : Sound s) (x : Vector ChordState 4) : Sound (s.withChords x) :=
  { h with }

/-- The Measurement Unit replaced, with its one-shot list kept. -/
theorem Sound.withMeas {s : State} (h : Sound s) {x : Measurement} (law : MeasurementLaw (s.withMeas x))
    (shots : x.oneShots = s.meas.oneShots) (current : x.current = some .oneShot → x.oneShots ≠ []) :
    Sound (s.withMeas x) :=
  { h with
    measurement := law
    waiting := by
      obtain ⟨host, service, -⟩ := h.waiting
      have same (l : Link) : repliesAwaited (s.withMeas x) l = repliesAwaited s l := by simp [repliesAwaited, shots]
      exact ⟨(same .host).trans host, (same .service).trans service, current⟩ }

/-- The settings replaced by others in range, with the rungs and the fan minimum kept. -/
theorem Sound.withSettings {s : State} (h : Sound s) {x : Settings} (law : SettingsInRange x)
    (rungs : x.ladder = s.settings.ladder) (minimum : x.fan.minimum = s.settings.fan.minimum) : Sound (s.withSettings x) :=
  { h with
    settings := ⟨law, h.settings.2⟩
    ladder := by
      change ∃ i : s.ladder.rung < x.ladder.length, s.ladder.failures ≤ (x.ladder[s.ladder.rung]'i).attempts
      rw [rungs]
      exact h.ladder
    fan := ⟨fun on => minimum ▸ h.fan.1 on, h.fan.2⟩ }

/-- The stores replaced, with the image and the two writes that a reply is awaited of kept. -/
theorem Sound.withStore {s : State} (h : Sound s) {x : Store} (image : x.image = s.store.image)
    (save : x.imageWrite = s.store.imageWrite) (word : x.wordWrite = s.store.wordWrite) (law : StoreLaw (s.withStore x)) :
    Sound (s.withStore x) :=
  { h with
    settings := by
      obtain ⟨copy, snapshot, good⟩ := h.settings
      exact ⟨copy, by simpa [save] using snapshot, by simpa [image] using good⟩
    waiting := by
      obtain ⟨host, service, current⟩ := h.waiting
      have same (l : Link) : repliesAwaited (s.withStore x) l = repliesAwaited s l := by simp [repliesAwaited, save, word]
      exact ⟨(same .host).trans host, (same .service).trans service, current⟩
    store := law }

/-! ### The Key Queue -/

/-- What the laws say of the Key Queue itself (R142 to R144). -/
abbrev QueueInRange (q : KeyQueue) : Prop :=
  q.entries.length ≤ 64 ∧ (∀ e ∈ q.entries, ∀ g ∈ e.gap.toList, 1 ≤ g ∧ g ≤ 255) ∧ q.lost ≤ 65535 ∧ q.flushed ≤ 65535

theorem Sound.queueInRange {s : State} (h : Sound s) : QueueInRange s.queue := by
  obtain ⟨room, -, -, -, -, gaps, lost, flushed⟩ := h.queue
  exact ⟨room, gaps, lost, flushed⟩

theorem storeEvent_inRange {q : KeyQueue} (h : QueueInRange q) (kind : KeyKind) (time : Full) :
    QueueInRange (storeEvent kind time q) := by
  obtain ⟨room, gaps, lost, flushed⟩ := h
  unfold storeEvent Config.queueEntries
  split
  · next space =>
    refine ⟨by simp; omega, ?_, Nat.zero_le _, flushed⟩
    intro e mem g inGap
    rcases List.mem_append.mp mem with old | new
    · exact gaps e old g inGap
    · rw [List.mem_singleton.mp new] at inGap
      dsimp only at inGap
      split at inGap
      · rw [Option.toList_some, List.mem_singleton] at inGap
        omega
      · simp at inGap
  · exact ⟨room, gaps, bump_le lost, flushed⟩

theorem flushedQueue_inRange {q : KeyQueue} : QueueInRange (flushedQueue q) := by
  simp [QueueInRange, flushedQueue, Config.countLimit]

theorem followLevel_within {c : Cause} {b : Bool} {s : State} (h : s.causes &&& ~~~causeWeights = 0) :
    (followLevel c b s).causes &&& ~~~causeWeights = 0 := by
  rw [followLevel_causes]
  split
  · exact or_within h (causeWeight_within c)
  · exact and_within h _

theorem followQueue_within {s : State} (h : s.causes &&& ~~~causeWeights = 0) :
    (followQueue s).causes &&& ~~~causeWeights = 0 :=
  followLevel_within (followLevel_within (followLevel_within h))

/-- The Key Queue and its causes in order, however the causes stood before (R145). -/
theorem followQueue_law {s : State} (h : QueueInRange s.queue) (within : s.causes &&& ~~~causeWeights = 0) :
    QueueLaw (followQueue s) := by
  obtain ⟨room, gaps, lost, flushed⟩ := h
  simp only [QueueLaw, followQueue_keeps]
  exact ⟨room, holdsCause_followQueue .keys s, holdsCause_followQueue .keysHalf s, holdsCause_followQueue .keysFull s,
    followQueue_within within, gaps, lost, flushed⟩

/-- An operation that hands frames to the host link only. -/
structure HostSends (s t : State) : Prop where
  law : OneLinkLaw s.host → OneLinkLaw t.host
  waiting : t.host.waiting = s.host.waiting

theorem HostSends.refl (s : State) : HostSends s s := ⟨id, rfl⟩

theorem HostSends.trans {s t u : State} (h : HostSends s t) (g : HostSends t u) : HostSends s u :=
  ⟨g.law ∘ h.law, g.waiting.trans h.waiting⟩

theorem sendNotice_hostSends (kind : Byte) {payload : List Byte} (short : payload.length ≤ 200) (s : State) :
    HostSends s (sendNotice kind payload s) := by
  refine ⟨fun h => ?_, (sendFrame_link .host .host _ s).2⟩
  rw [sendNotice, sendFrame_eq]
  exact oneLinkLaw_sent h short

theorem raise_hostSends (c : Cause) (s : State) : HostSends s (raise c s) := by
  unfold raise
  split
  · exact .refl s
  · split
    · have sent := sendNotice_hostSends 0x40 (payload := oneByte (causePosition c) :: halfBytes (s.causes ||| causeWeight c))
        (by simp [halfBytes]) (s.withCauses (s.causes ||| causeWeight c))
      exact ⟨sent.law, sent.waiting⟩
    · exact ⟨id, rfl⟩

theorem followLevel_hostSends (c : Cause) (b : Bool) (s : State) : HostSends s (followLevel c b s) := by
  unfold followLevel
  split
  · exact raise_hostSends c s
  · exact ⟨id, rfl⟩

theorem followQueue_hostSends (s : State) : HostSends s (followQueue s) :=
  (followLevel_hostSends _ _ _).trans ((followLevel_hostSends _ _ _).trans (followLevel_hostSends _ _ _))

/-- The Key Queue replaced, and its causes made to follow (R145). -/
theorem Sound.followQueue {s : State} (h : Sound s) {q : KeyQueue} (inRange : QueueInRange q) :
    Sound (followQueue (s.withQueue q)) := by
  have law : QueueLaw (Machine.followQueue (s.withQueue q)) :=
    followQueue_law (s := s.withQueue q) inRange h.causesWithin
  have sends := followQueue_hostSends (s.withQueue q)
  obtain ⟨settings, awake, stage, ladder, heater, fan, measurement, log, keypad, queue, link, waiting, store⟩ := h
  constructor
  case queue => exact law
  case link => exact ⟨sends.law link.1, by rw [(followQueue_keeps _).2.2.2.2.2.2.1]; exact link.2⟩
  case waiting =>
    have same (l : Link) : repliesAwaited (Machine.followQueue (s.withQueue q)) l = repliesAwaited s l := by
      simp [repliesAwaited]
    simp only [WaitingLaw, same, sends.waiting, followQueue_keeps]
    exact waiting
  case ladder =>
    simp only [LadderLaw, followQueue_keeps]
    exact ladder
  case measurement =>
    simp only [MeasurementLaw, followQueue_keeps]
    exact measurement
  case log =>
    simp only [LogLaw, followQueue_keeps]
    exact log
  all_goals simp only [SettingsLaw, HeaterLaw, FanLaw, KeypadLaw, StoreLaw, followQueue_keeps]
  all_goals assumption

theorem Sound.keyEvent {s : State} (h : Sound s) (kind : KeyKind) : Sound (keyEvent kind s) :=
  h.followQueue (storeEvent_inRange h.queueInRange kind s.timeBase)

theorem Sound.flush {s : State} (h : Sound s) : Sound (flush s) :=
  h.followQueue flushedQueue_inRange

end Sys2Proof.Machine
end

section
/-! SUPPORT. The operations of the Host Power Sequencer, the Restart Ladder and the boot-slot cell keep the laws outside a
reset, and the entered supervisor state has its levels, timers and records. -/

namespace Sys2Proof.Machine

/-! ### Entering a state -/

theorem Sound.enterState {s : State} (h : Sound s) (st : SupervisorState) : Sound (enterState st s) :=
  { h with
    fan := by
      have minimum := h.fanMinimum_le
      obtain ⟨least, most⟩ := h.fan
      simp only [FanLaw, enterState_seq, enterState_thermal, enterState_keeps, raisedDuty]
      constructor
      · intro on
        by_cases was : s.seq.hpwrEn = true
        · simp [was, least was]
        · simp [was, on]
      · split <;> omega }

theorem Sound.mapTimers {s : State} (h : Sound s) (f : SequencerTimers → SequencerTimers) : Sound (mapTimers f s) :=
  h.withSeq rfl h.stage

theorem Sound.setStage {s : State} (h : Sound s) {n : Nat} (le : n ≤ 15) : Sound (setStage n s) :=
  h.withSeq rfl le

/-- A supervisor state without a timer or a record of its own is seated at its entry. -/
theorem enterState_seated {st : SupervisorState} (plain : st = .off ∨ st = .cooling ∨ st = .lockedOut ∨ st = .warming)
    (s : State) : Seated (enterState st s) := by
  rcases plain with rfl | rfl | rfl | rfl <;> constructor <;> simp [SequencerTimers.stopped]

/-- Entering a state whatever the sequencer was before: the records and timers that the entry then sets decide. -/
theorem Steady.enterState {s : State} (h : Sound s) {st : SupervisorState}
    (plain : st = .off ∨ st = .cooling ∨ st = .lockedOut ∨ st = .warming) : Steady (enterState st s) :=
  ⟨h.enterState st, enterState_seated plain s⟩

theorem Steady.appendLog {s : State} (h : Steady s) (kind : RecordKind) (detail : Half) : Steady (appendLog kind detail s) :=
  ⟨h.sound.appendLog kind detail, h.seated.of_same (by simp) (by simp)⟩

theorem Steady.raise {s : State} (h : Steady s) {c : Cause} (latched : Latched c) : Steady (raise c s) :=
  ⟨h.sound.raise latched, h.seated.of_same (by simp) (by simp)⟩

theorem Steady.flush {s : State} (h : Steady s) : Steady (flush s) :=
  ⟨h.sound.flush, h.seated.of_same (by simp) (by simp)⟩

theorem Steady.keyEvent {s : State} (h : Steady s) (kind : KeyKind) : Steady (keyEvent kind s) :=
  ⟨h.sound.keyEvent kind, h.seated.of_same (by simp) (by simp)⟩

theorem Steady.sendFrame {s : State} (h : Steady s) (l : Link) {f : Frame} (short : f.payload.length ≤ 200) :
    Steady (sendFrame l f s) :=
  ⟨h.sound.sendFrame l short, h.seated.of_same (by simp) (by simp)⟩

theorem Steady.sendReply {s : State} (h : Steady s) (l : Link) (kind tag : Byte) {payload : List Byte}
    (short : payload.length ≤ 200) : Steady (sendReply l kind tag payload s) :=
  h.sendFrame l short

theorem Steady.setReceiver {s : State} (h : Steady s) (l : Link) (r : Receiver) : Steady (setReceiver l r s) :=
  ⟨h.sound.setReceiver l r, h.seated.of_same (by simp) (by simp)⟩

/-! ### The way up -/

theorem Steady.enterResetHold {s : State} (h : Sound s) : Steady (enterResetHold s) :=
  ⟨(h.enterState _).mapTimers _, by constructor <;> simp [Machine.enterResetHold, startTimer, SequencerTimers.stopped]⟩

theorem Steady.enterBooting {s : State} (h : Sound s) : Steady (enterBooting s) :=
  ⟨(h.enterState _).mapTimers _, by constructor <;> simp [Machine.enterBooting, startTimer, SequencerTimers.stopped]⟩

theorem Steady.startPowering {s : State} (h : Sound s) : Steady (startPowering s) := by
  have up : Sound (mapTimers (fun t => { t with hpg := startTimer s.settings.timing.hpgTimeout })
      (Machine.flush (Machine.appendLog .hostStart 0 (Machine.setStage 0 (Machine.enterState .powering s))))) :=
    (((h.enterState _).setStage (Nat.zero_le _)).appendLog _ _).flush.mapTimers _
  unfold Machine.startPowering
  dsimp only
  split
  · exact .enterResetHold up
  · exact ⟨up, by constructor <;> simp [startTimer, SequencerTimers.stopped]⟩

theorem Steady.enterWarming {s : State} (h : Sound s) : Steady (enterWarming s) := by
  unfold Machine.enterWarming
  dsimp only
  generalize (if (Machine.enterState .warming s).settings.limits.warmTimeout = 0 then none
    else startTimer ((Machine.enterState .warming s).settings.limits.warmTimeout * 60000)) = warm
  have entered := h.enterState .warming
  have w : Sound ((Machine.enterState .warming s).withThermal
      { (Machine.enterState .warming s).thermal with warmTimer := warm }) :=
    entered.withThermal_same rfl rfl
  split
  · exact .startPowering w
  · have seated := enterState_seated (.inr (.inr (.inr rfl))) s
    exact ⟨w, { seated with warm := fun _ => rfl }⟩

theorem Sound.nonempty_ladder {s : State} (h : Sound s) : 0 < s.settings.ladder.length := by
  obtain ⟨i, -⟩ := h.ladder
  omega

theorem Sound.ladderReset {s : State} (h : Sound s) : Sound (ladderReset s) :=
  h.withLadder ⟨h.nonempty_ladder, Nat.zero_le _⟩

theorem Sound.stabilityReached {s : State} (h : Sound s) : Sound (stabilityReached s) :=
  ((h.mapTimers _).appendLog _ _).ladderReset

theorem Seated.stopStability {s : State} (h : Seated s) :
    Seated (Machine.mapTimers (fun t => { t with stability := none }) s) :=
  { h with stability := by simp }

theorem Steady.stabilityReached {s : State} (h : Steady s) : Steady (stabilityReached s) :=
  ⟨h.sound.stabilityReached, h.seated.stopStability.of_same (by simp [Machine.stabilityReached]) (by simp)⟩

theorem Steady.startRunTimeout {s : State} (h : Steady s) (running : s.seq.state = .running) : Steady (startRunTimeout s) :=
  ⟨h.sound.mapTimers _, { h.seated with run := by simp [Machine.startRunTimeout, running, startTimer] }⟩

theorem Steady.enterRunning {s : State} (h : Sound s) (kind : RecordKind) (detail : Half) :
    Steady (enterRunning kind detail s) := by
  have r : Steady (Machine.startRunTimeout (Machine.appendLog kind detail (Machine.enterState .running s))) :=
    ⟨((h.enterState _).appendLog _ _).mapTimers _, by
      constructor <;> simp [Machine.startRunTimeout, startTimer, SequencerTimers.stopped]⟩
  unfold Machine.enterRunning
  dsimp only
  split
  · exact r.stabilityReached
  · exact ⟨r.sound.mapTimers _, { r.seated with stability := fun _ => by simp [Machine.startRunTimeout] }⟩

/-! ### Restarting and switching off -/

theorem Steady.enterRestarting {s : State} (h : Sound s) (action : RestartAction) (off : Nat) (source : RestartSource) :
    Steady (enterRestarting action off source s) := by
  cases action with
  | warm =>
    have r : Sound (Machine.mapTimers (fun t => { t with pulse := startTimer s.settings.timing.warmPulse })
        (Machine.enterState .resetPulse s)) := (h.enterState _).mapTimers _
    unfold Machine.enterRestarting
    apply Steady.appendLog
    refine ⟨r.withSeq rfl h.stage, ?_⟩
    constructor <;> simp [startTimer, SequencerTimers.stopped]
  | cold =>
    have r : Sound (Machine.mapTimers (fun t => { t with offInterval := startTimer (off * 1000) })
        (Machine.enterState .powerDown s)) := (h.enterState _).mapTimers _
    unfold Machine.enterRestarting
    apply Steady.appendLog
    refine ⟨r.withSeq rfl h.stage, ?_⟩
    constructor <;> simp [startTimer, SequencerTimers.stopped]

theorem Steady.enterOff {s : State} (h : Sound s) (detail : Half) : Steady (enterOff detail s) :=
  (Steady.enterState h (.inl rfl)).appendLog _ _

/-- A power-off timer started in STOPPING, whether or not one ran before (R80). -/
theorem Steady.startStopTimer {s : State} (h : Sound s) (ms : Nat)
    (stopping : Seated (Machine.mapTimers (fun t => { t with powerOff := startTimer ms }) s)) :
    Steady (startStopTimer ms s) := by
  unfold Machine.startStopTimer
  split
  · exact .enterOff h 0
  · exact ⟨h.mapTimers _, stopping⟩

theorem Steady.stopHost {s : State} (h : Sound s) (delay : Nat) : Steady (stopHost delay s) := by
  unfold Machine.stopHost
  dsimp only
  split
  · refine .startStopTimer ((h.enterState _).appendLog _ _) _ ?_
    constructor <;> simp [startTimer, SequencerTimers.stopped]
  · refine .startStopTimer (h.enterState _) _ ?_
    constructor <;> simp [startTimer, SequencerTimers.stopped]

theorem Steady.endThermalWarning {s : State} (h : Sound s) : Steady (endThermalWarning s) := by
  unfold Machine.endThermalWarning
  split
  · exact .enterState h (.inr (.inl rfl))
  · exact .enterWarming h

/-! ### Warnings -/

theorem Steady.carryOut {s : State} (h : Steady s) : Steady (carryOut s) := by
  unfold Machine.carryOut
  split
  · exact h
  · split
    · exact .enterRestarting h.sound _ _ _
    · exact .enterRestarting h.sound _ _ _
    · exact .endThermalWarning h.sound

theorem Steady.sendRestartPending {s : State} (h : Steady s) (w : Warning) : Steady (sendRestartPending w s) :=
  h.sendFrame .host (by simp)

theorem Steady.announceWarning {s : State} (h : Steady s) (w : Warning) : Steady (announceWarning w s) := by
  have n : Steady (Machine.raise .restartPending (Machine.sendRestartPending w
      (Machine.appendLog .warningIssued (BitVec.ofNat 16 (warningCauseCode w.cause)) s))) :=
    ((h.appendLog _ _).sendRestartPending w).raise (by simp [Latched])
  unfold Machine.announceWarning
  dsimp only
  split
  · exact n.carryOut
  · exact n

theorem Steady.enterWarned {s : State} (h : Sound s) (w : Warning) (grace : Nat) : Steady (enterWarned w grace s) := by
  have e := h.enterState .warned
  unfold Machine.enterWarned
  apply Steady.announceWarning
  refine ⟨e.withSeq rfl h.stage, ?_⟩
  constructor <;> simp [startTimer, SequencerTimers.stopped]

theorem Steady.replaceWarning {s : State} (h : Steady s) (warned : s.seq.state = .warned) : Steady (replaceWarning s) := by
  unfold Machine.replaceWarning
  apply Steady.announceWarning
  refine ⟨h.sound.withSeq rfl h.sound.stage, ?_⟩
  exact { h.seated with warning := by simp [warned], grace := by simp [warned, startTimer] }

/-! ### The boot-slot cell -/

theorem nextCellWrite_flips (st : Store) : (nextCellWrite st).copy.flips = st.flips := by
  unfold nextCellWrite
  (repeat' split) <;> rfl

theorem handToCell_keeps (st : Store) :
    (handToCell st).image = st.image ∧ (handToCell st).imageWrite = st.imageWrite ∧
      (handToCell st).wordWrite = st.wordWrite ∧ (handToCell st).words = st.words ∧
      (handToCell st).slot = st.slot ∧ (handToCell st).flips = st.flips ∧ (handToCell st).copyA = st.copyA ∧
      (handToCell st).copyB = st.copyB := by
  unfold handToCell
  split <;> simp

theorem Sound.handToCell {s : State} (h : Sound s) : Sound (s.withStore (handToCell s.store)) := by
  obtain ⟨image, save, word, -⟩ := handToCell_keeps s.store
  refine h.withStore image save word ?_
  obtain ⟨blank, queued, flips, first, second, writing⟩ := h.store
  unfold Machine.handToCell
  split
  · next idle =>
    refine ⟨blank, fun _ => rfl, flips, first, second, fun w mem => ?_⟩
    obtain rfl : w = nextCellWrite s.store := by simpa [eq_comm] using mem
    rw [nextCellWrite_flips]
    exact flips
  · next w busy => exact ⟨blank, fun _ => by simp [busy], flips, first, second, writing⟩

theorem Sound.flipSlot {s : State} (h : Sound s) : Sound (flipSlot s) := by
  have toggled : Sound (s.withStore { s.store with slot := !s.store.slot, flips := bump s.store.flips }) := by
    obtain ⟨blank, queued, flips, rest⟩ := h.store
    exact h.withStore rfl rfl rfl ⟨blank, queued, bump_le flips, rest⟩
  exact (toggled.appendLog _ _).handToCell

theorem Sound.leaveRung {s : State} (h : Sound s) (r : Rung) : Sound (leaveRung r s) := by
  unfold Machine.leaveRung
  split
  · exact h.flipSlot
  · exact h

/-! ### Failures and the ladder -/

theorem Sound.rung_inRange {s : State} (h : Sound s) {r : Rung} {i : Nat} (found : s.settings.ladder[i]? = some r) :
    RungInRange r := by
  obtain ⟨-, -, -, -, -, -, -, ⟨-, -, rungs⟩, -⟩ := h.inRange
  exact rungs r (List.mem_of_getElem? found)

theorem Sound.ladderFailure {s : State} (h : Sound s) : Sound (ladderFailure s).1 := by
  unfold Machine.ladderFailure
  split
  · exact h
  · next r found =>
    obtain ⟨i, rfl⟩ := List.getElem?_eq_some_iff.mp found
    split
    · next left => exact h.withLadder ⟨i, left⟩
    · split
      · next next foundNext =>
        obtain ⟨j, e⟩ := List.getElem?_eq_some_iff.mp foundNext
        obtain ⟨attempts, -⟩ := h.rung_inRange foundNext
        exact (h.withLadder (x := ⟨s.ladder.rung + 1, 1⟩) ⟨j, by rw [e]; exact attempts⟩).leaveRung _
      · exact h.leaveRung _

theorem Steady.actOnAnswer {a : State × LadderAnswer} (h : Sound a.1) (taken : SupervisorState) (cause : WarningCause) :
    Steady (actOnAnswer taken cause a) := by
  unfold Machine.actOnAnswer
  split
  · exact (Steady.enterState h (.inr (.inr (.inl rfl)))).appendLog _ _
  · split
    · exact .enterWarned h _ _
    · exact .enterRestarting h _ _ _

theorem Steady.takeFailure {s : State} (h : Sound s) (kind : RecordKind) (detail : Half) (cause : WarningCause) :
    Steady (takeFailure kind detail cause s) :=
  .actOnAnswer ((h.appendLog _ _).mapTimers _).ladderFailure _ _

theorem Steady.powerGoodLoss {s : State} (h : Steady s) : Steady (powerGoodLoss s) := by
  have failure : Steady (powerGoodFailure s) := .takeFailure h.sound _ _ _
  unfold Machine.powerGoodLoss
  split
  · exact failure
  · exact failure
  · exact failure
  · exact failure
  · exact (h.appendLog _ _).carryOut
  · exact .enterOff h.sound 1
  all_goals exact h

theorem Steady.releaseLockedOut {s : State} (h : Sound s) (detail : Half) : Steady (releaseLockedOut detail s) :=
  .enterWarming (h.ladderReset.appendLog _ _)

/-! ### Reports of the Thermal Controller, and chord actions -/

theorem Steady.reportStart {s : State} (h : Steady s) (permitted : Bool) : Steady (reportStart permitted s) := by
  have t : Sound (s.withThermal { s.thermal with startPermitted := permitted }) := h.sound.withThermal_same rfl rfl
  unfold Machine.reportStart
  dsimp only
  split
  · exact .startPowering t
  · exact ⟨t, h.seated.of_same rfl rfl⟩

theorem Steady.shutdownDemand {s : State} (h : Steady s) : Steady (shutdownDemand s) := by
  have cooling : Steady (Machine.enterState .cooling s) := .enterState h.sound (.inr (.inl rfl))
  unfold Machine.shutdownDemand
  split
  · exact .enterWarned h.sound _ _
  · next warned =>
    split
    · exact h
    · exact h.replaceWarning warned
  · exact cooling
  · exact cooling
  · exact cooling
  · exact cooling
  · split
    · exact .enterOff h.sound 2
    · exact cooling
  · exact .enterOff h.sound 2
  all_goals exact h

theorem Steady.resumeHost {s : State} (h : Steady s) : Steady (resumeHost s) := by
  unfold Machine.resumeHost
  split
  · exact .enterWarming h.sound
  · exact h

theorem Steady.applyChord {s : State} (h : Steady s) (action : ChordAction) : Steady (applyChord action s) := by
  cases action with
  | event => exact h
  | start => exact .enterWarming h.sound
  | warmRestart => exact .enterRestarting h.sound .warm 0 .chord
  | coldRestart => exact .enterRestarting h.sound .cold Config.chordOffInterval .chord
  | release => exact .releaseLockedOut h.sound 1

end Sys2Proof.Machine
end

section
/-! SUPPORT. The events of the Measurement Unit, the heater zones and the Thermal Controller keep the laws outside a reset. -/

namespace Sys2Proof.Machine

/-! ### Curves -/

theorem interpolate_le {p q : Point} {t : Int} {high : Nat} (hp : p.value ≤ high) (hq : q.value ≤ high)
    (from_left : p.temperature ≤ t) (to_right : t < q.temperature) : interpolate p q t ≤ high := by
  unfold interpolate
  have a0 : 0 ≤ t - p.temperature := by omega
  have ab : t - p.temperature ≤ q.temperature - p.temperature := by omega
  generalize t - p.temperature = a at a0 ab
  generalize q.temperature - p.temperature = b at ab
  rcases Nat.le_total p.value q.value with up | down
  · have d0 : 0 ≤ (q.value : Int) - p.value := by omega
    have step : (((q.value : Int) - p.value) * a).tdiv b ≤ (q.value : Int) - p.value := by
      rw [Int.tdiv_eq_ediv_of_nonneg (Int.mul_nonneg d0 a0)]
      rcases Int.lt_or_eq_of_le (Int.le_trans a0 ab) with pos | zero
      · refine Int.ediv_le_of_le_mul pos ?_
        exact Int.mul_le_mul_of_nonneg_left ab d0
      · simpa [← zero] using up
    omega
  · have fall : 0 ≤ ((p.value : Int) - q.value) * a := Int.mul_nonneg (by omega) a0
    have same : ((q.value : Int) - p.value) * a = -(((p.value : Int) - q.value) * a) := by ring
    have step : (((q.value : Int) - p.value) * a).tdiv b ≤ 0 := by
      rw [same, Int.neg_tdiv]
      have := Int.tdiv_nonneg fall (Int.le_trans a0 ab)
      omega
    omega

theorem curveAfter_le {t : Int} {high : Nat} (rest : List Point) {p : Point} (below : p.temperature ≤ t)
    (hp : p.value ≤ high) (h : ∀ q ∈ rest, q.value ≤ high) : curveAfter p t rest ≤ high := by
  induction rest generalizing p with
  | nil => exact hp
  | cons q rest ih =>
    unfold curveAfter
    split
    · next left => exact interpolate_le hp (h q (List.mem_cons_self ..)) below left
    · next right => exact ih (by omega) (h q (List.mem_cons_self ..)) fun x m => h x (List.mem_cons_of_mem _ m)

/-- A curve's value is at most the largest value of its points. -/
theorem curveValue_le {curve : List Point} {high : Nat} (h : ∀ p ∈ curve, p.value ≤ high) (t : Int) :
    curveValue curve t ≤ high := by
  unfold curveValue
  split
  · exact Nat.zero_le _
  · next p rest =>
    split
    · exact h p (List.mem_cons_self ..)
    · exact curveAfter_le rest (by omega) (h p (List.mem_cons_self ..)) fun x m => h x (List.mem_cons_of_mem _ m)

/-! ### Conversions -/

/-- What the law says of one channel record (R8, R12, R14). -/
abbrev RecordLaw (fault : Bool) (r : ChannelRecord) : Prop :=
  (r.temperature.isSome = decide (r.reason = .valid)) ∧ (∀ t ∈ r.temperature.toList, TemperatureInRange t) ∧
    (decide (r.reason = .converterFault) = fault)

theorem recordLaw_empty {fault : Bool} {reason : Validity} (notValid : reason ≠ .valid)
    (agrees : decide (reason = .converterFault) = fault) : RecordLaw fault (ChannelRecord.empty reason) := by
  refine ⟨?_, by simp [ChannelRecord.empty], agrees⟩
  simp [ChannelRecord.empty, notValid]

theorem temperatureOf_inRange (low : Int) (span code : Nat) : TemperatureInRange (temperatureOf low span code) :=
  clampInt_range _ _ _ (by decide)

theorem recordAfterScan_law (cal : Int × Nat) (code : Nat) (r : ChannelRecord) :
    RecordLaw false (recordAfterScan cal code r) := by
  unfold recordAfterScan reasonOf
  dsimp only
  split
  · simp [RecordLaw]
  · simpa [RecordLaw] using temperatureOf_inRange _ _ _

theorem scannedRecord_law {s : State} {c : Channel} (h : RecordLaw s.meas.fault s.meas.channels[c]) (code : Code) :
    RecordLaw s.meas.fault (scannedRecord s c code) := by
  unfold scannedRecord
  split
  · exact h
  · next ok =>
    rw [Bool.not_eq_true] at ok
    rw [ok]
    exact recordAfterScan_law _ _ _

@[simp] theorem nextConversion_keeps (m : Measurement) :
    (nextConversion m).fault = m.fault ∧ (nextConversion m).failCount = m.failCount ∧
      (nextConversion m).passCount = m.passCount ∧ (nextConversion m).refPtr = m.refPtr ∧
      (nextConversion m).enabled = m.enabled ∧ (nextConversion m).oneShots = m.oneShots ∧
      (nextConversion m).channels = m.channels := by
  unfold nextConversion
  split
  · simp
  · split <;> simp_all

/-- A one-shot conversion is started only of a request that is in the list (R1, R4). -/
theorem nextConversion_oneShot {m : Measurement} (h : (nextConversion m).current = some .oneShot) :
    (nextConversion m).oneShots ≠ [] := by
  rw [(nextConversion_keeps m).2.2.2.2.2.1]
  intro none_listed
  cases rest : m.todo <;> simp [nextConversion, none_listed, rest] at h

/-- The channel records are lawful, and the counts below the values at which the status changes (R7). -/
theorem measurementLaw_iff (s : State) :
    MeasurementLaw s ↔ (∀ c : Channel, RecordLaw s.meas.fault s.meas.channels[c]) ∧
      (s.meas.fault = false → s.meas.failCount ≤ 1) ∧ (s.meas.fault = true → s.meas.passCount ≤ 2) ∧
      s.meas.failCount ≤ 2 ∧ s.meas.passCount ≤ 3 := Iff.rfl

/-- The next conversion started in a Measurement Unit that is lawful. -/
theorem Sound.withConversion {s : State} (h : Sound s) {m : Measurement} (law : MeasurementLaw (s.withMeas m))
    (shots : m.oneShots = s.meas.oneShots) : Sound (s.withMeas (nextConversion m)) := by
  refine h.withMeas ?_ (by simpa using shots) nextConversion_oneShot
  simp only [measurementLaw_iff, State.withMeas_meas, nextConversion_keeps] at law ⊢
  exact law

theorem debounceCountOf_range (time settle : Nat) : 2 ≤ debounceCountOf time settle ∧ debounceCountOf time settle ≤ 255 :=
  clampNat_range _ _ _ (by decide)

theorem Sound.recomputeDebounce {s : State} (h : Sound s) : Sound (recomputeDebounce s) := by
  obtain ⟨nodup, positions, -, -, refused⟩ := h.keypad
  obtain ⟨least, most⟩ := debounceCountOf_range
    (debounceTimeOf s.settings.keypad.curve (reading s s.settings.keypad.channel)) s.settings.keypad.settle
  exact h.withKeypad ⟨nodup, positions, least, most, refused⟩

theorem Sound.completeScan {s : State} (h : Sound s) (c : Channel) (code : Code) : Sound (completeScan c code s) := by
  have measured : Sound (s.withMeas
      (nextConversion { s.meas with channels := put s.meas.channels c (scannedRecord s c code) })) := by
    obtain ⟨records, counts⟩ := (measurementLaw_iff s).mp h.measurement
    refine h.withConversion ((measurementLaw_iff _).mpr ⟨fun d => ?_, counts⟩) rfl
    simp only [State.withMeas_meas, put_getElem]
    split
    · exact scannedRecord_law (records c) code
    · exact records d
  unfold Machine.completeScan
  dsimp only
  split
  · exact measured.recomputeDebounce
  · exact measured

/-- The Measurement Unit replaced, with its one-shot list and the conversion in progress kept. -/
theorem Sound.withMeas_same {s : State} (h : Sound s) {m : Measurement} (law : MeasurementLaw (s.withMeas m))
    (shots : m.oneShots = s.meas.oneShots) (current : m.current = s.meas.current) : Sound (s.withMeas m) :=
  h.withMeas law shots fun e => by
    obtain ⟨-, -, listed⟩ := h.waiting
    rw [shots]
    exact listed (current ▸ e)

/-! ### Reference checks -/

/-- The counts stay in range, and a count that reaches the value at which the status changes finds the other at 0 (R7). -/
theorem countCheck_counts (passed : Bool) (m : Measurement) :
    (countCheck passed m).failCount ≤ 2 ∧ (countCheck passed m).passCount ≤ 3 ∧
      ((countCheck passed m).failCount = 2 → (countCheck passed m).passCount = 0) ∧
      ((countCheck passed m).passCount = 3 → (countCheck passed m).failCount = 0) := by
  cases passed <;> simp [countCheck]

@[simp] theorem countCheck_keeps (passed : Bool) (m : Measurement) :
    (countCheck passed m).fault = m.fault ∧ (countCheck passed m).refPtr = m.refPtr ∧
      (countCheck passed m).enabled = m.enabled ∧ (countCheck passed m).current = m.current ∧
      (countCheck passed m).todo = m.todo ∧ (countCheck passed m).oneShots = m.oneShots ∧
      (countCheck passed m).channels = m.channels := by
  cases passed <;> simp [countCheck]

/-- A check counted and acted on (R7 to R9). -/
theorem Sound.actOnCheck {s : State} (h : Sound s) (passed : Bool) (code : Code) :
    Sound (actOnCheck code (s.withMeas (countCheck passed s.meas))) := by
  obtain ⟨records, -⟩ := (measurementLaw_iff s).mp h.measurement
  obtain ⟨failLe, passLe, failed, recovered⟩ := countCheck_counts passed s.meas
  have keeps := countCheck_keeps passed s.meas
  generalize countCheck passed s.meas = m at failLe passLe failed recovered keeps
  obtain ⟨fault, -, -, current, -, shots, channels⟩ := keeps
  unfold Machine.actOnCheck
  simp only [State.withMeas_meas, Bool.and_eq_true, Bool.not_eq_true']
  split
  · next entry =>
    obtain ⟨-, two⟩ := entry
    have entered : Sound (s.withMeas
        { m with
          fault := true
          channels := mapEach (fun r => { ChannelRecord.empty .converterFault with raw := r.raw }) m.channels }) := by
      refine h.withMeas_same ((measurementLaw_iff _).mpr ⟨fun c => ?_, by simp, fun _ => ?_, failLe, passLe⟩) shots current
      · simp only [State.withMeas_meas, mapEach_getElem]
        exact ⟨rfl, by simp [ChannelRecord.empty], rfl⟩
      · exact (failed (of_decide_eq_true two)).le.trans (by decide)
    exact (entered.appendLog .converterFault (code.zeroExtend 16)).raise (c := .converter) (by simp [Latched])
  · next noEntry =>
    split
    · next leaving =>
      obtain ⟨faulty, three⟩ := leaving
      have left : Sound (s.withMeas
          { m with
            fault := false
            channels := Vector.ofFn fun c =>
              { m.channels[c] with reason := if inMask m.enabled c then .noData else .disabled } }) := by
        refine h.withMeas_same ((measurementLaw_iff _).mpr ⟨fun c => ?_, fun _ => ?_, fun f => ?_, failLe, passLe⟩)
          shots current
        · obtain ⟨present, -, reason⟩ := records c
          have none_present : s.meas.channels[c].temperature = none := by
            rw [← fault, faulty] at reason
            rw [of_decide_eq_true reason] at present
            simpa using present
          rw [Fin.getElem_fin] at none_present
          cases e : inMask m.enabled c <;> simp [RecordLaw, e, channels, none_present]
        · exact (recovered (of_decide_eq_true three)).le.trans (by decide)
        · cases f
      exact left.appendLog .converterOk (code.zeroExtend 16)
    · next noLeaving =>
      refine h.withMeas_same ((measurementLaw_iff _).mpr ⟨fun c => ?_, fun ok => ?_, fun ok => ?_, failLe, passLe⟩) shots
        current
      · simpa [fault, channels] using records c
      · have below : m.failCount ≠ 2 := fun two => noEntry ⟨ok, decide_eq_true two⟩
        exact Nat.le_of_lt_succ (lt_of_le_of_ne failLe below)
      · have below : m.passCount ≠ 3 := fun three => noLeaving ⟨ok, decide_eq_true three⟩
        exact Nat.le_of_lt_succ (lt_of_le_of_ne passLe below)

theorem recordAtRoundStart_law {fault : Bool} {r : ChannelRecord} (h : RecordLaw fault r) (was is : Bool) :
    RecordLaw fault (recordAtRoundStart fault was is r) := by
  unfold recordAtRoundStart
  split
  · exact recordLaw_empty (by cases fault <;> simp) (by cases fault <;> simp)
  · split
    · exact recordLaw_empty (by cases fault <;> simp) (by cases fault <;> simp)
    · exact h

theorem Sound.startRound {s : State} (h : Sound s) (enable : Byte) (r : Reference) :
    Sound (s.withMeas (nextConversion (startRound enable { s.meas with refPtr := r }))) := by
  obtain ⟨records, counts⟩ := (measurementLaw_iff s).mp h.measurement
  refine h.withConversion ((measurementLaw_iff _).mpr ⟨fun c => ?_, counts⟩) rfl
  simpa [Machine.startRound] using recordAtRoundStart_law (records c) (inMask s.meas.enabled c) (inMask enable c)

theorem Sound.completeReference {s : State} (h : Sound s) (code : Code) : Sound (completeReference code s) :=
  (h.actOnCheck (inWindow s.meas.refPtr code.toNat) code).startRound _ _

/-! ### Events that keep the laws between commands -/

/-- A Sound update that leaves the sequencer and the warm timer alone keeps the laws between commands. -/
theorem Steady.of_sound {s t : State} (h : Steady s) (sound : Sound t) (seq : t.seq = s.seq)
    (warm : t.thermal.warmTimer = s.thermal.warmTimer) : Steady t :=
  ⟨sound, h.seated.of_same seq warm⟩

@[simp] theorem actOnCheck_keeps (code : Code) (s : State) :
    (actOnCheck code s).seq = s.seq ∧ (actOnCheck code s).thermal = s.thermal ∧
      (actOnCheck code s).settings = s.settings := by
  unfold actOnCheck
  split
  · simp [enterFault]
  · split
    · simp [leaveFault]
    · simp

theorem Steady.scanConversionComplete {s : State} (h : Steady s) (code : Code) :
    Steady (scanConversionComplete code s) := by
  unfold Machine.scanConversionComplete
  split
  · next c _ =>
    refine h.of_sound (h.sound.completeScan c code) ?_ ?_
    · simp only [completeScan]
      split <;> simp
    · simp only [completeScan]
      split <;> simp
  all_goals exact h

theorem Steady.referenceConversionComplete {s : State} (h : Steady s) (code : Code) :
    Steady (referenceConversionComplete code s) := by
  unfold Machine.referenceConversionComplete
  split
  · exact h.of_sound (h.sound.completeReference code) (by simp [Machine.completeReference])
      (by simp [Machine.completeReference])
  all_goals exact h

theorem Steady.converterFault {s : State} (h : Steady s) (code : Code) : Steady (converterFault code s) := by
  unfold Machine.converterFault
  dsimp only
  split
  · exact h.referenceConversionComplete code
  · exact h

theorem Steady.converterOk {s : State} (h : Steady s) (code : Code) : Steady (converterOk code s) := by
  unfold Machine.converterOk
  dsimp only
  split
  · exact h.referenceConversionComplete code
  · exact h

/-! ### The allocation and the start gate -/

theorem min_grantOf_le (demand : Zone → Nat) (order : List Zone) (budget : Nat) (z : Zone) :
    grantOf (grantWalk demand order budget) z ≤ demand z := by
  unfold grantOf
  induction order generalizing budget with
  | nil => simp [grantWalk]
  | cons y rest ih =>
    simp only [grantWalk, List.find?_cons]
    by_cases e : y = z
    · simp [e]
    · simpa [e] using ih _

theorem demandDutyOf_le {s : State} (h : SettingsInRange s.settings) (z : Zone) : demandDutyOf s z ≤ 1000 := by
  obtain ⟨zones, -⟩ := h
  obtain ⟨⟨-, clamp, -⟩, -⟩ := zones z
  unfold demandDutyOf
  dsimp only
  split
  · exact Nat.zero_le _
  · split
    · exact Nat.zero_le _
    · exact (Nat.min_le_right _ _).trans clamp

theorem demandDutyOf_tripped {s : State} (h : s.thermal.tripped = true) (z : Zone) : demandDutyOf s z = 0 := by
  simp [demandDutyOf, h]

/-- A grant within the demand power is a duty within the demand duty (R25, R29). -/
theorem grantedDutyOf_le {granted demand rated : Nat} (h : granted ≤ demand * rated / 1000) :
    grantedDutyOf granted rated ≤ demand := by
  unfold grantedDutyOf
  split
  · exact Nat.zero_le _
  · next pos =>
    refine Nat.div_le_of_le_mul ?_
    calc granted * 1000 ≤ demand * rated / 1000 * 1000 := Nat.mul_le_mul_right _ h
      _ ≤ demand * rated := Nat.div_mul_le_self _ _
      _ = rated * demand := Nat.mul_comm _ _

/-- What the law says of one zone (R29, R31, R32). -/
abbrev ZoneLaw (tripped : Bool) (z : ZoneState) : Prop :=
  z.grantedDuty ≤ z.demandDuty ∧ z.demandDuty ≤ 1000 ∧ (tripped = true → z.demandDuty = 0) ∧
    ∀ elapsed ∈ z.frame.toList, elapsed ≤ 999

theorem heaterLaw_iff (s : State) : HeaterLaw s ↔ ∀ z : Zone, ZoneLaw s.thermal.tripped s.zones[z] := Iff.rfl

theorem Sound.allocate {s : State} (h : Sound s) : Sound (allocate s) := by
  refine h.withZones ((heaterLaw_iff _).mpr fun z => ?_)
  obtain ⟨-, -, -, frame⟩ := h.heater z
  have zone : (Vector.ofFn (allocatedZone s))[z] = allocatedZone s z := by simp
  rw [State.withZones_zones, zone]
  exact ⟨grantedDutyOf_le (min_grantOf_le _ _ _ z), demandDutyOf_le h.inRange z,
    fun tripped => demandDutyOf_tripped tripped z, frame⟩

/-- A zone record with its duties and its frame kept is as lawful as before. -/
theorem ZoneLaw.of_same {tripped : Bool} {x y : ZoneState} (h : ZoneLaw tripped x) (granted : y.grantedDuty = x.grantedDuty)
    (demand : y.demandDuty = x.demandDuty) (frame : y.frame = x.frame) : ZoneLaw tripped y := by
  simpa only [ZoneLaw, granted, demand, frame] using h

@[simp] theorem releaseIfReached_keeps (z : ZoneState) :
    (releaseIfReached z).grantedDuty = z.grantedDuty ∧ (releaseIfReached z).demandDuty = z.demandDuty ∧
      (releaseIfReached z).frame = z.frame ∧ (releaseIfReached z).demandPower = z.demandPower ∧
      (releaseIfReached z).grantedPower = z.grantedPower ∧ (releaseIfReached z).priority = z.priority ∧
      (releaseIfReached z).lastFlag = z.lastFlag ∧ (releaseIfReached z).gateTimer = z.gateTimer ∧
      (releaseIfReached z).gateLength = z.gateLength := by
  unfold releaseIfReached
  split <;> simp

@[simp] theorem gateStep_keeps (warm : Bool) (hold : Nat) (z : ZoneState) :
    (gateStep warm hold z).grantedDuty = z.grantedDuty ∧ (gateStep warm hold z).demandDuty = z.demandDuty ∧
      (gateStep warm hold z).frame = z.frame ∧ (gateStep warm hold z).demandPower = z.demandPower ∧
      (gateStep warm hold z).grantedPower = z.grantedPower ∧ (gateStep warm hold z).priority = z.priority ∧
      (gateStep warm hold z).lastFlag = z.lastFlag := by
  unfold gateStep
  split <;> simp

@[simp] theorem flaggedZone_keeps (z : ZoneState) :
    (flaggedZone z).grantedDuty = z.grantedDuty ∧ (flaggedZone z).demandDuty = z.demandDuty ∧
      (flaggedZone z).frame = z.frame ∧ (flaggedZone z).demandPower = z.demandPower ∧
      (flaggedZone z).grantedPower = z.grantedPower ∧ (flaggedZone z).priority = z.priority ∧
      (flaggedZone z).gateLength = z.gateLength := by
  unfold flaggedZone
  split <;> simp

@[simp] theorem gateZone_keeps (s : State) (z : Zone) :
    (gateZone s z).grantedDuty = s.zones[z].grantedDuty ∧ (gateZone s z).demandDuty = s.zones[z].demandDuty ∧
      (gateZone s z).frame = s.zones[z].frame ∧ (gateZone s z).demandPower = s.zones[z].demandPower ∧
      (gateZone s z).grantedPower = s.zones[z].grantedPower ∧ (gateZone s z).priority = s.zones[z].priority := by
  unfold gateZone
  split <;> simp

theorem Steady.evaluateGate {s : State} (h : Steady s) : Steady (evaluateGate s) := by
  have gated : Sound (s.withZones (Vector.ofFn (gateZone s))) := by
    refine h.sound.withZones ((heaterLaw_iff _).mpr fun z => ?_)
    have zone : (Vector.ofFn (gateZone s))[z] = gateZone s z := by simp
    rw [State.withZones_zones, zone]
    obtain ⟨granted, demand, frame, -⟩ := gateZone_keeps s z
    exact ZoneLaw.of_same (h.sound.heater z) granted demand frame
  exact Steady.reportStart (h.of_sound gated rfl rfl) _

theorem Steady.allocationExpiry {s : State} (h : Steady s) : Steady (allocationExpiry s) := by
  have restarted : Sound (s.withThermal { s.thermal with allocationTimer := startTimer Config.allocationPeriod }) :=
    h.sound.withThermal_same rfl rfl
  exact Steady.evaluateGate (h.of_sound restarted.allocate rfl rfl)

theorem Steady.allocationPeriodExpiry {s : State} (h : Steady s) : Steady (allocationPeriodExpiry s) := by
  unfold Machine.allocationPeriodExpiry
  split
  · exact h.allocationExpiry
  · exact h

theorem Steady.gateRelease {s : State} (h : Steady s) (z : Zone) : Steady (gateRelease z s) := by
  unfold Machine.gateRelease
  split
  · exact h.allocationExpiry
  · exact h

/-! ### Heater drives -/

/-- One zone record replaced by a lawful one. -/
theorem Steady.putZone {s : State} (h : Steady s) (z : Zone) {x : ZoneState} (law : ZoneLaw s.thermal.tripped x) :
    Steady (s.withZones (put s.zones z x)) := by
  refine h.of_sound (h.sound.withZones ((heaterLaw_iff _).mpr fun y => ?_)) rfl rfl
  rw [State.withZones_zones, put_getElem]
  split
  · exact law
  · exact h.sound.heater y

theorem Steady.driveFrameStart {s : State} (h : Steady s) (z : Zone) : Steady (driveFrameStart z s) := by
  obtain ⟨granted, demand, tripped, -⟩ := h.sound.heater z
  unfold Machine.driveFrameStart
  split
  · exact h.putZone z ⟨granted, demand, tripped, by simp⟩
  · exact h

theorem Steady.driveOnTimeEnd {s : State} (h : Steady s) (z : Zone) : Steady (driveOnTimeEnd z s) := by
  obtain ⟨granted, demand, tripped, -⟩ := h.sound.heater z
  unfold Machine.driveOnTimeEnd
  split
  · split
    · next ends => exact h.putZone z ⟨granted, demand, tripped, by simpa using Nat.le_of_lt_succ ends.1⟩
    · exact h
  · exact h

/-! ### The warm timeout, the fan and the filter watch -/

theorem Steady.warmTimeout {s : State} (h : Steady s) : Steady (warmTimeout s) := by
  unfold Machine.warmTimeout
  split
  · split
    · exact .startPowering (h.sound.appendLog _ _)
    · have held : Steady (s.withThermal { s.thermal with warmTimer := none }) :=
        ⟨h.sound.withThermal_same rfl rfl, { h.seated with warm := by simp }⟩
      exact (held.appendLog _ _).raise (by simp [Latched])
  · exact h

theorem curveDuty_le {s : State} (h : SettingsInRange s.settings) : curveDuty s ≤ 1000 := by
  obtain ⟨-, -, -, ⟨-, -, -, -, -, points⟩, -⟩ := h
  unfold curveDuty
  split
  · exact Nat.le_refl _
  · split
    · exact Nat.le_refl _
    · exact curveValue_le (fun p mem => (points p mem).2.2) _

/-- The Thermal Controller replaced, with its fan duty, its overheat status and its warm timer kept. -/
theorem Steady.withThermal_same {s : State} (h : Steady s) {x : Thermal} (tripped : x.tripped = s.thermal.tripped)
    (duty : x.fanDuty = s.thermal.fanDuty) (warm : x.warmTimer = s.thermal.warmTimer) : Steady (s.withThermal x) :=
  h.of_sound (h.sound.withThermal_same tripped duty) rfl warm

theorem Steady.measureFan {s : State} (h : Steady s) : Steady (measureFan s) :=
  h.withThermal_same rfl rfl rfl

theorem Steady.fanTest {s : State} (h : Steady s) : Steady (fanTest s) := by
  have changed (fault : Bool) (kind : RecordKind) (detail : Half) : Steady (Machine.appendLog kind detail
      (s.withThermal { s.thermal with fanFault := fault, stall := 0, recovery := 0 })) := by
    apply Steady.appendLog
    exact h.withThermal_same rfl rfl rfl
  unfold Machine.fanTest
  split
  · unfold recoveryTest
    split
    · split
      · exact changed false _ _
      · exact h.withThermal_same rfl rfl rfl
    · exact h.withThermal_same rfl rfl rfl
  · unfold stallTest
    split
    · split
      · exact (changed true _ _).raise (by simp [Latched])
      · exact h.withThermal_same rfl rfl rfl
    · exact h.withThermal_same rfl rfl rfl

theorem Steady.fanExpiry {s : State} (h : Steady s) : Steady (fanExpiry s) := by
  have t := h.measureFan.fanTest
  unfold Machine.fanExpiry
  dsimp only
  generalize Machine.fanTest (Machine.measureFan s) = t at t
  have most := curveDuty_le t.sound.inRange
  have minimum := t.sound.fanMinimum_le
  refine t.of_sound (t.sound.withThermal (fun tripped => t.sound.noDemandWhileTripped tripped) (fun on => ?_) ?_) rfl rfl
  · simp only [fanDutyOf, on, if_true]
    exact le_max_right _ _
  · simp only [fanDutyOf]
    split <;> omega

theorem Steady.fanPeriodExpiry {s : State} (h : Steady s) : Steady (fanPeriodExpiry s) := by
  unfold Machine.fanPeriodExpiry
  split
  · exact h.fanExpiry
  · exact h

theorem Steady.fanFault {s : State} (h : Steady s) : Steady (fanFault s) := by
  unfold Machine.fanFault
  dsimp only
  split
  · exact h.fanPeriodExpiry
  · exact h

theorem Steady.fanOk {s : State} (h : Steady s) : Steady (fanOk s) := by
  unfold Machine.fanOk
  dsimp only
  split
  · exact h.fanPeriodExpiry
  · exact h

theorem Steady.tachPulse {s : State} (h : Steady s) : Steady (tachPulse s) := by
  unfold Machine.tachPulse
  split
  · exact h.withThermal_same rfl rfl rfl
  · exact h

theorem Steady.enterFilterService {s : State} (h : Steady s) : Steady (enterFilterService s) := by
  have set : Steady (s.withThermal { s.thermal with filterSet := true }) := h.withThermal_same rfl rfl rfl
  exact (set.appendLog _ _).raise (by simp [Latched])

theorem Steady.minuteStep {s : State} (h : Steady s) : Steady (minuteStep s) := by
  unfold Machine.minuteStep
  dsimp only
  split
  · exact h.withThermal_same rfl rfl rfl
  · split
    · apply Steady.enterFilterService
      exact h.withThermal_same rfl rfl rfl
    · exact h.withThermal_same rfl rfl rfl

theorem Steady.minuteExpiry {s : State} (h : Steady s) : Steady (minuteExpiry s) := by
  unfold Machine.minuteExpiry
  split
  · exact h.minuteStep
  · exact h

theorem Steady.filterService {s : State} (h : Steady s) : Steady (filterService s) := by
  unfold Machine.filterService
  dsimp only
  split
  · exact h.minuteExpiry
  · exact h

/-! ### The overheat monitor -/

theorem cutZone_law {tripped : Bool} {z : ZoneState} (h : ZoneLaw tripped z) (isGate : Bool) :
    ZoneLaw true (blockZone isGate (cutZone z)) := by
  obtain ⟨-, -, -, frame⟩ := h
  cases isGate
  · exact ⟨Nat.le_refl _, Nat.zero_le _, fun _ => rfl, frame⟩
  · exact ⟨Nat.le_refl _, Nat.zero_le _, fun _ => rfl, frame⟩

theorem Steady.trip {s : State} (h : Steady s) : Steady (trip s) := by
  have zone (z : Zone) : (Vector.ofFn fun y => blockZone s.settings.zones[y].gateFlag (cutZone s.zones[y]))[z] =
      blockZone s.settings.zones[z].gateFlag (cutZone s.zones[z]) := by simp
  have law (z : Zone) := cutZone_law (h.sound.heater z) s.settings.zones[z].gateFlag
  have cut : Sound (s.withZones
      (Vector.ofFn fun z => blockZone s.settings.zones[z].gateFlag (cutZone s.zones[z]))) := by
    refine h.sound.withZones ((heaterLaw_iff _).mpr fun z => ?_)
    obtain ⟨granted, demand, none_demanded, frame⟩ := law z
    rw [State.withZones_zones, zone]
    exact ⟨granted, demand, fun _ => none_demanded rfl, frame⟩
  have blocked : Sound ((s.withZones
      (Vector.ofFn fun z => blockZone s.settings.zones[z].gateFlag (cutZone s.zones[z]))).withThermal
        { s.thermal with tripped := true, tripTimer := none, resumeTimer := none, startPermitted := false }) := by
    refine cut.withThermal (fun _ z => ?_) h.sound.fan.1 h.sound.fan.2
    obtain ⟨-, -, none_demanded, -⟩ := law z
    rw [State.withZones_zones, zone]
    exact none_demanded rfl
  exact (((h.of_sound blocked rfl rfl).appendLog _ _).raise (by simp [Latched])).shutdownDemand

theorem Steady.clearTrip {s : State} (h : Steady s) : Steady (clearTrip s) := by
  have cleared : Sound (s.withThermal { s.thermal with tripped := false, tripTimer := none, resumeTimer := none }) :=
    h.sound.withThermal (by simp) h.sound.fan.1 h.sound.fan.2
  exact ((h.of_sound cleared rfl rfl).appendLog _ _).resumeHost

theorem Steady.checkClear {s : State} (h : Steady s) : Steady (checkClear s) := by
  unfold Machine.checkClear
  split
  · dsimp only
    split
    · exact h.trip
    · exact h.withThermal_same rfl rfl rfl
  · exact h.withThermal_same rfl rfl rfl

theorem Steady.checkTripped {s : State} (h : Steady s) : Steady (checkTripped s) := by
  unfold Machine.checkTripped
  split
  · dsimp only
    split
    · exact h.clearTrip
    · exact h.withThermal_same rfl rfl rfl
  · exact h.withThermal_same rfl rfl rfl

theorem Steady.overheatCheck {s : State} (h : Steady s) : Steady (overheatCheck s) := by
  have t : Steady (s.withThermal { s.thermal with checkTimer := startTimer Config.checkPeriod }) :=
    h.withThermal_same rfl rfl rfl
  unfold Machine.overheatCheck checkStep
  dsimp only
  split
  · split
    · exact t.checkTripped
    · exact t.checkClear
  · exact h

theorem Steady.thermalTrip {s : State} (h : Steady s) : Steady (thermalTrip s) := by
  unfold Machine.thermalTrip
  dsimp only
  split
  · exact h.overheatCheck
  · exact h

theorem Steady.thermalResume {s : State} (h : Steady s) : Steady (thermalResume s) := by
  unfold Machine.thermalResume
  dsimp only
  split
  · exact h.overheatCheck
  · exact h

end Sys2Proof.Machine
end

section
/-! SUPPORT. The scan cycle, the acceptances, the stuck keys, the repeats and the chords keep the laws outside a reset. -/

namespace Sys2Proof.Machine

/-! ### One key record -/

/-- What the law says of one key record with the held list (R127, R130). -/
abbrev KeyRecordLaw (held : List Position) (p : Position) (k : KeyPosition) : Prop :=
  (decide (p ∈ held) = k.debounced) ∧ (k.suppressed = true → k.debounced = true) ∧
    (k.hold.isSome = true → k.debounced = true ∧ k.suppressed = false)

/-- What the law says of the held list and the key records together (R127, R130). -/
def HeldLaw (held : List Position) (positions : Vector KeyPosition 48) : Prop :=
  held.Nodup ∧ ∀ p : Position, KeyRecordLaw held p positions[p]

theorem keypadLaw_iff (s : State) :
    KeypadLaw s ↔ HeldLaw s.keypad.held s.keypad.positions ∧ 2 ≤ s.keypad.debounceCount ∧ s.keypad.debounceCount ≤ 255 ∧
      s.keypad.refused ≤ 65535 := by
  simp only [KeypadLaw, HeldLaw, and_assoc]

theorem Steady.withKeypad {s : State} (h : Steady s) {k : Keypad} (law : HeldLaw k.held k.positions)
    (count : k.debounceCount = s.keypad.debounceCount) (refused : k.refused ≤ 65535) : Steady (s.withKeypad k) := by
  obtain ⟨-, least, most, -⟩ := (keypadLaw_iff s).mp h.sound.keypad
  exact h.of_sound
    (h.sound.withKeypad ((keypadLaw_iff _).mpr ⟨law, by simpa [count] using least, by simpa [count] using most, refused⟩))
    rfl rfl

theorem Steady.heldLaw {s : State} (h : Steady s) : HeldLaw s.keypad.held s.keypad.positions :=
  ((keypadLaw_iff s).mp h.sound.keypad).1

theorem Steady.refused_le {s : State} (h : Steady s) : s.keypad.refused ≤ 65535 :=
  ((keypadLaw_iff s).mp h.sound.keypad).2.2.2

/-- The key records replaced by others that agree in what the law speaks of. -/
theorem HeldLaw.of_same {held : List Position} {old positions : Vector KeyPosition 48} (h : HeldLaw held old)
    (same : ∀ p : Position, positions[p].debounced = old[p].debounced ∧ positions[p].suppressed = old[p].suppressed ∧
      positions[p].hold.isSome = old[p].hold.isSome) : HeldLaw held positions := by
  obtain ⟨nodup, records⟩ := h
  refine ⟨nodup, fun p => ?_⟩
  obtain ⟨debounced, suppressed, hold⟩ := same p
  simpa only [KeyRecordLaw, debounced, suppressed, hold] using records p

/-! ### Row dwells -/

/-- Sampling a row changes raw states alone (R121). -/
@[simp] theorem sampleRow_keeps (row : Fin 8) (columns : Columns) (positions : Vector KeyPosition 48) (p : Position) :
    (sampleRow row columns positions)[p].debounced = positions[p].debounced ∧
      (sampleRow row columns positions)[p].suppressed = positions[p].suppressed ∧
      (sampleRow row columns positions)[p].hold = positions[p].hold ∧
      (sampleRow row columns positions)[p].count = positions[p].count := by
  have at_p : (sampleRow row columns positions)[p] =
      if rowOf p = row.val then { positions[p] with raw := columns.getLsbD (columnOf p) } else positions[p] := by
    simp [sampleRow]
  rw [at_p]
  split <;> simp

theorem Steady.rowDwellEnd {s : State} (h : Steady s) (columns : Columns) : Steady (rowDwellEnd columns s) := by
  unfold Machine.rowDwellEnd
  split
  · next row _ =>
    split
    · refine h.withKeypad (h.heldLaw.of_same fun p => ?_) rfl h.refused_le
      obtain ⟨debounced, suppressed, hold, -⟩ := sampleRow_keeps row columns s.keypad.positions p
      exact ⟨debounced, suppressed, by rw [hold]⟩
    · exact h
  · exact h

theorem Steady.sampleLastRow {s : State} (h : Steady s) (columns : Columns) : Steady (sampleLastRow columns s) := by
  have law : HeldLaw s.keypad.held (mapEach countChange (sampleRow 7 columns s.keypad.positions)) := by
    have sampled := sampleRow_keeps 7 columns s.keypad.positions
    generalize sampleRow 7 columns s.keypad.positions = sampledPositions at sampled
    refine h.heldLaw.of_same (positions := mapEach countChange sampledPositions) fun p => ?_
    obtain ⟨debounced, suppressed, hold, -⟩ := sampled p
    rw [mapEach_getElem]
    exact ⟨debounced, suppressed, congrArg _ hold⟩
  unfold Machine.sampleLastRow
  exact h.withKeypad law rfl h.refused_le

/-! ### Acceptances -/

/-- The key record of an accepted release (R127). -/
def releasedKey (k : KeyPosition) : KeyPosition :=
  { k with debounced := false, count := 0, suppressed := false, hold := none }

/-- The key record of an accepted press (R127, R130). -/
def pressedKey (stuckTime : Nat) (k : KeyPosition) : KeyPosition :=
  { k with debounced := true, count := 0, hold := holdTimer stuckTime }

theorem acceptRelease_keypad (p : Position) (s : State) :
    (acceptRelease p s).keypad =
      { s.keypad with
        positions := put s.keypad.positions p (releasedKey s.keypad.positions[p])
        held := s.keypad.held.filter fun q => q ≠ p } := by
  unfold acceptRelease releaseEvent
  dsimp only
  split <;> simp [setPosition, releasedKey]

theorem pressEvent_keypad (p : Position) (s : State) :
    (pressEvent p s).keypad =
      if s.settings.keys[p].enabled then s.keypad else { s.keypad with refused := bump s.keypad.refused } := by
  unfold pressEvent
  dsimp only
  split
  · simp only [keyEvent_keeps]
  · rfl

theorem acceptPress_keypad (p : Position) (s : State) :
    (acceptPress p s).keypad =
      { s.keypad with
        positions := put s.keypad.positions p (pressedKey s.settings.keypad.stuckTime s.keypad.positions[p])
        held := s.keypad.held ++ [p]
        refused := if s.settings.keys[p].enabled then s.keypad.refused else bump s.keypad.refused } := by
  unfold acceptPress
  dsimp only
  rw [pressEvent_keypad]
  change (if s.settings.keys[p].enabled = true then _ else _) = _
  split <;> rfl

@[simp] theorem acceptRelease_settings (p : Position) (s : State) : (acceptRelease p s).settings = s.settings := by
  unfold acceptRelease releaseEvent
  dsimp only
  split <;> simp [setPosition]

@[simp] theorem acceptPress_settings (p : Position) (s : State) : (acceptPress p s).settings = s.settings := by
  unfold acceptPress pressEvent
  dsimp only
  split <;> simp [setPosition]

theorem HeldLaw.released {held : List Position} {positions : Vector KeyPosition 48} (h : HeldLaw held positions)
    (p : Position) : HeldLaw (held.filter fun q => q ≠ p) (put positions p (releasedKey positions[p])) := by
  obtain ⟨nodup, records⟩ := h
  refine ⟨nodup.filter _, fun q => ?_⟩
  obtain ⟨isHeld, rest⟩ := records q
  rw [put_getElem]
  split
  · next same => simp [KeyRecordLaw, releasedKey, same]
  · next other =>
    refine ⟨?_, rest⟩
    rw [← isHeld]
    simp [Ne.symm other]

theorem HeldLaw.pressed {held : List Position} {positions : Vector KeyPosition 48} (h : HeldLaw held positions)
    {p : Position} (up : positions[p].debounced = false) (stuckTime : Nat) :
    HeldLaw (held ++ [p]) (put positions p (pressedKey stuckTime positions[p])) := by
  obtain ⟨nodup, records⟩ := h
  have notHeld : p ∉ held := by
    obtain ⟨isHeld, -⟩ := records p
    rw [up] at isHeld
    exact of_decide_eq_false isHeld
  refine ⟨List.Nodup.append nodup (List.nodup_singleton p) (by simpa using notHeld), fun q => ?_⟩
  obtain ⟨isHeld, rest⟩ := records q
  rw [put_getElem]
  split
  · next same =>
    obtain ⟨-, suppressed, -⟩ := records p
    have notSuppressed : positions[p].suppressed = false := by
      rw [up] at suppressed
      simpa using suppressed
    rw [← same]
    exact ⟨by simp [pressedKey], fun _ => rfl, fun _ => ⟨rfl, notSuppressed⟩⟩
  · next other =>
    refine ⟨?_, rest⟩
    rw [← isHeld]
    simp [Ne.symm other]

theorem Steady.acceptRelease {s : State} (h : Steady s) (p : Position) : Steady (acceptRelease p s) := by
  have t : Steady (s.withKeypad
      { s.keypad with
        positions := put s.keypad.positions p (releasedKey s.keypad.positions[p])
        held := s.keypad.held.filter fun q => q ≠ p }) :=
    h.withKeypad (h.heldLaw.released p) rfl h.refused_le
  unfold Machine.acceptRelease releaseEvent
  dsimp only
  split
  · exact t.keyEvent _
  · exact t

theorem Steady.acceptPress {s : State} (h : Steady s) {p : Position} (up : s.keypad.positions[p].debounced = false) :
    Steady (acceptPress p s) := by
  have t : Steady (s.withKeypad
      { s.keypad with
        positions := put s.keypad.positions p (pressedKey s.settings.keypad.stuckTime s.keypad.positions[p])
        held := s.keypad.held ++ [p] }) :=
    h.withKeypad (h.heldLaw.pressed up _) rfl h.refused_le
  unfold Machine.acceptPress pressEvent
  dsimp only
  split
  · exact t.keyEvent _
  · exact t.withKeypad t.heldLaw rfl (bump_le h.refused_le)

theorem Steady.deferPress {s : State} (h : Steady s) (p : Position) : Steady (deferPress p s) := by
  refine h.withKeypad (h.heldLaw.of_same fun q => ?_) rfl h.refused_le
  rw [put_getElem]
  split
  · next same => simp [same]
  · simp

theorem Steady.acceptReleases {s : State} (h : Steady s) (ps : List Position) :
    Steady (ps.foldl (fun t p => Machine.acceptRelease p t) s) := by
  induction ps generalizing s with
  | nil => exact h
  | cons p ps ih => exact ih (h.acceptRelease p)

theorem Steady.deferPresses {s : State} (h : Steady s) (ps : List Position) :
    Steady (ps.foldl (fun t p => Machine.deferPress p t) s) := by
  induction ps generalizing s with
  | nil => exact h
  | cons p ps ih => exact ih (h.deferPress p)

/-- Presses accepted of distinct positions that are up. -/
theorem Steady.acceptPresses {s : State} (h : Steady s) {ps : List Position} (distinct : ps.Nodup)
    (up : ∀ p ∈ ps, s.keypad.positions[p].debounced = false) :
    Steady (ps.foldl (fun t p => Machine.acceptPress p t) s) := by
  induction ps generalizing s with
  | nil => exact h
  | cons p ps ih =>
    obtain ⟨fresh, distinct⟩ := List.nodup_cons.mp distinct
    refine ih (h.acceptPress (up p (List.mem_cons_self ..))) distinct fun q mem => ?_
    have other : p ≠ q := fun e => fresh (e ▸ mem)
    rw [acceptPress_keypad]
    simpa only [put_getElem, if_neg other] using up q (List.mem_cons_of_mem _ mem)

/-- A position that is up stays up while releases are accepted. -/
theorem acceptReleases_up (ps : List Position) {s : State} {q : Position}
    (up : s.keypad.positions[q].debounced = false) :
    (ps.foldl (fun t p => acceptRelease p t) s).keypad.positions[q].debounced = false := by
  induction ps generalizing s with
  | nil => exact up
  | cons p ps ih =>
    refine ih ?_
    rw [acceptRelease_keypad]
    simp only [put_getElem]
    split
    · rfl
    · exact up

theorem positionsWith_nodup (property : Position → Bool) : (positionsWith property).Nodup :=
  (List.nodup_finRange 48).filter _

theorem mem_positionsWith {property : Position → Bool} {p : Position} :
    p ∈ positionsWith property ↔ property p = true := by
  simp [positionsWith]

theorem Steady.acceptChanges {s : State} (h : Steady s) : Steady (acceptChanges s) := by
  have released := h.acceptReleases
    (positionsWith fun p => releaseDue s.keypad.debounceCount s.keypad.positions[p])
  unfold Machine.acceptChanges
  dsimp only
  split
  · exact released.deferPresses _
  · refine released.acceptPresses (positionsWith_nodup _) fun p mem => acceptReleases_up _ ?_
    have due := mem_positionsWith.mp mem
    rw [pressDue, Bool.and_eq_true, Bool.not_eq_true'] at due
    exact due.2

/-! ### Stuck keys and repeats -/

@[simp] theorem makeStuck_keypad (p : Position) (s : State) :
    (makeStuck p s).keypad =
      { s.keypad with
        positions := put s.keypad.positions p { s.keypad.positions[p] with suppressed := true, hold := none } } := by
  unfold makeStuck
  dsimp only
  split <;> simp [setPosition]

theorem Steady.makeStuck {s : State} (h : Steady s) {p : Position} (down : s.keypad.positions[p].debounced = true) :
    Steady (makeStuck p s) := by
  have t : Steady (setPosition p { s.keypad.positions[p] with suppressed := true, hold := none } s) := by
    obtain ⟨nodup, records⟩ := h.heldLaw
    refine h.withKeypad ⟨nodup, fun q => ?_⟩ rfl h.refused_le
    rw [put_getElem]
    split
    · next same =>
      obtain ⟨held, -⟩ := records p
      rw [← same]
      exact ⟨held, fun _ => down, by simp⟩
    · exact records q
  unfold Machine.makeStuck
  dsimp only
  split
  · exact t.keyEvent _
  · exact t

theorem Steady.makeAllStuck {s : State} (h : Steady s) {ps : List Position}
    (down : ∀ p ∈ ps, s.keypad.positions[p].debounced = true) :
    Steady (ps.foldl (fun t p => Machine.makeStuck p t) s) := by
  induction ps generalizing s with
  | nil => exact h
  | cons p ps ih =>
    refine ih (h.makeStuck (down p (List.mem_cons_self ..))) fun q mem => ?_
    rw [makeStuck_keypad]
    simp only [put_getElem]
    split
    · next same => exact same ▸ down p (List.mem_cons_self ..)
    · exact down q (List.mem_cons_of_mem _ mem)

theorem Steady.stickKeys {s : State} (h : Steady s) : Steady (stickKeys s) := by
  refine h.makeAllStuck fun p mem => ?_
  have due := mem_positionsWith.mp mem
  simp only [stuckDue, Bool.and_eq_true] at due
  exact due.1.1

theorem Steady.repeatStep {s : State} (h : Steady s) : Steady (repeatStep s) := by
  unfold Machine.repeatStep
  dsimp only
  split
  · split
    · split
      · have t : Steady (s.withKeypad { s.keypad with repeatTimer := startTimer s.settings.keypad.repeatInterval }) :=
          h.withKeypad h.heldLaw rfl h.refused_le
        unfold repeatExpired
        dsimp only
        split
        · exact t.keyEvent _
        · exact t
      · exact h
    · exact h
  · exact h.withKeypad h.heldLaw rfl h.refused_le

/-! ### Chords -/

theorem Steady.setChordState {s : State} (h : Steady s) (i : ChordIndex) (x : ChordState) : Steady (setChordState i x s) :=
  h.of_sound (h.sound.withChords _) rfl rfl

theorem Steady.fireChord {s : State} (h : Steady s) (i : ChordIndex) : Steady (fireChord i s) := by
  have t := ((h.setChordState i ⟨.fired, none⟩).keyEvent (.chord i)).appendLog .chord
    (chordDetail i (chordApplies s.settings.chords[i].action
      (Machine.keyEvent (.chord i) (Machine.setChordState i ⟨.fired, none⟩ s)).seq.state))
  unfold Machine.fireChord
  dsimp only
  split
  · exact t.applyChord _
  · exact t

theorem Steady.chordStep {s : State} (h : Steady s) (d : BitVec 48) (i : ChordIndex) : Steady (chordStep d s i) := by
  unfold Machine.chordStep
  dsimp only
  split
  · exact h.setChordState _ _
  · exact h
  · split
    · exact h.fireChord i
    · exact h
  · exact h.setChordState _ _
  · exact h
  · exact h.setChordState _ _

theorem Steady.matchChords {s : State} (h : Steady s) : Steady (matchChords s) := by
  have each (d : BitVec 48) (is : List ChordIndex) (t : State) (g : Steady t) :
      Steady (is.foldl (Machine.chordStep d) t) := by
    induction is generalizing t with
    | nil => exact g
    | cons i is ih => exact ih _ (g.chordStep d i)
  exact each _ _ _ h

/-! ### Scan completions -/

theorem Steady.scanCompletion {s : State} (h : Steady s) (columns : Columns) : Steady (scanCompletion columns s) := by
  unfold Machine.scanCompletion
  split
  · exact (h.sampleLastRow columns).acceptChanges.stickKeys.repeatStep.matchChords
  · exact h

theorem Steady.pressAccepted {s : State} (h : Steady s) (p : Position) (columns : Columns) :
    Steady (pressAccepted p columns s) := by
  unfold Machine.pressAccepted
  dsimp only
  split
  · exact h.scanCompletion columns
  · exact h

theorem Steady.releaseAccepted {s : State} (h : Steady s) (p : Position) (columns : Columns) :
    Steady (releaseAccepted p columns s) := by
  unfold Machine.releaseAccepted
  dsimp only
  split
  · exact h.scanCompletion columns
  · exact h

theorem Steady.keyRepeat {s : State} (h : Steady s) (columns : Columns) : Steady (keyRepeat columns s) := by
  have ended : Steady (s.withKeypad { s.keypad with repeatTimer := runOut s.keypad.repeatTimer }) :=
    h.withKeypad h.heldLaw rfl h.refused_le
  unfold Machine.keyRepeat
  dsimp only
  split
  · split
    · exact ended.scanCompletion columns
    · exact h
  · exact h

theorem Steady.keyStuck {s : State} (h : Steady s) (p : Position) (columns : Columns) :
    Steady (keyStuck p columns s) := by
  have ended : Steady (setPosition p
      { s.keypad.positions[p] with hold := runOut s.keypad.positions[p].hold } s) := by
    refine h.withKeypad (h.heldLaw.of_same fun q => ?_) rfl h.refused_le
    rw [put_getElem]
    split
    · next same => simp [same, runOut]
    · simp
  unfold Machine.keyStuck
  dsimp only
  split
  · exact ended.scanCompletion columns
  · exact h

theorem Steady.chordFire {s : State} (h : Steady s) (i : ChordIndex) (columns : Columns) :
    Steady (chordFire i columns s) := by
  have ended := h.setChordState i { s.chords[i] with hold := runOut s.chords[i].hold }
  unfold Machine.chordFire
  dsimp only
  split
  · exact ended.scanCompletion columns
  · exact h

end Sys2Proof.Machine
end

section
/-! SUPPORT. Replies that a link awaits, the persistent writes, and the lengths and the values of what the requests bring into
range. -/

namespace Sys2Proof.Machine

/-! ### Links -/

theorem setReceiver_link_waiting (l k : Link) (r : Receiver) (s : State) :
    ((setReceiver l r s).link k).waiting = (s.link k).waiting := by
  cases l <;> cases k <;> rfl

theorem setReceiver_link_output (l k : Link) (r : Receiver) (s : State) :
    ((setReceiver l r s).link k).output = (s.link k).output := by
  cases l <;> cases k <;> rfl

/-- A completion reply and the end of its link's waiting change different fields of the link (R167). -/
theorem completeReply_eq (l : Link) (kind tag : Byte) (payload : List Byte) (s : State) :
    completeReply l kind tag payload s = sendReply l kind tag payload (setWaiting l false s) := by
  simp only [completeReply, sendReply, sendFrame_eq, setWaiting, withLink_link, withLink_withLink]

/-- The waiting law link by link (R167). -/
theorem waitingLaw_iff (s : State) :
    WaitingLaw s ↔ (∀ l : Link, repliesAwaited s l = if (s.link l).waiting then 1 else 0) ∧
      (s.meas.current = some .oneShot → s.meas.oneShots ≠ []) := by
  constructor
  · rintro ⟨host, service, shots⟩
    exact ⟨fun | .host => host | .service => service, shots⟩
  · rintro ⟨links, shots⟩
    exact ⟨links .host, links .service, shots⟩

theorem setWaiting_link_waiting (l k : Link) (b : Bool) (s : State) :
    ((setWaiting l b s).link k).waiting = if l = k then b else (s.link k).waiting := by
  cases l <;> cases k <;> rfl

theorem repliesAwaited_setWaiting (l k : Link) (b : Bool) (s : State) :
    repliesAwaited (setWaiting l b s) k = repliesAwaited s k := by
  simp [repliesAwaited]

/-- A link that awaited no reply begins to wait for one (R167). -/
theorem waitingLaw_begun {s t : State} {l : Link} (h : WaitingLaw s) (idle : (s.link l).waiting = false)
    (links : ∀ k, (t.link k).waiting = (s.link k).waiting)
    (awaited : ∀ k, repliesAwaited t k = repliesAwaited s k + if l = k then 1 else 0)
    (shots : t.meas.current = some .oneShot → t.meas.oneShots ≠ []) : WaitingLaw (setWaiting l true t) := by
  obtain ⟨replies, -⟩ := (waitingLaw_iff s).mp h
  refine (waitingLaw_iff _).mpr ⟨fun k => ?_, by simpa using shots⟩
  rw [repliesAwaited_setWaiting, setWaiting_link_waiting, awaited k, replies k, links k]
  by_cases same : l = k
  · subst same
    simp [idle]
  · simp [same]

/-- A link that awaited one reply waits no longer once it is answered (R167). -/
theorem waitingLaw_ended {s t : State} {l : Link} (h : WaitingLaw s)
    (links : ∀ k, (t.link k).waiting = (s.link k).waiting)
    (awaited : ∀ k, repliesAwaited s k = repliesAwaited t k + if l = k then 1 else 0)
    (shots : t.meas.current = some .oneShot → t.meas.oneShots ≠ []) : WaitingLaw (setWaiting l false t) := by
  obtain ⟨replies, -⟩ := (waitingLaw_iff s).mp h
  refine (waitingLaw_iff _).mpr ⟨fun k => ?_, by simpa using shots⟩
  have counted := awaited k
  rw [replies k] at counted
  rw [repliesAwaited_setWaiting, setWaiting_link_waiting, links k]
  by_cases same : l = k
  · rw [if_pos same] at counted ⊢
    rw [if_neg Bool.false_ne_true]
    split at counted <;> omega
  · rw [if_neg same] at counted ⊢
    rw [counted, Nat.add_zero]

/-- A link begins or ceases to wait, while the Measurement Unit changes its list. -/
theorem Sound.withMeas_waiting {s : State} (h : Sound s) {m : Measurement} {l : Link} {b : Bool}
    (law : MeasurementLaw (s.withMeas m)) (waiting : WaitingLaw (setWaiting l b (s.withMeas m))) :
    Sound (setWaiting l b (s.withMeas m)) := by
  cases l <;> exact { h with measurement := law, waiting := waiting }

/-- A link begins or ceases to wait, while the stores change. -/
theorem Sound.withStore_waiting {s : State} (h : Sound s) {x : Store} {l : Link} {b : Bool}
    (settings : SettingsLaw (s.withStore x)) (law : StoreLaw (s.withStore x))
    (waiting : WaitingLaw (setWaiting l b (s.withStore x))) : Sound (setWaiting l b (s.withStore x)) := by
  cases l <;> exact { h with settings := settings, store := law, waiting := waiting }

theorem Steady.of_sound_waiting {s t : State} (h : Steady s) {l : Link} {b : Bool} (sound : Sound (setWaiting l b t))
    (seq : t.seq = s.seq) (thermal : t.thermal = s.thermal) : Steady (setWaiting l b t) :=
  h.of_sound sound (by simpa using seq) (by simp [thermal])

/-! ### One-shot conversions -/

theorem repliesAwaited_withMeas (s : State) (m : Measurement) (k : Link) :
    repliesAwaited (s.withMeas m) k + (s.meas.oneShots.filter fun r => r.link = k).length =
      repliesAwaited s k + (m.oneShots.filter fun r => r.link = k).length := by
  simp only [repliesAwaited, State.withMeas_meas, State.withMeas_store]
  omega

/-- The oldest one-shot request leaves the list: its link awaits one reply less. -/
theorem repliesAwaited_dropShot {s : State} {m : Measurement} {r : OneShot} {rest : List OneShot}
    (shots : s.meas.oneShots = r :: rest) (left : m.oneShots = rest) (k : Link) :
    repliesAwaited s k = repliesAwaited (s.withMeas m) k + if r.link = k then 1 else 0 := by
  have counted := repliesAwaited_withMeas s m k
  rw [shots, left] at counted
  by_cases same : r.link = k
  · rw [List.filter_cons_of_pos (by simpa using same), List.length_cons] at counted
    rw [if_pos same]
    omega
  · rw [List.filter_cons_of_neg (by simpa using same)] at counted
    rw [if_neg same]
    omega

theorem Steady.oneShotComplete {s : State} (h : Steady s) (code : Code) : Steady (oneShotComplete code s) := by
  unfold Machine.oneShotComplete
  split
  · next r rest current shots =>
    change Steady (completeReply _ _ _ _ _)
    rw [completeReply_eq]
    refine Steady.sendReply (Steady.of_sound_waiting h (Sound.withMeas_waiting h.sound ?law ?waiting) ?seq ?thermal)
      _ _ _ ?short
    case law =>
      have law := h.sound.measurement
      simpa only [measurementLaw_iff, State.withMeas_meas, nextConversion_keeps] using law
    case waiting =>
      exact waitingLaw_ended h.sound.waiting (fun k => by cases k <;> rfl)
        (repliesAwaited_dropShot shots (nextConversion_keeps _).2.2.2.2.2.1) nextConversion_oneShot
    case seq => rfl
    case thermal => rfl
    case short => exact Nat.le_of_ble_eq_true rfl
  · exact h

/-! ### The persistent writes -/

/-- How many replies a save in progress owes a link. -/
def saveOwes (w : Option ImageWrite) (k : Link) : Nat :=
  match w with
  | some w =>
    match w.reply with
    | some (l, _) => if l = k then 1 else 0
    | none => 0
  | none => 0

/-- How many replies a programming in progress owes a link. -/
def wordOwes (w : Option WordWrite) (k : Link) : Nat :=
  match w with
  | some w => if w.reply.isSome ∧ k = .service then 1 else 0
  | none => 0

theorem repliesAwaited_eq (s : State) (k : Link) :
    repliesAwaited s k =
      (s.meas.oneShots.filter fun r => r.link = k).length + saveOwes s.store.imageWrite k +
        wordOwes s.store.wordWrite k := rfl

/-- The stores replaced, with the replies that are awaited of them kept. -/
theorem Sound.withStore_same {s : State} (h : Sound s) {x : Store} (settings : SettingsLaw (s.withStore x))
    (law : StoreLaw (s.withStore x)) (save : ∀ k, saveOwes x.imageWrite k = saveOwes s.store.imageWrite k)
    (word : ∀ k, wordOwes x.wordWrite k = wordOwes s.store.wordWrite k) : Sound (s.withStore x) :=
  { h with
    settings := settings
    store := law
    waiting := by
      obtain ⟨replies, shots⟩ := (waitingLaw_iff s).mp h.waiting
      refine (waitingLaw_iff _).mpr ⟨fun k => ?_, shots⟩
      have counted := replies k
      rw [repliesAwaited_eq] at counted ⊢
      rw [State.withStore_store, State.withStore_meas, save k, word k, counted]
      cases k <;> rfl }

theorem Steady.saveComplete {s : State} (h : Steady s) (agrees : Bool) : Steady (saveComplete agrees s) := by
  unfold Machine.saveComplete
  split
  · next w writing =>
    have settings : SettingsLaw (s.withStore
        { s.store with image := ⟨w.snapshot, Config.designRevision, agrees⟩, imageWrite := none }) := by
      obtain ⟨copy, snapshot, -⟩ := h.sound.settings
      exact ⟨copy, by simp, fun _ => snapshot w (by simp [writing])⟩
    unfold saveReply
    split
    · next l tag owed =>
      rw [completeReply_eq]
      refine Steady.sendReply (h.of_sound_waiting (h.sound.withStore_waiting settings h.sound.store ?_) rfl rfl) _ _ _
        (by simp)
      refine waitingLaw_ended h.sound.waiting (fun k => by cases k <;> rfl) (fun k => ?_) h.sound.waiting.2.2
      rw [repliesAwaited_eq, repliesAwaited_eq]
      simp only [State.withStore_store, State.withStore_meas, writing, saveOwes, owed]
      omega
    · next dropped =>
      exact h.of_sound (h.sound.withStore_same settings h.sound.store (fun k => by simp [saveOwes, writing, dropped])
        fun k => rfl) rfl rfl
  · exact h

theorem Steady.factoryWriteComplete {s : State} (h : Steady s) (readback : Half) :
    Steady (factoryWriteComplete readback s) := by
  unfold Machine.factoryWriteComplete
  split
  · next w writing =>
    have law : StoreLaw (s.withStore { s.store with words := put s.store.words w.index readback, wordWrite := none }) := by
      obtain ⟨-, rest⟩ := h.sound.store
      exact ⟨by simp, rest⟩
    unfold wordReply
    split
    · next tag owed =>
      rw [completeReply_eq]
      have short : (if readback = w.value then statusByte .ok :: oneByte w.index.val :: halfBytes w.value
          else [statusByte .storeFault]).length ≤ 200 := by split <;> simp [halfBytes]
      refine Steady.sendReply (h.of_sound_waiting (Sound.withStore_waiting h.sound ?_ law ?_) rfl rfl) _ _ _ short
      · exact h.sound.settings
      refine waitingLaw_ended h.sound.waiting (fun k => by cases k <;> rfl) (fun k => ?_) h.sound.waiting.2.2
      rw [repliesAwaited_eq, repliesAwaited_eq]
      cases k <;> simp [writing, wordOwes, owed]
    · next dropped =>
      exact h.of_sound (h.sound.withStore_same h.sound.settings law (fun k => rfl)
        fun k => by simp [wordOwes, writing, dropped]) rfl rfl
  · exact h

/-- A cell write that ends keeps the stores consistent, and begins a queued one (R182). -/
theorem cellWriteComplete_storeLaw {st : Store} {w : CellWrite} (writing : st.cellWrite = some w)
    {s : State} (h : StoreLaw (s.withStore st)) : StoreLaw (s.withStore (beginQueuedWrite (endCellWrite w st))) := by
  obtain ⟨blank, -, flips, first, second, written⟩ := h
  have contents := written w (by simp [writing])
  have next_flips (x : Store) (same : x.flips = st.flips) : (nextCellWrite x).copy.flips ≤ 65535 := by
    rw [nextCellWrite_flips, same]
    exact flips
  unfold endCellWrite beginQueuedWrite
  cases w.toFirst <;> cases queued : st.cellQueued <;>
    simp_all [StoreLaw]

theorem Steady.cellWriteComplete {s : State} (h : Steady s) : Steady (cellWriteComplete s) := by
  unfold Machine.cellWriteComplete
  split
  · next w writing =>
    have keeps : (beginQueuedWrite (endCellWrite w s.store)).image = s.store.image ∧
        (beginQueuedWrite (endCellWrite w s.store)).imageWrite = s.store.imageWrite ∧
        (beginQueuedWrite (endCellWrite w s.store)).wordWrite = s.store.wordWrite := by
      unfold endCellWrite beginQueuedWrite
      (repeat' split) <;> simp
    obtain ⟨image, save, word⟩ := keeps
    exact h.of_sound
      (h.sound.withStore image save word (cellWriteComplete_storeLaw (s := s) writing h.sound.store)) rfl rfl
  · exact h

/-! ### Lengths of byte layouts -/

@[simp] theorem halfBytes_length (w : Half) : (halfBytes w).length = 2 := rfl

@[simp] theorem signedBytes_length (t : Int) : (signedBytes t).length = 2 := rfl

@[simp] theorem maskBytes_length (m : BitVec 48) : (maskBytes m).length = 6 := rfl

@[simp] theorem pointBytes_length (p : Point) : (pointBytes p).length = 4 := rfl

@[simp] theorem keyEntryBytes_length (k : KeyEntry) : (keyEntryBytes k).length = 2 := rfl

@[simp] theorem rungBytes_length (r : Rung) : (rungBytes r).length = 5 := rfl

@[simp] theorem temperatureBytes_length (t : Option Int) : (temperatureBytes t).length = 2 := by
  cases t <;> rfl

@[simp] theorem codeBytes_length (c : Option Nat) : (codeBytes c).length = 2 := by
  cases c <;> rfl

@[simp] theorem keyKindBytes_length (k : KeyKind) : (keyKindBytes k).length = 3 := by
  cases k <;> rfl

@[simp] theorem queueEntryBytes_length (e : QueueEntry) : (queueEntryBytes e).length = 10 := by
  simp [queueEntryBytes]

@[simp] theorem recordBytes_length (r : LogRecord) : (recordBytes r).length = 16 := by
  simp [recordBytes]

@[simp] theorem channelBlock_length (r : ChannelRecord) : (channelBlock r).length = 7 := by
  simp [channelBlock]

@[simp] theorem counterBytes_length (x : LinkState) : (counterBytes x).length = 10 := rfl

@[simp] theorem zonePayload_length (z : Zone) (zs : ZoneSettings) : (zonePayload z zs).length = 10 := rfl

@[simp] theorem budgetPayload_length (off on : Nat) : (budgetPayload off on).length = 4 := rfl

@[simp] theorem limitsPayload_length (x : LimitSettings) (enable : Byte) : (limitsPayload x enable).length = 21 := rfl

@[simp] theorem timingPayload_length (t : TimingSettings) : (timingPayload t).length = 20 := rfl

@[simp] theorem chordPayload_length (i : ChordIndex) (c : ChordSettings) : (chordPayload i c).length = 16 := rfl

/-- Blocks of one length laid end to end. -/
theorem length_flatMap_of_same {α : Type} {f : α → List Byte} {n : Nat} (h : ∀ x, (f x).length = n) (xs : List α) :
    (xs.flatMap f).length = n * xs.length := by
  simp [List.length_flatMap, h, Nat.mul_comm]

theorem curvePayload_length (z : Zone) (curve : List Point) : (curvePayload z curve).length = 2 + 4 * curve.length := by
  simp [curvePayload, length_flatMap_of_same pointBytes_length]
  omega

theorem fanPayload_length (f : FanSettings) : (fanPayload f).length = 6 + 4 * f.curve.length := by
  simp [fanPayload, length_flatMap_of_same pointBytes_length]
  omega

theorem keypadPayload_length (k : KeypadSettings) : (keypadPayload k).length = 10 + 4 * k.curve.length := by
  simp [keypadPayload, length_flatMap_of_same pointBytes_length]
  omega

theorem keyEntriesPayload_length (first : Nat) (entries : List KeyEntry) :
    (keyEntriesPayload first entries).length = 2 + 2 * entries.length := by
  simp [keyEntriesPayload, length_flatMap_of_same keyEntryBytes_length]
  omega

theorem ladderPayload_length (rungs : List Rung) : (ladderPayload rungs).length = 1 + 5 * rungs.length := by
  simp [ladderPayload, length_flatMap_of_same rungBytes_length, Nat.add_comm]

theorem statusReply_length (s : State) : (statusReply s).length = 70 := by
  simp [statusReply, length_flatMap_of_same zoneStatus_length, climateStatus]

theorem sensorsReply_length (s : State) : (sensorsReply s).length = 65 := by
  simp [sensorsReply, length_flatMap_of_same channelBlock_length]

theorem readLogReply_length (records : List LogRecord) (log : EventLog) :
    (readLogReply records log).length = 11 + 16 * records.length := by
  simp [readLogReply, length_flatMap_of_same recordBytes_length]
  omega

theorem readKeysReply_length (n held : Nat) (q : KeyQueue) :
    (readKeysReply n held q).length = 6 + 10 * min n q.entries.length := by
  simp [readKeysReply, length_flatMap_of_same queueEntryBytes_length]
  omega

/-! ### What a Set request reads -/

theorem readPoints_length {n : Nat} {bytes : List Byte} (h : bytes.length = 4 * n) : (readPoints bytes).length = n := by
  induction n generalizing bytes with
  | zero => simp [List.eq_nil_of_length_eq_zero h, readPoints]
  | succ n ih =>
    match bytes, h with
    | a :: b :: c :: d :: rest, h =>
      simp only [List.length_cons] at h
      simp [readPoints, ih (bytes := rest) (by omega)]

theorem readKeyEntries_length {n : Nat} {bytes : List Byte} (h : bytes.length = 2 * n) :
    (readKeyEntries bytes).length = n := by
  induction n generalizing bytes with
  | zero => simp [List.eq_nil_of_length_eq_zero h, readKeyEntries]
  | succ n ih =>
    match bytes, h with
    | a :: b :: rest, h =>
      simp only [List.length_cons] at h
      simp [readKeyEntries, ih (bytes := rest) (by omega)]

theorem readRungs_length {n : Nat} {bytes : List Byte} (h : bytes.length = 5 * n) : (readRungs bytes).length = n := by
  induction n generalizing bytes with
  | zero => simp [List.eq_nil_of_length_eq_zero h, readRungs]
  | succ n ih =>
    match bytes, h with
    | a :: b :: c :: d :: e :: rest, h =>
      simp only [List.length_cons] at h
      simp [readRungs, ih (bytes := rest) (by omega)]

theorem clampPoint_inRange {low high : Nat} (h : low ≤ high) (p : Point) :
    TemperatureInRange (clampPoint low high p).temperature ∧ low ≤ (clampPoint low high p).value ∧
      (clampPoint low high p).value ≤ high :=
  ⟨clampInt_range _ _ _ (by decide), clampNat_range _ _ _ h⟩

/-- A curve read and brought into range, once its count has passed (R21, R36, R59, R132). -/
theorem readCurve_inRange {n low high count : Nat} {bytes : List Byte} (some_point : ¬(count = 0 ∨ n < count))
    (length : ¬bytes.length ≠ 4 * count) (order : low ≤ high)
    (ascends : ascending ((readPoints bytes).map (clampPoint low high)) = true) :
    CurveInRange n low high ((readPoints bytes).map (clampPoint low high)) := by
  have points := readPoints_length (n := count) (bytes := bytes) (by omega)
  refine ⟨by rw [List.length_map, points]; omega, by rw [List.length_map, points]; omega, ascends, fun p mem => ?_⟩
  obtain ⟨q, -, rfl⟩ := List.mem_map.mp mem
  exact clampPoint_inRange order q

theorem readRungs_inRange (bytes : List Byte) : ∀ r ∈ readRungs bytes, RungInRange r := by
  induction bytes using readRungs.induct with
  | case1 action attempts o1 o0 flags rest ih =>
    intro r mem
    rw [readRungs, List.mem_cons] at mem
    rcases mem with rfl | mem
    · obtain ⟨a, b⟩ := clampNat_range 1 7 attempts.toNat (by decide)
      obtain ⟨c, d⟩ := clampNat_range 1 3600 (readHalf o1 o0) (by decide)
      exact ⟨a, b, c, d⟩
    · exact ih r mem
  | case2 bytes short => simp [readRungs]

end Sys2Proof.Machine
end

section
/-! SUPPORT. What each request's block answers keeps the laws, and so does the request as it is taken (R166). -/

namespace Sys2Proof.Machine

/-! ### Answers -/

/-- A block's answer keeps the laws: with a reply to hand over now, one that fits a frame. -/
def Kept (r : State × Option (List Byte)) : Prop :=
  match r.2 with
  | some payload => Steady r.1 ∧ payload.length ≤ 200
  | none => Lawful r.1

theorem Kept.reply {t : State} {payload : List Byte} (h : Steady t) (short : payload.length ≤ 200) :
    Kept (t, some payload) := ⟨h, short⟩

theorem Kept.refuse {s : State} (h : Steady s) (status : Status) : Kept (refuse status s) :=
  .reply h (by simp)

theorem Kept.deferred {t : State} (h : Lawful t) : Kept (t, none) := h

theorem receiving_iff (s : State) : receiving s = true ↔ s.resetting = none ∧ s.resetReply = none := by
  simp [receiving, Option.isNone_iff_eq_none]

/-- A request keeps the laws when its block's answer does, in every state in which it can reach its block (R166). -/
theorem answer_lawful {l : Link} {kind tag : Byte} {body : State → State × Option (List Byte)} {s : State} (h : Lawful s)
    (kept : ∀ t, Steady t → Dispatches l t → Kept (body t)) : Lawful (answer l kind tag body s) := by
  cases r : receiving s
  · rw [answer_of_deaf r]
    exact h
  · have steady : Steady (setReceiver l .hunting s) := (h.steady ((receiving_iff s).mp r).1).setReceiver l .hunting
    cases w : (s.link l).waiting
    · have kept := kept _ steady ⟨by rw [receiving_setReceiver, r], by rw [setReceiver_link_waiting, w]⟩
      rcases e : body (setReceiver l .hunting s) with ⟨t, _ | payload⟩ <;> rw [e] at kept
      · rw [answer_of_deferred r w e]
        exact kept
      · rw [answer_of_reply r w e]
        exact (Steady.sendReply kept.1 l kind tag kept.2).lawful
    · rw [answer_of_waiting r w]
      exact (steady.sendReply l kind tag (by simp)).lawful

/-! ### Settings -/

/-- The settings replaced by others in range, with the rungs and the fan minimum kept. -/
theorem Steady.withSettings {s : State} (h : Steady s) {x : Settings} (law : SettingsInRange x)
    (rungs : x.ladder = s.settings.ladder) (minimum : x.fan.minimum = s.settings.fan.minimum) : Steady (s.withSettings x) :=
  h.of_sound (h.sound.withSettings law rungs minimum) rfl rfl

theorem SettingsInRange.withZone {x : Settings} (h : SettingsInRange x) (z : Zone) {zs : ZoneSettings}
    (fields : ZoneInRange zs) (curve : CurveInRange 8 0 1000 zs.curve) :
    SettingsInRange { x with zones := put x.zones z zs } := by
  obtain ⟨zones, rest⟩ := h
  refine ⟨fun y => ?_, rest⟩
  dsimp only
  rw [put_getElem]
  split
  · exact ⟨fields, curve⟩
  · exact zones y

theorem SettingsInRange.withChord {x : Settings} (h : SettingsInRange x) (i : ChordIndex) {c : ChordSettings}
    (law : ChordInRange c) : SettingsInRange { x with chords := put x.chords i c } := by
  obtain ⟨zones, off, on, fan, limits, keypad, chords, rest⟩ := h
  refine ⟨zones, off, on, fan, limits, keypad, fun j => ?_, rest⟩
  dsimp only
  rw [put_getElem]
  split
  · exact law
  · exact chords j

theorem Steady.applyZone {s : State} (h : Steady s) (z : Zone) {zs : ZoneSettings} (fields : ZoneInRange zs) :
    Steady (applyZone z zs s) := by
  have t : Steady (s.withSettings
      { s.settings with zones := put s.settings.zones z { zs with curve := s.settings.zones[z].curve } }) :=
    h.withSettings (h.sound.inRange.withZone z fields (h.sound.inRange.1 z).2) rfl rfl
  unfold Machine.applyZone
  dsimp only
  split
  · exact t
  · have law : ZoneLaw s.thermal.tripped { s.zones[z] with priority := zs.initialPriority } :=
      ZoneLaw.of_same (h.sound.heater z) rfl rfl rfl
    exact t.putZone z law

theorem Steady.applyFan {s : State} (h : Steady s) {f : FanSettings} (law : FanInRange f) : Steady (applyFan f s) := by
  have minimum : f.minimum ≤ 1000 := law.1
  have inRange : SettingsInRange { s.settings with fan := f } := by
    obtain ⟨zones, off, on, -, rest⟩ := h.sound.inRange
    exact ⟨zones, off, on, law, rest⟩
  have fan : FanLaw (Machine.applyFan f s) := by
    obtain ⟨-, most⟩ := h.sound.fan
    simp only [FanLaw, Machine.applyFan, State.withThermal_seq, State.withSettings_seq, State.withThermal_settings,
      State.withSettings_settings, State.withThermal_thermal]
    constructor
    · intro on
      simp [on]
    · split <;> omega
  exact h.of_sound { h.sound with settings := ⟨inRange, h.sound.settings.2⟩, fan := fan } rfl rfl

/-- A new rung table takes the ladder to its start (R103). -/
theorem Steady.replaceLadder {s : State} (h : Steady s) {rungs : List Rung} (law : LadderInRange rungs) :
    Steady (ladderReset (s.withSettings { s.settings with ladder := rungs })) := by
  have inRange : SettingsInRange { s.settings with ladder := rungs } := by
    obtain ⟨zones, off, on, fan, limits, keypad, chords, -, rest⟩ := h.sound.inRange
    exact ⟨zones, off, on, fan, limits, keypad, chords, law, rest⟩
  have ladder : LadderLaw (Machine.ladderReset (s.withSettings { s.settings with ladder := rungs })) :=
    ⟨law.1, Nat.zero_le _⟩
  exact h.of_sound { h.sound with settings := ⟨inRange, h.sound.settings.2⟩, ladder := ladder } rfl rfl

/-! ### The blocks' answers -/

theorem identifyBody_kept {s : State} (h : Steady s) (l : Link) (payload : List Byte) : Kept (identifyBody l payload s) := by
  unfold identifyBody
  split
  · exact .reply h (by simp [identifyReply])
  · exact .refuse h _

theorem getStatusBody_kept {s : State} (h : Steady s) (payload : List Byte) : Kept (getStatusBody payload s) := by
  unfold getStatusBody
  split
  · exact .reply h (by rw [statusReply_length]; decide)
  · exact .refuse h _

theorem readKeysBody_kept {s : State} (h : Steady s) (l : Link) (payload : List Byte) : Kept (readKeysBody l payload s) := by
  unfold readKeysBody
  split
  · split
    · exact .refuse h _
    · split
      · exact .refuse h _
      · have short (held : Nat) (n : Byte) (status : Byte) : (status :: readKeysReply
            (min (min n.toNat 10) s.queue.entries.length) held s.queue).length ≤ 200 := by
          rw [List.length_cons, readKeysReply_length]
          omega
        dsimp only
        split
        · refine .reply (h.of_sound (h.sound.followQueue ?_) (by simp [removeEntries]) (by simp [removeEntries])) (short ..)
          obtain ⟨room, gaps, lost, flushed⟩ := h.sound.queueInRange
          refine ⟨?_, fun e mem => gaps e (List.mem_of_mem_drop mem), lost, flushed⟩
          dsimp only
          rw [List.length_drop]
          omega
        · exact .reply h (short ..)
  · exact .refuse h _

theorem readLogBody_kept {s : State} (h : Steady s) (payload : List Byte) : Kept (readLogBody payload s) := by
  unfold readLogBody
  split
  · split
    · exact .refuse h _
    · refine .reply h ?_
      rw [List.length_cons, readLogReply_length, List.length_take]
      omega
  · exact .refuse h _

theorem getAttentionBody_kept {s : State} (h : Steady s) (payload : List Byte) : Kept (getAttentionBody payload s) := by
  unfold getAttentionBody
  split
  · exact .reply h (by simp)
  · exact .refuse h _

/-- Clearing the latched causes named leaves the key causes (R175). -/
theorem holdsCause_clearLatched {c : Cause} (level : c = .keys ∨ c = .keysHalf ∨ c = .keysFull) (pending named : Half) :
    holdsCause (clearLatched pending named) c = holdsCause pending c := by
  rcases level with rfl | rfl | rfl <;>
    simp [holdsCause, clearLatched, causePosition, levelWeights]

theorem clearAttentionBody_kept {s : State} (h : Steady s) (payload : List Byte) :
    Kept (clearAttentionBody payload s) := by
  unfold clearAttentionBody
  split
  · refine .reply (h.of_sound (h.sound.withCauses (and_within h.sound.causesWithin _) ?_ ?_ ?_) rfl rfl) (by simp)
    · exact holdsCause_clearLatched (.inl rfl) _ _
    · exact holdsCause_clearLatched (.inr (.inl rfl)) _ _
    · exact holdsCause_clearLatched (.inr (.inr rfl)) _ _
  · exact .refuse h _

theorem setMaskBody_kept {s : State} (h : Steady s) (payload : List Byte) : Kept (setMaskBody payload s) := by
  unfold setMaskBody
  split
  · refine .reply (h.withSettings ?_ rfl rfl) (by simp)
    obtain ⟨zones, off, on, fan, limits, keypad, chords, ladder, timing, -⟩ := h.sound.inRange
    refine ⟨zones, off, on, fan, limits, keypad, chords, ladder, timing, ?_⟩
    rw [BitVec.and_assoc, show causeWeights &&& ~~~causeWeights = 0 by decide]
    exact BitVec.and_zero
  · exact .refuse h _

theorem startHostBody_kept {s : State} (h : Steady s) (payload : List Byte) : Kept (startHostBody payload s) := by
  unfold startHostBody
  split
  · split
    · exact .reply (.enterWarming h.sound) (by simp)
    · exact .refuse h _
  · exact .refuse h _

theorem releaseLockoutBody_kept {s : State} (h : Steady s) (payload : List Byte) :
    Kept (releaseLockoutBody payload s) := by
  unfold releaseLockoutBody
  split
  · split
    · exact .reply (.releaseLockedOut h.sound 0) (by simp)
    · exact .refuse h _
  · exact .refuse h _

theorem powerOffEffect_steady {s t : State} (h : Steady s) {delay : Nat} (e : powerOffEffect delay s = some t) :
    Steady t := by
  have stopped : Steady (stopHost delay s) := .stopHost h.sound delay
  unfold powerOffEffect at e
  split at e <;> cases e
  · exact stopped
  · exact stopped
  · exact stopped
  · exact stopped
  · exact stopped
  · next stopping =>
    exact .startStopTimer h.sound _ { h.seated with powerOff := by simp [stopping, startTimer] }
  · exact .enterOff h.sound 3
  · exact .enterOff h.sound 3
  · refine ⟨h.sound.withSeq rfl h.sound.stage, { h.seated with restart := ?_ }⟩
    have same : (requestOff s).seq.restart.isSome = s.seq.restart.isSome := by simp [requestOff]
    rw [same]
    exact h.seated.restart

theorem powerOffBody_kept {s : State} (h : Steady s) (payload : List Byte) : Kept (powerOffBody payload s) := by
  unfold powerOffBody
  split
  · dsimp only
    split
    · next t e => exact .reply (powerOffEffect_steady h e) (by simp)
    · exact .refuse h _
  · exact .refuse h _

theorem restartBody_kept {s : State} (h : Steady s) (payload : List Byte) : Kept (restartBody payload s) := by
  unfold restartBody
  split
  · split
    · exact .refuse h _
    · split
      · exact .reply (.enterRestarting h.sound _ _ _) (by simp)
      · exact .refuse h _
  · exact .refuse h _

theorem readyBody_kept {s : State} (h : Steady s) (l : Link) (payload : List Byte) : Kept (readyBody l payload s) := by
  unfold readyBody
  split
  · exact .refuse h _
  · split
    · exact .reply h.carryOut (by simp)
    · exact .refuse h _
  · exact .refuse h _

theorem Steady.grantDefer {s : State} (h : Steady s) (warned : s.seq.state = .warned) : Steady (grantDefer s) := by
  unfold Machine.grantDefer
  apply Steady.appendLog
  refine ⟨h.sound.withSeq rfl h.sound.stage, { h.seated with warning := ?_, grace := ?_ }⟩
  · rw [State.withSeq_seq, Option.isSome_map]
    exact h.seated.warning
  · simp [warned, startTimer]

theorem deferBody_kept {s : State} (h : Steady s) (l : Link) (tag : Byte) (payload : List Byte) :
    Kept (deferBody l tag payload s) := by
  unfold deferBody
  split
  · exact .refuse h _
  · split
    · next available =>
      have granted := h.grantDefer available.1
      dsimp only
      split
      · exact .deferred ((granted.sendReply .host 0x0D tag (by simp)).carryOut.lawful)
      · exact .reply granted (by simp)
    · exact .refuse h _
  · exact .refuse h _

theorem setTimeBody_kept {s : State} (h : Steady s) (payload : List Byte) : Kept (setTimeBody payload s) := by
  unfold setTimeBody
  split
  · next a b c d =>
    have set : Steady (s.withTimeBase (readFull a b c d)) := h.of_sound { h.sound with } rfl rfl
    exact .reply (set.appendLog .timeSet 0) (by simp)
  · exact .refuse h _

theorem readSensorsBody_kept {s : State} (h : Steady s) (payload : List Byte) : Kept (readSensorsBody payload s) := by
  unfold readSensorsBody
  split
  · exact .reply h (by rw [sensorsReply_length]; decide)
  · exact .refuse h _

theorem sampleBody_kept {s : State} (h : Steady s) {l : Link} (idle : (s.link l).waiting = false) (tag : Byte)
    (payload : List Byte) : Kept (sampleBody l tag payload s) := by
  unfold sampleBody
  split
  · split
    · exact .refuse h _
    · next c _ =>
      refine .deferred (Steady.of_sound_waiting h (Sound.withMeas_waiting h.sound ?law
        (waitingLaw_begun h.sound.waiting idle ?links (fun k => ?awaited) ?shots)) ?seq ?thermal).lawful
      case law => exact h.sound.measurement
      case links => exact fun k => by cases k <;> rfl
      case seq => rfl
      case thermal => rfl
      case awaited =>
        have counted := repliesAwaited_withMeas s { s.meas with oneShots := s.meas.oneShots ++ [⟨l, tag, c⟩] } k
        simp only [List.filter_append, List.length_append, List.filter_cons, List.filter_nil] at counted
        by_cases same : l = k
        · simp only [same, decide_true, if_true, List.length_singleton] at counted ⊢
          omega
        · simp only [same, decide_false, Bool.false_eq_true, if_false, List.length_nil] at counted ⊢
          omega
      case shots => simp
  · exact .refuse h _

theorem setZoneBody_kept {s : State} (h : Steady s) (payload : List Byte) : Kept (setZoneBody payload s) := by
  unfold setZoneBody
  split
  · split
    · refine .reply (h.applyZone _ ⟨?_, ?_, ?_, ?_⟩) (by simp)
      · exact (clampNat_range _ _ _ (by decide)).2
      · exact (clampNat_range _ _ _ (by decide)).2
      · exact (clampNat_range _ _ _ (by decide)).2
      · exact clampInt_range _ _ _ (by decide)
    · exact .refuse h _
  · exact .refuse h _

theorem setHeaterCurveBody_kept {s : State} (h : Steady s) (payload : List Byte) :
    Kept (setHeaterCurveBody payload s) := by
  unfold setHeaterCurveBody
  split
  · split
    · exact .refuse h _
    · next z _ =>
      split
      · exact .refuse h _
      · next points =>
        split
        · exact .refuse h _
        · next length =>
          dsimp only
          split
          · next ascends =>
            have curve := readCurve_inRange points length (Nat.zero_le 1000) ascends
            refine .reply (h.withSettings (h.sound.inRange.withZone z ?_ curve) rfl rfl) ?_
            · exact (h.sound.inRange.1 z).1
            · rw [List.length_cons, curvePayload_length]
              have := curve.2.1
              omega
          · exact .refuse h _
  · exact .refuse h _

theorem setBudgetBody_kept {s : State} (h : Steady s) (payload : List Byte) : Kept (setBudgetBody payload s) := by
  unfold setBudgetBody
  split
  · refine .reply (h.withSettings ?_ rfl rfl) (by simp)
    obtain ⟨zones, -, -, rest⟩ := h.sound.inRange
    exact ⟨zones, (clampNat_range _ _ _ (by decide)).2, (clampNat_range _ _ _ (by decide)).2, rest⟩
  · exact .refuse h _

theorem setFanBody_kept {s : State} (h : Steady s) (payload : List Byte) : Kept (setFanBody payload s) := by
  unfold setFanBody
  split
  · split
    · exact .refuse h _
    · next points =>
      split
      · exact .refuse h _
      · next length =>
        dsimp only
        split
        · next ascends =>
          have curve := readCurve_inRange points length (Nat.zero_le 1000) ascends
          refine .reply (h.applyFan ⟨?_, ?_, curve⟩) ?_
          · exact (clampNat_range _ _ _ (by decide)).2
          · exact (clampNat_range _ _ _ (by decide)).2
          · rw [List.length_cons, fanPayload_length]
            have := curve.2.1
            dsimp only
            omega
        · exact .refuse h _
  · exact .refuse h _

theorem setLimitsBody_kept {s : State} (h : Steady s) (payload : List Byte) : Kept (setLimitsBody payload s) := by
  unfold setLimitsBody
  split
  · split
    · dsimp only
      split
      · exact .refuse h _
      · next apart =>
        refine .reply (h.withSettings ?_ rfl rfl) (by simp)
        obtain ⟨zones, off, on, fan, -, rest⟩ := h.sound.inRange
        refine ⟨zones, off, on, fan, ⟨?_, ?_, ?_, ?_, ?_, ?_, ?_, ?_, ?_, ?_⟩, rest⟩
        · exact clampInt_range _ _ _ (by decide)
        · exact (clampNat_range _ _ _ (by decide)).2
        · exact clampInt_range _ _ _ (by decide)
        · exact Int.not_le.mp apart
        · exact (clampNat_range _ _ _ (by decide)).2
        · exact (clampNat_range _ _ _ (by decide)).2
        · exact (clampNat_range _ _ _ (by decide)).2
        · exact (clampNat_range _ _ _ (by decide)).2
        · exact (clampNat_range _ _ _ (by decide)).2
        · exact clampNat_range _ _ _ (by decide)
    · exact .refuse h _
  · exact .refuse h _

theorem clearFilterBody_kept {s : State} (h : Steady s) (payload : List Byte) : Kept (clearFilterBody payload s) := by
  unfold clearFilterBody
  split
  · exact .reply (h.withThermal_same rfl rfl rfl) (by simp)
  · exact .refuse h _

theorem setKeypadBody_kept {s : State} (h : Steady s) (payload : List Byte) : Kept (setKeypadBody payload s) := by
  unfold setKeypadBody
  split
  · split
    · exact .refuse h _
    · split
      · exact .refuse h _
      · next points =>
        split
        · exact .refuse h _
        · next length =>
          dsimp only
          split
          · next ascends =>
            have curve := readCurve_inRange points length (show 2 ≤ 100 by decide) ascends
            have set := h.sound.inRange
            refine .reply (h.of_sound (Sound.recomputeDebounce (h.sound.withSettings ?_ rfl rfl)) rfl rfl) ?_
            · obtain ⟨zones, off, on, fan, limits, -, rest⟩ := h.sound.inRange
              refine ⟨zones, off, on, fan, limits, ?_, rest⟩
              obtain ⟨a, b⟩ := clampNat_range 20 500 (readHalf _ _) (by decide)
              exact ⟨a, b, (clampNat_range _ _ _ (by decide)).1, (clampNat_range _ _ _ (by decide)).2,
                (clampNat_range _ _ _ (by decide)).1, (clampNat_range _ _ _ (by decide)).2,
                (clampNat_range _ _ _ (by decide)).2, curve⟩
            · rw [List.length_cons, keypadPayload_length]
              have := curve.2.1
              dsimp only
              omega
          · exact .refuse h _
  · exact .refuse h _

theorem setKeyEntriesBody_kept {s : State} (h : Steady s) (payload : List Byte) : Kept (setKeyEntriesBody payload s) := by
  unfold setKeyEntriesBody
  split
  · split
    · exact .refuse h _
    · next run =>
      split
      · exact .refuse h _
      · next length =>
        refine .reply (h.withSettings h.sound.inRange rfl rfl) ?_
        rw [List.length_cons, keyEntriesPayload_length, readKeyEntries_length (Decidable.not_not.mp length)]
        omega
  · exact .refuse h _

theorem setChordBody_kept {s : State} (h : Steady s) (payload : List Byte) : Kept (setChordBody payload s) := by
  unfold setChordBody
  split
  · split
    · exact .refuse h _
    · dsimp only
      split
      · exact .refuse h _
      · next size =>
        split
        · exact .refuse h _
        · next disjoint =>
          split
          · exact .refuse h _
          · refine .reply (Steady.setChordState (h.withSettings (h.sound.inRange.withChord _ ?_) rfl rfl) _ _) (by simp)
            exact ⟨by dsimp only; omega, by dsimp only; omega, Decidable.not_not.mp disjoint,
              clampNat_range _ _ _ (by decide)⟩
  · exact .refuse h _

theorem setLadderBody_kept {s : State} (h : Steady s) (payload : List Byte) : Kept (setLadderBody payload s) := by
  unfold setLadderBody
  split
  · exact .refuse h _
  · split
    · exact .refuse h _
    · next count =>
      split
      · exact .refuse h _
      · next length =>
        have rungs := readRungs_length (Decidable.not_not.mp length)
        split
        · exact .refuse h _
        · refine .reply (h.replaceLadder ⟨by omega, by omega, readRungs_inRange _⟩) ?_
          rw [List.length_cons, ladderPayload_length]
          omega

theorem setTimingBody_kept {s : State} (h : Steady s) (payload : List Byte) : Kept (setTimingBody payload s) := by
  unfold setTimingBody
  split
  · refine .reply (h.withSettings ?_ rfl rfl) (by simp)
    obtain ⟨zones, off, on, fan, limits, keypad, chords, ladder, -, mask⟩ := h.sound.inRange
    refine ⟨zones, off, on, fan, limits, keypad, chords, ladder, ⟨?_, ?_, ?_, ?_, ?_, ?_, ?_, ?_, ?_, ?_, ?_⟩, mask⟩
    · exact clampNat_range _ _ _ (by decide)
    · exact clampNat_range _ _ _ (by decide)
    · exact clampNat_range _ _ _ (by decide)
    · exact (clampNat_range _ _ _ (by decide)).2
    · exact clampNat_range _ _ _ (by decide)
    · exact clampNat_range _ _ _ (by decide)
    · exact clampNat_range _ _ _ (by decide)
    · exact (clampNat_range _ _ _ (by decide)).2
    · exact (clampNat_range _ _ _ (by decide)).2
    · exact (clampNat_range _ _ _ (by decide)).2
    · exact (clampNat_range _ _ _ (by decide)).2
  · exact .refuse h _

/-- Blocks of at most one length laid end to end. -/
theorem length_flatMap_le {α : Type} {f : α → List Byte} {n : Nat} (h : ∀ x, (f x).length ≤ n) (xs : List α) :
    (xs.flatMap f).length ≤ n * xs.length := by
  induction xs with
  | nil => simp
  | cons x xs ih =>
    rw [List.flatMap_cons, List.length_append, List.length_cons, Nat.mul_succ]
    have := h x
    omega

/-- The contents of a group fit a reply, when the settings are in range (Table 11-1). -/
theorem groupContents_length_le {x : Settings} (h : SettingsInRange x) {code : Nat} {contents : List Byte}
    (found : groupContents code x = some contents) : contents.length ≤ 198 := by
  obtain ⟨zones, -, -, ⟨-, -, -, fanPoints, -⟩, -, ⟨-, -, -, -, -, -, -, -, keypadPoints, -⟩, -, ⟨-, rungs, -⟩, -⟩ := h
  unfold groupContents at found
  split at found <;> cases found
  · have zone (z : Zone) : (zonePayload z x.zones[z] ++ curvePayload z x.zones[z].curve).length ≤ 44 := by
      obtain ⟨-, -, points, -⟩ := zones z
      rw [List.length_append, zonePayload_length, curvePayload_length]
      omega
    exact (length_flatMap_le zone (List.finRange 4)).trans (by simp)
  · simp
  · rw [fanPayload_length]
    omega
  · simp
  · rw [keypadPayload_length]
    omega
  · simp [keyEntriesPayload_length]
  · simp [chordsContents]
  · rw [ladderPayload_length]
    omega
  · simp
  · simp
  · simp

theorem readSettingsBody_kept {s : State} (h : Steady s) (payload : List Byte) : Kept (readSettingsBody payload s) := by
  unfold readSettingsBody
  split
  · split
    · next contents found =>
      have := groupContents_length_le h.sound.inRange found
      exact .reply h (by simp only [List.length_cons]; omega)
    · exact .refuse h _
  · exact .refuse h _

theorem saveSettingsBody_kept {s : State} (h : Steady s) {l : Link} (idle : (s.link l).waiting = false) (tag : Byte)
    (payload : List Byte) : Kept (saveSettingsBody l tag payload s) := by
  unfold saveSettingsBody
  split
  · split
    · exact .refuse h _
    · next free =>
      rw [Bool.not_eq_true, Option.isSome_eq_false_iff, Option.isNone_iff_eq_none] at free
      refine .deferred (Steady.of_sound_waiting h (Sound.withStore_waiting h.sound ?settings ?store
        (waitingLaw_begun h.sound.waiting idle ?links ?awaited ?shots)) ?seq ?thermal).lawful
      case seq => rfl
      case thermal => rfl
      case settings =>
        obtain ⟨copy, -, image⟩ := h.sound.settings
        exact ⟨copy, by simpa using copy, image⟩
      case store => exact h.sound.store
      case links => exact fun k => by cases k <;> rfl
      case awaited =>
        intro k
        rw [repliesAwaited_eq, repliesAwaited_eq]
        simp only [State.withStore_store, State.withStore_meas, free, saveOwes]
        omega
      case shots => exact h.sound.waiting.2.2
  · exact .refuse h _

theorem readFactoryBody_kept {s : State} (h : Steady s) (payload : List Byte) : Kept (readFactoryBody payload s) := by
  unfold readFactoryBody
  split
  · split
    · exact .refuse h _
    · refine .reply h ?_
      simp only [List.length_cons, length_flatMap_of_same halfBytes_length, List.length_take]
      omega
  · exact .refuse h _

theorem programBody_kept {s : State} (h : Steady s) {l : Link} (idle : (s.link l).waiting = false) (tag : Byte)
    (payload : List Byte) : Kept (programBody l tag payload s) := by
  unfold programBody
  split
  · exact .refuse h _
  · split
    · exact .refuse h _
    · next i _ =>
      dsimp only
      split
      · exact .refuse h _
      · split
        · exact .refuse h _
        · next blank =>
          have unwritten : wordOwes s.store.wordWrite .service = 0 := by
            obtain ⟨replies, -⟩ := (waitingLaw_iff s).mp h.sound.waiting
            have none_awaited := replies .service
            rw [idle, repliesAwaited_eq] at none_awaited
            rw [if_neg Bool.false_ne_true] at none_awaited
            omega
          refine .deferred (Steady.of_sound_waiting h (Sound.withStore_waiting h.sound ?settings ?store
            (waitingLaw_begun h.sound.waiting idle ?links ?awaited ?shots)) ?seq ?thermal).lawful
          case seq => rfl
          case thermal => rfl
          case settings => exact h.sound.settings
          case store =>
            obtain ⟨-, rest⟩ := h.sound.store
            exact ⟨by simpa using Decidable.not_not.mp blank, rest⟩
          case links => exact fun k => by cases k <;> rfl
          case awaited =>
            intro k
            rw [repliesAwaited_eq, repliesAwaited_eq]
            cases k
            · simp [wordOwes]
              split <;> rfl
            · rw [unwritten]
              simp [wordOwes]
          case shots => exact h.sound.waiting.2.2
  · exact .refuse h _

theorem clearedCounters_law {x : LinkState} (h : OneLinkLaw x) : OneLinkLaw (clearedCounters x) := by
  obtain ⟨room, fits, -⟩ := h
  exact ⟨room, fits, Nat.zero_le _, Nat.zero_le _, Nat.zero_le _, Nat.zero_le _, Nat.zero_le _⟩

theorem getCountersBody_kept {s : State} (h : Steady s) (payload : List Byte) : Kept (getCountersBody payload s) := by
  unfold getCountersBody
  split
  · dsimp only
    split
    · exact .reply h (by simp)
    · split
      · obtain ⟨host, service⟩ := h.sound.link
        exact .reply (h.of_sound (h.sound.withLinks (clearedCounters_law host) (clearedCounters_law service) rfl rfl) rfl rfl)
          (by simp)
      · exact .refuse h _
  · exact .refuse h _

end Sys2Proof.Machine
end

section
/-! SUPPORT. The resets, the time base and the transmitters keep the laws, also through a reset. -/

namespace Sys2Proof.Machine

/-! ### The start of a reset -/

theorem resetLink_law (kind : ResetKind) {x : LinkState} (h : OneLinkLaw x) : OneLinkLaw (resetLink kind x) := by
  obtain ⟨-, -, counters⟩ := h
  cases kind
  · simp [OneLinkLaw, resetLink, LinkState.fresh]
  · exact ⟨Nat.zero_le _, by simp [resetLink], counters⟩
  · exact ⟨Nat.zero_le _, by simp [resetLink], counters⟩

@[simp] theorem resetLink_quiet (kind : ResetKind) (x : LinkState) :
    (resetLink kind x).receiver = .hunting ∧ (resetLink kind x).output = [] ∧ (resetLink kind x).waiting = false := by
  cases kind <;> simp [resetLink, LinkState.fresh]

theorem resetLog_law {s : State} (kind : ResetKind) (h : LogLaw s) : LogRuns (resetLog kind s.log) := by
  cases kind
  · simp [LogRuns, resetLog, consecutive]
  · exact ((logLaw_iff s).mp h).1
  · exact ((logLaw_iff s).mp h).1

theorem resetQueue_inRange (kind : ResetKind) (q : KeyQueue) : QueueInRange (resetQueue kind q) := by
  cases kind
  · simp [QueueInRange, resetQueue]
  · exact flushedQueue_inRange
  · exact flushedQueue_inRange

@[simp] theorem resetQueue_entries (kind : ResetKind) (q : KeyQueue) : (resetQueue kind q).entries = [] := by
  cases kind <;> rfl

@[simp] theorem spoilCell_flips (st : Store) :
    (spoilCell st).copyA.flips = st.copyA.flips ∧ (spoilCell st).copyB.flips = st.copyB.flips ∧
      (spoilCell st).flips = st.flips := by
  unfold spoilCell
  (repeat' split) <;> simp

theorem readCell_flips {st : Store} (first : st.copyA.flips ≤ 65535) (second : st.copyB.flips ≤ 65535) :
    (readCell st).flips ≤ 65535 ∧ (readCell st).copyA = st.copyA ∧ (readCell st).copyB = st.copyB := by
  unfold readCell
  split
  · exact ⟨Nat.zero_le _, rfl, rfl⟩
  · split
    · exact ⟨first, rfl, rfl⟩
    · exact ⟨second, rfl, rfl⟩

theorem readCell_spoilCell_keeps (st : Store) :
    (readCell (spoilCell st)).image = st.image ∧ (readCell (spoilCell st)).imageWrite = st.imageWrite ∧
      (readCell (spoilCell st)).words = st.words ∧ (readCell (spoilCell st)).wordWrite = st.wordWrite := by
  unfold readCell spoilCell
  (repeat' split) <;> simp

theorem interruptWord_keeps (freeIndex : Nat) (st : Store) :
    (interruptWord freeIndex st).image = st.image ∧ (interruptWord freeIndex st).imageWrite = st.imageWrite ∧
      (interruptWord freeIndex st).slot = st.slot ∧ (interruptWord freeIndex st).flips = st.flips ∧
      (interruptWord freeIndex st).copyA = st.copyA ∧ (interruptWord freeIndex st).copyB = st.copyB ∧
      (interruptWord freeIndex st).cellWrite = st.cellWrite ∧ (interruptWord freeIndex st).cellQueued = st.cellQueued ∧
      (interruptWord freeIndex st).wordWrite = none := by
  unfold interruptWord
  split
  · simp
  · next idle => simp [idle]

/-- No persistent write is in progress after a power-on reset has begun, and the image is kept but for its check (Table 11-4). -/
theorem restartStore_keeps (freeIndex : Nat) (st : Store) :
    (restartStore freeIndex st).imageWrite = none ∧ (restartStore freeIndex st).wordWrite = none ∧
      (restartStore freeIndex st).cellWrite = none ∧ (restartStore freeIndex st).cellQueued = false ∧
      (restartStore freeIndex st).image =
        (if st.imageWrite.isSome then { st.image with checks := false } else st.image) ∧
      (restartStore freeIndex st).slot = (readCell (spoilCell st)).slot ∧
      (restartStore freeIndex st).flips = (readCell (spoilCell st)).flips ∧
      (restartStore freeIndex st).copyA = (readCell (spoilCell st)).copyA ∧
      (restartStore freeIndex st).copyB = (readCell (spoilCell st)).copyB := by
  obtain ⟨image, save, -, -⟩ := readCell_spoilCell_keeps st
  obtain ⟨image', save', slot, flips, copyA, copyB, cell, queued, word⟩ :=
    interruptWord_keeps freeIndex (interruptImage { readCell (spoilCell st) with cellWrite := none, cellQueued := false })
  rw [restartStore, image', save', slot, flips, copyA, copyB, cell, queued, word]
  simp [interruptImage, image, save]

theorem resetStore_law {s t : State} (kind : ResetKind) (h : StoreLaw s)
    (store : t.store = resetStore kind s.freeIndex s.store) : StoreLaw t := by
  obtain ⟨blank, queued, flips, first, second, writing⟩ := h
  cases kind
  · obtain ⟨-, word, cell, noneQueued, -, -, flips', copyA, copyB⟩ := restartStore_keeps s.freeIndex s.store
    obtain ⟨spoiledA, spoiledB, -⟩ := spoilCell_flips s.store
    obtain ⟨readFlips, readA, readB⟩ := readCell_flips (st := spoilCell s.store) (by rw [spoiledA]; exact first)
      (by rw [spoiledB]; exact second)
    simp only [StoreLaw, store, resetStore, word, cell, noneQueued, flips', copyA, copyB, readA, readB, spoiledA, spoiledB]
    exact ⟨by simp, by simp, readFlips, first, second, by simp⟩
  all_goals
    simp only [StoreLaw, store, resetStore, dropReplies]
    refine ⟨fun w mem => ?_, queued, flips, first, second, writing⟩
    obtain ⟨v, writing, rfl⟩ := Option.map_eq_some_iff.mp (Option.mem_toList.mp mem)
    exact blank v (Option.mem_toList.mpr writing)

/-- The settings, the snapshot and the image stay in range at the start of a reset (R181). -/
theorem resetStore_settingsLaw {s t : State} (kind : ResetKind) (h : SettingsLaw s) (settings : t.settings = s.settings)
    (store : t.store = resetStore kind s.freeIndex s.store) : SettingsLaw t := by
  obtain ⟨copy, snapshot, image⟩ := h
  refine ⟨settings ▸ copy, ?_⟩
  rw [store]
  cases kind
  · obtain ⟨save, -, -, -, kept, -⟩ := restartStore_keeps s.freeIndex s.store
    rw [resetStore, save, kept]
    refine ⟨by simp, fun good => ?_⟩
    split at good
    · cases good
    · next idle => rw [if_neg idle]; exact image good
  all_goals
    refine ⟨fun w mem => ?_, image⟩
    obtain ⟨v, writing, rfl⟩ := Option.map_eq_some_iff.mp (Option.mem_toList.mp mem)
    exact snapshot v (Option.mem_toList.mpr writing)

/-- No reply is awaited once a reset has begun (R167). -/
theorem beginReset_awaits (kind : ResetKind) (s : State) (l : Link) : repliesAwaited (beginReset kind s) l = 0 := by
  rw [repliesAwaited_eq]
  cases kind
  · obtain ⟨save, word, -⟩ := restartStore_keeps s.freeIndex s.store
    simp [beginReset, resetMeasurement, measurementAfterReset, resetStore, save, word, saveOwes, wordOwes]
  all_goals
    simp only [beginReset, resetMeasurement, measurementAfterReset, resetStore, dropReplies, nextConversion_keeps]
    cases s.store.imageWrite <;> cases s.store.wordWrite <;> simp [saveOwes, wordOwes]

theorem resetMeasurement_law {s : State} {enable : Byte} (meas : s.meas = resetMeasurement enable) : MeasurementLaw s := by
  refine (measurementLaw_iff s).mpr ⟨fun c => ?_, ?_⟩
  · have record : s.meas.channels[c] = ChannelRecord.empty (if inMask enable c then .noData else .disabled) := by
      simp [meas, resetMeasurement, measurementAfterReset]
    have fault : s.meas.fault = false := by simp [meas, resetMeasurement, measurementAfterReset]
    rw [record, fault]
    exact recordLaw_empty (by split <;> simp) (by split <;> simp)
  · simp [meas, resetMeasurement, measurementAfterReset]

theorem resetZone_law (z : ZoneState) : ZoneLaw false (resetZone z) := by
  simp [ZoneLaw, resetZone, cutZone]

/-- Key records as they are after a reset, with an empty held list (R135). -/
theorem freshKeys_law : HeldLaw [] (Vector.replicate 48 KeyPosition.fresh) := by
  refine ⟨List.nodup_nil, fun p => ?_⟩
  have record : (Vector.replicate 48 KeyPosition.fresh)[p] = KeyPosition.fresh := by simp
  rw [record]
  simp [KeyRecordLaw, KeyPosition.fresh]

/-- A reset of any kind begins in a lawful state; a pin or link reset does not begin during a power-on reset. -/
theorem beginReset_lawful {s : State} (h : Lawful s) {kind : ResetKind}
    (allowed : kind ≠ .powerOn → s.resetting ≠ some .powerOn) : Lawful (beginReset kind s) := by
  constructor
  case settings => exact resetStore_settingsLaw kind h.settings rfl rfl
  case reset =>
    refine ⟨by simp [beginReset], fun _ => ?_, fun on => ?_⟩
    · refine ⟨rfl, (resetLink_quiet ..).2.1, (resetLink_quiet ..).2.1, (resetLink_quiet ..).1, (resetLink_quiet ..).1,
        (resetLink_quiet ..).2.2, (resetLink_quiet ..).2.2, rfl, ?_, ?_, rfl, rfl, rfl, rfl, rfl, rfl, rfl, rfl, rfl, rfl,
        resetQueue_entries .., fun z => ?_⟩
      · simp [beginReset, resetMeasurement, measurementAfterReset]
      · simp [beginReset, resetMeasurement, measurementAfterReset]
      · simp only [beginReset, mapEach_getElem]
        rfl
    · obtain rfl : kind = .powerOn := Option.some.inj on
      exact ⟨rfl, rfl, rfl⟩
  case sequencer =>
    refine ⟨by simp [beginReset], ?_⟩
    simp [beginReset, resetSequencer, resetThermal, SequencerTimers.stopped]
  case ladder =>
    obtain ⟨-, -, -, -, -, -, -, ⟨some_rung, -⟩, -⟩ := h.settings.1
    exact ⟨some_rung, Nat.zero_le _⟩
  case heater =>
    refine (heaterLaw_iff _).mpr fun z => ?_
    simp only [beginReset, mapEach_getElem]
    exact resetZone_law _
  case fan =>
    obtain ⟨-, -, -, ⟨minimum, -⟩, -⟩ := h.settings.1
    exact ⟨fun _ => minimum, Nat.le_refl _⟩
  case measurement => exact resetMeasurement_law rfl
  case log =>
    refine (logLaw_iff _).mpr ⟨resetLog_law kind h.log, fun empty => ?_⟩
    cases kind
    · rfl
    all_goals exact absurd (((logLaw_iff s).mp h.log).2 empty) (allowed (by simp))
  case keypad =>
    obtain ⟨-, least, most, refused⟩ := (keypadLaw_iff s).mp h.keypad
    refine (keypadLaw_iff _).mpr ⟨freshKeys_law, least, most, ?_⟩
    simp only [beginReset, resetKeypad]
    split
    · exact Nat.zero_le _
    · exact refused
  case queue =>
    obtain ⟨room, gaps, lost, flushed⟩ := resetQueue_inRange kind s.queue
    refine ⟨room, ?_, ?_, ?_, BitVec.zero_and, gaps, lost, flushed⟩ <;> simp [beginReset, holdsCause]
  case link => exact ⟨resetLink_law kind h.link.1, resetLink_law kind h.link.2⟩
  case waiting =>
    refine ⟨?_, ?_, by simp [beginReset, resetMeasurement]⟩
    · rw [beginReset_awaits]
      simp [beginReset]
    · rw [beginReset_awaits]
      simp [beginReset]
  case store => exact resetStore_law kind h.store rfl

/-! ### Through a reset -/

/-- What stands still from the start of a reset to its end, and makes the events of the blocks ones that do not occur. -/
structure HeldInReset (s : State) : Prop where
  resetting : s.resetting.isSome = true
  unarmed : s.resetReply = none
  hostOutput : s.host.output = []
  serviceOutput : s.service.output = []
  hostWaiting : s.host.waiting = false
  serviceWaiting : s.service.waiting = false
  idle : s.meas.current = none
  noShots : s.meas.oneShots = []
  allocation : s.thermal.allocationTimer = none
  fan : s.thermal.fanTimer = none
  minute : s.thermal.minuteTimer = none
  check : s.thermal.checkTimer = none
  warm : s.thermal.warmTimer = none
  off : s.seq.state = .off
  undriven : s.keypad.row = none
  frames : ∀ z : Zone, s.zones[z].frame = none

theorem Lawful.heldInReset {s : State} (h : Lawful s) (r : s.resetting.isSome = true) : HeldInReset s := by
  obtain ⟨unarmed, held, -⟩ := h.reset
  obtain ⟨-, hostOutput, serviceOutput, -, -, hostWaiting, serviceWaiting, idle, noShots, -, allocation, fan, minute, check,
    warm, -, -, off, -, undriven, -, frames⟩ := held r
  refine ⟨r, ?_, hostOutput, serviceOutput, hostWaiting, serviceWaiting, idle, noShots, allocation, fan, minute, check,
    warm, off, undriven, frames⟩
  cases armed : s.resetReply
  · rfl
  · rw [unarmed (by simp [armed])] at r
    cases r

theorem HeldInReset.deaf {s : State} (h : HeldInReset s) : receiving s = false := by
  obtain ⟨kind, r⟩ := Option.isSome_iff_exists.mp h.resetting
  simp [receiving, r]

/-- Through a reset no reply is awaited of a persistent write in progress (R167). -/
theorem HeldInReset.noReplies {s : State} (h : HeldInReset s) (law : WaitingLaw s) (l : Link) : repliesAwaited s l = 0 := by
  obtain ⟨replies, -⟩ := (waitingLaw_iff s).mp law
  rw [replies l]
  cases l
  · simp [State.link, h.hostWaiting]
  · simp [State.link, h.serviceWaiting]

/-- The stores replaced in any lawful state, with the replies that are awaited of them kept. -/
theorem Lawful.withStore {s : State} (h : Lawful s) {x : Store} (settings : SettingsLaw (s.withStore x))
    (law : StoreLaw (s.withStore x)) (save : ∀ k, saveOwes x.imageWrite k = saveOwes s.store.imageWrite k)
    (word : ∀ k, wordOwes x.wordWrite k = wordOwes s.store.wordWrite k) : Lawful (s.withStore x) :=
  { h with
    settings := settings
    store := law
    waiting := by
      obtain ⟨replies, shots⟩ := (waitingLaw_iff s).mp h.waiting
      refine (waitingLaw_iff _).mpr ⟨fun k => ?_, shots⟩
      have counted := replies k
      rw [repliesAwaited_eq] at counted ⊢
      rw [State.withStore_store, State.withStore_meas, save k, word k, counted]
      cases k <;> rfl }

/-- An event that keeps the laws outside a reset, and that does not occur through one, keeps them. -/
theorem Lawful.of_steady {s t : State} (h : Lawful s) (steady : Steady s → Steady t) (held : HeldInReset s → t = s) :
    Lawful t := by
  cases r : s.resetting
  · exact (steady (h.steady r)).lawful
  · rw [held (h.heldInReset (by simp [r]))]
    exact h

/-! ### The end of a reset -/

theorem defaults_inRange : SettingsInRange Settings.defaults := by
  refine ⟨fun z => ⟨?_, ?_⟩, by decide, by decide, by decide, by decide, by decide, fun i => ?_, by decide, by decide,
    by decide⟩
  · fin_cases z <;> decide
  · fin_cases z <;> decide
  · fin_cases i <;> decide

theorem loadedSettings_inRange {s : State} (h : SettingsLaw s) (kind : ResetKind) :
    SettingsInRange (loadedSettings kind s) := by
  have defaults := defaults_inRange
  have loaded : SettingsInRange (if imageGood s.store.image then s.store.image.contents else Settings.defaults) := by
    split
    · next good =>
      rw [imageGood, Bool.and_eq_true] at good
      exact h.2.2 good.1
    · exact defaults
  cases kind
  · exact loaded
  · exact loaded
  · exact h.1

theorem startZone_law (settings : Settings) (zones : Vector ZoneState 4) (z : Zone) :
    ZoneLaw false (startZone settings zones z) := by
  by_cases first : z = 0 <;> simp [ZoneLaw, startZone, resetZone, cutZone, first]

theorem measurementAfterReset_law {s : State} {enable : Byte} (meas : s.meas = measurementAfterReset enable) :
    MeasurementLaw s := by
  refine (measurementLaw_iff s).mpr ⟨fun c => ?_, by simp [meas, measurementAfterReset]⟩
  have record : s.meas.channels[c] = ChannelRecord.empty (if inMask enable c then .noData else .disabled) := by
    simp [meas, measurementAfterReset]
  have fault : s.meas.fault = false := by simp [meas, measurementAfterReset]
  rw [record, fault]
  exact recordLaw_empty (by split <;> simp) (by split <;> simp)

/-- The blocks at the end of a reset meet every law but the log's, whose ring may still be empty (R161), and with the reset
record appended that one too. -/
theorem startBlocks_recorded {s : State} (h : Lawful s) {kind : ResetKind} (r : s.resetting = some kind)
    (writes_ended : storeBusy s.store = false) (k : RecordKind) (detail : Half) :
    Sound (appendLog k detail (startBlocks kind s)) := by
  have held := h.heldInReset (by simp [r])
  have settings := loadedSettings_inRange h.settings kind
  obtain ⟨-, -, -, ⟨minimum, -⟩, -, -, -, ⟨some_rung, -⟩, -⟩ := loadedSettings_inRange h.settings kind
  have measurement : MeasurementLaw (startBlocks kind s) :=
    measurementAfterReset_law (enable := (loadedSettings kind s).channelEnable) rfl
  have runs : LogRuns (appendLog k detail (startBlocks kind s)).log :=
    appendLog_runs (s := startBlocks kind s) ((logLaw_iff s).mp h.log).1 measurement k detail
  rw [appendLog_log] at runs
  have nonempty := List.ne_nil_of_mem (mem_addRecord (stampRecord k detail (startBlocks kind s)) (startBlocks kind s).log)
  have position : s.ladder = ⟨0, 0⟩ := by
    obtain ⟨-, through, -⟩ := h.reset
    obtain ⟨-, -, -, -, -, -, -, -, -, -, -, -, -, -, -, -, -, -, position, -⟩ := through held.resetting
    exact position
  simp only [storeBusy, Bool.or_eq_false_iff, Option.isSome_eq_false_iff, Option.isNone_iff_eq_none] at writes_ended
  obtain ⟨⟨noSave, noCell⟩, noWord⟩ := writes_ended
  refine Sound.raise (s := (startBlocks kind s).withLog
    (addRecord (stampRecord k detail (startBlocks kind s)) (startBlocks kind s).log)) ?_ (by simp [Latched])
  constructor
  case settings =>
    obtain ⟨-, snapshot, image⟩ := h.settings
    exact ⟨settings, by simpa [startBlocks] using snapshot, by simpa [startBlocks] using image⟩
  case awake => simp [startBlocks]
  case stage =>
    obtain ⟨-, -, -, -, -, -, -, -, -, -, -, -, -, stage⟩ := h.sequencer
    simpa [startBlocks] using stage
  case ladder =>
    have at_start : (startBlocks kind s).ladder = ⟨0, 0⟩ := by simp [startBlocks, position]
    simp only [LadderLaw, State.withLog_ladder, State.withLog_settings, at_start]
    exact ⟨some_rung, Nat.zero_le _⟩
  case heater =>
    refine (heaterLaw_iff _).mpr fun z => ?_
    have zone : (startBlocks kind s).zones[z] = startZone (loadedSettings kind s) s.zones z := by
      simp [startBlocks]
    rw [State.withLog_zones, zone]
    exact startZone_law _ _ _
  case fan => exact ⟨fun _ => minimum, Nat.le_refl _⟩
  case measurement => exact measurement
  case log => exact (logLaw_iff _).mpr ⟨runs, fun empty => absurd empty nonempty⟩
  case keypad =>
    obtain ⟨-, -, -, refused⟩ := (keypadLaw_iff s).mp h.keypad
    refine (keypadLaw_iff _).mpr ⟨freshKeys_law, (debounceCountOf_range ..).1, (debounceCountOf_range ..).2, ?_⟩
    simp only [startBlocks, startKeypad, resetKeypad, recomputeDebounce, State.withLog_keypad, State.withKeypad_keypad]
    split
    · exact Nat.zero_le _
    · exact refused
  case queue => exact h.queue
  case link => exact h.link
  case waiting =>
    refine (waitingLaw_iff _).mpr ⟨fun l => ?_, nextConversion_oneShot⟩
    have none_awaited : repliesAwaited ((startBlocks kind s).withLog
        (addRecord (stampRecord k detail (startBlocks kind s)) (startBlocks kind s).log)) l = 0 := by
      simp [repliesAwaited_eq, startBlocks, measurementAfterReset, noSave, noWord, saveOwes, wordOwes]
    rw [none_awaited]
    cases l
    · simp [State.link, startBlocks, held.hostWaiting]
    · simp [State.link, startBlocks, held.serviceWaiting]
  case store => exact h.store

theorem Sound.recordDefaulted {s : State} (h : Sound s) (bad : Bool) : Sound (recordDefaulted bad s) := by
  unfold Machine.recordDefaulted
  split
  · exact (h.appendLog _ _).raise (by simp [Latched])
  · exact h

theorem Steady.settleHost {s : State} (h : Sound s) : Steady (settleHost s) := by
  unfold Machine.settleHost
  split
  · split
    · exact ((Steady.enterBooting h).appendLog _ _).flush
    · exact .takeFailure h _ _ _
  · split
    · exact .enterWarming (h.enterState .off)
    · exact .enterState h (.inl rfl)

theorem resetEnd_lawful {s : State} (h : Lawful s) : Lawful (resetEnd s) := by
  unfold resetEnd
  split
  · exact h
  · next kind r =>
    split
    · exact h
    · next writes_ended =>
      have ended : storeBusy s.store = false := by simpa using writes_ended
      have recorded : Sound (resetRecord kind (startBlocks kind s)) := by
        cases kind <;> exact startBlocks_recorded h r ended _ _
      exact (Steady.settleHost (recorded.recordDefaulted _)).lawful

/-! ### Reset Supervisor and the transmitters -/

theorem resetSupervisorBody_kept {s : State} (h : Steady s) (l : Link) (tag : Byte) (payload : List Byte) :
    Kept (resetSupervisorBody l tag payload s) := by
  unfold resetSupervisorBody
  split
  · have armed : Steady (s.withResetReply (some l)) := h.of_sound { h.sound with } rfl rfl
    have handed := armed.sendReply l 0x22 tag (payload := [statusByte .ok]) (by simp)
    refine .deferred ?_
    split
    · exact handed.lawful
    · exact beginReset_lawful handed.lawful fun _ => by rw [handed.sound.awake]; simp
  · exact .refuse h _

theorem oneLinkLaw_sentOff {x : LinkState} (h : OneLinkLaw x) {f : Frame} {rest : List Frame} (output : x.output = f :: rest) :
    OneLinkLaw { x with output := rest } := by
  obtain ⟨room, fits, counters⟩ := h
  rw [output] at room fits
  refine ⟨?_, fun g mem => fits g (List.mem_cons_of_mem _ mem), counters⟩
  rw [List.length_cons] at room
  dsimp only
  omega

theorem frameSent_lawful {s : State} (h : Lawful s) (l : Link) : Lawful (frameSent l s) := by
  cases r : s.resetting
  · have steady := h.steady r
    unfold frameSent
    split
    · exact h
    · next f rest output =>
      have sent : Steady (s.withLink l { s.link l with output := rest }) :=
        steady.of_sound (steady.sound.withLink l (oneLinkLaw_sentOff (steady.sound.oneLink l) output) rfl) (by simp)
          (by simp)
      dsimp only
      split
      · exact beginReset_lawful sent.lawful fun _ => by rw [sent.sound.awake]; simp
      · exact sent.lawful
  · have held := h.heldInReset (by simp [r])
    have empty : (s.link l).output = [] := by
      cases l
      · exact held.hostOutput
      · exact held.serviceOutput
    simpa [frameSent, empty] using h

/-! ### The time base -/

@[simp] theorem tickTimer_isSome (t : Option Timer) : (tickTimer t).isSome = t.isSome := by
  simp [tickTimer]

@[simp] theorem tickTimer_eq_none (t : Option Timer) : tickTimer t = none ↔ t = none := by
  simp [tickTimer]

theorem tickLink_keeps (x : LinkState) :
    (tickLink x).output = x.output ∧ (tickLink x).waiting = x.waiting ∧ (tickLink x).crcErrors = x.crcErrors ∧
      (tickLink x).lengthErrors = x.lengthErrors ∧ (tickLink x).timeouts = x.timeouts ∧
      (tickLink x).strays = x.strays ∧ (tickLink x).discarded = x.discarded := by
  unfold tickLink
  split <;> simp

theorem tickLink_of_hunting {x : LinkState} (h : x.receiver = .hunting) : tickLink x = x := by
  simp [tickLink, h]

theorem tickLink_law {x : LinkState} (h : OneLinkLaw x) : OneLinkLaw (tickLink x) := by
  obtain ⟨output, -, crc, length, timeouts, strays, discarded⟩ := tickLink_keeps x
  simpa only [OneLinkLaw, output, crc, length, timeouts, strays, discarded] using h

theorem tickZone_law {tripped : Bool} {z : ZoneState} (h : ZoneLaw tripped z) : ZoneLaw tripped (tickZone z) := by
  obtain ⟨granted, demand, trip, -⟩ := h
  refine ⟨granted, demand, trip, fun elapsed mem => ?_⟩
  obtain ⟨before, -, rfl⟩ := Option.map_eq_some_iff.mp (Option.mem_toList.mp mem)
  exact Nat.min_le_right _ _

@[simp] theorem tickKeypad_keeps (k : Keypad) :
    (tickKeypad k).held = k.held ∧ (tickKeypad k).target = k.target ∧ (tickKeypad k).debounceTime = k.debounceTime ∧
      (tickKeypad k).debounceCount = k.debounceCount ∧ (tickKeypad k).refused = k.refused ∧
      (tickKeypad k).row = k.row ∧ (tickKeypad k).settle = k.settle := by
  simp only [tickKeypad, and_self]

theorem tick_lawful {s : State} (h : Lawful s) : Lawful (timeBaseTick s) := by
  have keys : HeldLaw s.keypad.held (tickKeypad s.keypad).positions := by
    refine ((keypadLaw_iff s).mp h.keypad).1.of_same fun p => ?_
    simp only [tickKeypad, mapEach_getElem, tickTimer_isSome, and_self]
  obtain ⟨-, least, most, refused⟩ := (keypadLaw_iff s).mp h.keypad
  constructor
  case settings => exact h.settings
  case reset =>
    obtain ⟨unarmed, through, powerOn⟩ := h.reset
    simp only [ResetLaw, timeBaseTick, mapEach_getElem]
    refine ⟨unarmed, fun r => ?_, fun on => ?_⟩
    · obtain ⟨causes, hostOutput, serviceOutput, hostHunts, serviceHunts, hostWaiting, serviceWaiting, idle, noShots, fault,
        allocation, fan, minute, check, warm, duty, tripped, off, position, undriven, entries, frames⟩ := through r
      refine ⟨causes, ?_, ?_, ?_, ?_, ?_, ?_, idle, noShots, fault, ?_, ?_, ?_, ?_, ?_, duty, tripped, off, position,
        by simpa using undriven, entries, fun z => ?_⟩
      · rw [tickLink_of_hunting hostHunts, hostOutput]
      · rw [tickLink_of_hunting serviceHunts, serviceOutput]
      · rw [tickLink_of_hunting hostHunts, hostHunts]
      · rw [tickLink_of_hunting serviceHunts, serviceHunts]
      · rw [tickLink_of_hunting hostHunts, hostWaiting]
      · rw [tickLink_of_hunting serviceHunts, serviceWaiting]
      · exact (tickTimer_eq_none _).mpr allocation
      · exact (tickTimer_eq_none _).mpr fan
      · exact (tickTimer_eq_none _).mpr minute
      · exact (tickTimer_eq_none _).mpr check
      · exact (tickTimer_eq_none _).mpr warm
      · rw [tickZone, frames z]
        rfl
    · obtain ⟨off, held, zero⟩ := powerOn on
      exact ⟨off, held, (if_pos on).trans zero⟩
  case sequencer => simpa [SequencerLaw, timeBaseTick, tickSequencer, tickThermal] using h.sequencer
  case ladder => exact h.ladder
  case heater =>
    refine (heaterLaw_iff _).mpr fun z => ?_
    simp only [timeBaseTick, mapEach_getElem]
    exact tickZone_law (h.heater z)
  case fan => exact h.fan
  case measurement => exact h.measurement
  case log => exact h.log
  case keypad =>
    simp only [keypadLaw_iff, timeBaseTick, tickKeypad_keeps]
    exact ⟨keys, least, most, refused⟩
  case queue => exact h.queue
  case link => exact ⟨tickLink_law h.link.1, tickLink_law h.link.2⟩
  case waiting =>
    obtain ⟨host, service, current⟩ := h.waiting
    exact ⟨host.trans (by rw [← (tickLink_keeps s.host).2.1]; rfl),
      service.trans (by rw [← (tickLink_keeps s.service).2.1]; rfl), current⟩
  case store => exact h.store

end Sys2Proof.Machine
end

section
/-! SUPPORT. Every command keeps every law, and the six step lemmas of the laws. -/

namespace Sys2Proof.Machine

/-! ### HPG and the sequencer's expiries -/

theorem Steady.setPowerGood {s : State} (h : Steady s) (b : Bool) : Steady (setPowerGood b s) :=
  ⟨h.sound.withSeq rfl h.sound.stage, { h.seated with }⟩

theorem Lawful.setPowerGood {s : State} (h : Lawful s) (b : Bool) : Lawful (setPowerGood b s) :=
  { h with }

theorem hpgRise_lawful {s : State} (h : Lawful s) : Lawful (hpgRise s) := by
  unfold hpgRise
  split
  · exact h
  · split
    · next rises =>
      have awake : s.resetting = none := by
        rw [Bool.and_eq_true, Option.isNone_iff_eq_none] at rises
        exact rises.1
      exact (Steady.enterResetHold ((h.steady awake).setPowerGood true).sound).lawful
    · exact h.setPowerGood true

theorem hpgFall_lawful {s : State} (h : Lawful s) : Lawful (hpgFall s) := by
  unfold hpgFall
  split
  · split
    · next lost =>
      have awake : s.resetting = none := by
        rw [Bool.and_eq_true, Option.isNone_iff_eq_none] at lost
        exact lost.1
      exact ((h.steady awake).setPowerGood false).powerGoodLoss.lawful
    · exact h.setPowerGood false
  · exact h

theorem Steady.hpgTimeout {s : State} (h : Steady s) : Steady (hpgTimeout s) := by
  unfold Machine.hpgTimeout
  split
  · exact .takeFailure h.sound _ _ _
  · exact h

theorem Steady.resetHoldExpiry {s : State} (h : Steady s) : Steady (resetHoldExpiry s) := by
  unfold Machine.resetHoldExpiry
  split
  · exact .enterBooting h.sound
  · exact h

theorem Steady.bootWindowExpiry {s : State} (h : Steady s) : Steady (bootWindowExpiry s) := by
  unfold Machine.bootWindowExpiry
  split
  · exact .takeFailure h.sound _ _ _
  · exact h

theorem Steady.runTimeoutExpiry {s : State} (h : Steady s) : Steady (runTimeoutExpiry s) := by
  unfold Machine.runTimeoutExpiry
  split
  · exact .takeFailure h.sound _ _ _
  · exact h

theorem Steady.stabilityExpiry {s : State} (h : Steady s) : Steady (stabilityExpiry s) := by
  unfold Machine.stabilityExpiry
  split
  · exact h.stabilityReached
  · exact h

theorem Steady.graceExpiry {s : State} (h : Steady s) : Steady (graceExpiry s) := by
  unfold Machine.graceExpiry
  split
  · exact h.carryOut
  · exact h

theorem Steady.setStage {s : State} (h : Steady s) {n : Nat} (le : n ≤ 15) : Steady (setStage n s) :=
  ⟨h.sound.setStage le, { h.seated with }⟩

theorem Steady.pulseTimerExpiry {s : State} (h : Steady s) : Steady (pulseTimerExpiry s) := by
  unfold Machine.pulseTimerExpiry
  split
  · split
    · exact (Steady.enterBooting h.sound).setStage (Nat.zero_le _)
    · exact .takeFailure h.sound _ _ _
  · exact h

theorem Steady.offIntervalExpiry {s : State} (h : Steady s) : Steady (offIntervalExpiry s) := by
  unfold Machine.offIntervalExpiry
  split
  · split
    · exact .enterOff h.sound 3
    · exact .enterWarming h.sound
  · exact h

theorem Steady.powerOffTimerExpiry {s : State} (h : Steady s) : Steady (powerOffTimerExpiry s) := by
  unfold Machine.powerOffTimerExpiry
  split
  · exact .enterOff h.sound 0
  · exact h

/-! ### Check-In and the frames that name no request -/

theorem Steady.strayCheckIn {s : State} (h : Steady s) (l : Link) : Steady (strayCheckIn l s) := by
  obtain ⟨room, fits, crc, length, timeouts, strays, discarded⟩ := h.sound.oneLink l
  exact h.of_sound (h.sound.withLink l ⟨room, fits, crc, length, timeouts, bump_le strays, discarded⟩ rfl)
    (by simp [Machine.strayCheckIn]) (by simp [Machine.strayCheckIn])

theorem Steady.takeCheckIn {s : State} (h : Steady s) {stage : Nat} (le : stage ≤ 15) : Steady (takeCheckIn stage s) := by
  have t := h.setStage le
  unfold Machine.takeCheckIn
  split
  · unfold checkInBooting
    split
    · exact .enterRunning t.sound _ _
    · exact t
  · next running =>
    unfold checkInRunning
    split
    · exact (Steady.enterBooting t.sound).appendLog _ _
    · exact t.startRunTimeout running
  · unfold checkInWarned
    split
    · split
      · exact .enterRunning t.sound _ _
      · exact t
    · exact t
  all_goals exact h.strayCheckIn .host

theorem checkIn_lawful {s : State} (h : Lawful s) (l : Link) (tag : Byte) (payload : List Byte) :
    Lawful (checkIn l tag payload s) := by
  unfold checkIn
  split
  · next r =>
    have steady := h.steady ((receiving_iff s).mp r).1
    split
    · split
      · next le => exact ((steady.setReceiver _ _).takeCheckIn le).lawful
      · exact ((steady.setReceiver _ _).strayCheckIn _).lawful
    · exact ((steady.setReceiver _ _).strayCheckIn _).lawful
  · exact h

theorem nonRequestFrame_lawful {s : State} (h : Lawful s) (l : Link) (kind tag : Byte) (payload : List Byte) :
    Lawful (nonRequestFrame l kind tag payload s) := by
  unfold nonRequestFrame
  split
  · next r => exact ((h.steady ((receiving_iff s).mp r).1).setReceiver _ _).lawful
  · exact h

theorem unknownRequest_lawful {s : State} (h : Lawful s) (l : Link) (kind tag : Byte) (payload : List Byte) :
    Lawful (unknownRequest l kind tag payload s) := by
  unfold unknownRequest
  split
  · next r =>
    exact (((h.steady ((receiving_iff s).mp r).1).setReceiver _ _).sendReply _ _ _ (by simp)).lawful
  · exact h

/-! ### Frames taken (R166) -/

theorem takeFrame_lawful {s : State} (h : Lawful s) (l : Link) (f : Frame) : Lawful (takeFrame l f s) := by
  unfold takeFrame
  split
  · exact answer_lawful h fun t steady _ => identifyBody_kept steady _ _
  · exact answer_lawful h fun t steady _ => getStatusBody_kept steady _
  · exact checkIn_lawful h _ _ _
  · exact answer_lawful h fun t steady _ => readKeysBody_kept steady _ _
  · exact answer_lawful h fun t steady _ => readLogBody_kept steady _
  · exact answer_lawful h fun t steady _ => getAttentionBody_kept steady _
  · exact answer_lawful h fun t steady _ => clearAttentionBody_kept steady _
  · exact answer_lawful h fun t steady _ => setMaskBody_kept steady _
  · exact answer_lawful h fun t steady _ => startHostBody_kept steady _
  · exact answer_lawful h fun t steady _ => powerOffBody_kept steady _
  · exact answer_lawful h fun t steady _ => restartBody_kept steady _
  · exact answer_lawful h fun t steady _ => readyBody_kept steady _ _
  · exact answer_lawful h fun t steady _ => deferBody_kept steady _ _ _
  · exact answer_lawful h fun t steady _ => releaseLockoutBody_kept steady _
  · exact answer_lawful h fun t steady _ => setTimeBody_kept steady _
  · exact answer_lawful h fun t steady _ => readSensorsBody_kept steady _
  · exact answer_lawful h fun t steady idle => sampleBody_kept steady idle.2 _ _
  · exact answer_lawful h fun t steady _ => setZoneBody_kept steady _
  · exact answer_lawful h fun t steady _ => setHeaterCurveBody_kept steady _
  · exact answer_lawful h fun t steady _ => setBudgetBody_kept steady _
  · exact answer_lawful h fun t steady _ => setFanBody_kept steady _
  · exact answer_lawful h fun t steady _ => setLimitsBody_kept steady _
  · exact answer_lawful h fun t steady _ => clearFilterBody_kept steady _
  · exact answer_lawful h fun t steady _ => setKeypadBody_kept steady _
  · exact answer_lawful h fun t steady _ => setKeyEntriesBody_kept steady _
  · exact answer_lawful h fun t steady _ => setChordBody_kept steady _
  · exact answer_lawful h fun t steady _ => setLadderBody_kept steady _
  · exact answer_lawful h fun t steady _ => setTimingBody_kept steady _
  · exact answer_lawful h fun t steady _ => readSettingsBody_kept steady _
  · exact answer_lawful h fun t steady idle => saveSettingsBody_kept steady idle.2 _ _
  · exact answer_lawful h fun t steady _ => readFactoryBody_kept steady _
  · exact answer_lawful h fun t steady idle => programBody_kept steady idle.2 _ _
  · exact answer_lawful h fun t steady _ => getCountersBody_kept steady _
  · exact answer_lawful h fun t steady _ => resetSupervisorBody_kept steady _ _ _
  · split
    · exact unknownRequest_lawful h _ _ _ _
    · exact nonRequestFrame_lawful h _ _ _ _

/-! ### The receivers (R164) -/

theorem Steady.countLengthError {s : State} (h : Steady s) (l : Link) : Steady (countLengthError l s) := by
  obtain ⟨room, fits, crc, length, rest⟩ := h.sound.oneLink l
  exact h.of_sound (h.sound.withLink l ⟨room, fits, crc, bump_le length, rest⟩ rfl) (by simp [Machine.countLengthError])
    (by simp [Machine.countLengthError])

theorem Steady.countCrcError {s : State} (h : Steady s) (l : Link) : Steady (countCrcError l s) := by
  obtain ⟨room, fits, crc, rest⟩ := h.sound.oneLink l
  exact h.of_sound (h.sound.withLink l ⟨room, fits, bump_le crc, rest⟩ rfl) (by simp [Machine.countCrcError])
    (by simp [Machine.countCrcError])

theorem Steady.countTimeout {s : State} (h : Steady s) (l : Link) : Steady (countTimeout l s) := by
  obtain ⟨room, fits, crc, length, timeouts, rest⟩ := h.sound.oneLink l
  exact h.of_sound (h.sound.withLink l ⟨room, fits, crc, length, bump_le timeouts, rest⟩ rfl)
    (by simp [Machine.countTimeout]) (by simp [Machine.countTimeout])

theorem examine_lawful {s : State} (h : Lawful s) (r : receiving s = true) (l : Link) (b : Byte) (rest : List Byte) :
    Lawful (examine l b rest s).2 := by
  have steady := h.steady ((receiving_iff s).mp r).1
  unfold examine
  split
  · dsimp only
    split
    · exact (steady.setReceiver _ _).lawful
    · exact h
  · split
    · exact (steady.setReceiver _ _).lawful
    · exact (steady.countLengthError l).lawful
    · exact (steady.countCrcError l).lawful
    · exact takeFrame_lawful h l _

theorem scanBytes_lawful (fuel : Nat) {s : State} (h : Lawful s) (l : Link) (bytes : List Byte) :
    Lawful (scanBytes fuel l bytes s) := by
  induction fuel generalizing bytes s with
  | zero => exact h
  | succ fuel ih =>
    cases bytes with
    | nil => exact h
    | cons b rest =>
      cases r : receiving s
      · rw [scanBytes_of_deaf r]
        exact h
      · rw [scanBytes_step r]
        exact ih (examine_lawful h r l b rest) _

theorem receive_lawful {s : State} (h : Lawful s) (l : Link) (bytes : List Byte) : Lawful (receive l bytes s) :=
  scanBytes_lawful _ h l bytes

theorem receiveFresh_lawful {s : State} (h : Lawful s) (l : Link) (bytes : List Byte) :
    Lawful (if receiving s then receive l bytes (setReceiver l .hunting s) else s) := by
  split
  · next r => exact receive_lawful ((h.steady ((receiving_iff s).mp r).1).setReceiver _ _).lawful _ _
  · exact h

theorem interByteTimeout_lawful {s : State} (h : Lawful s) (l : Link) (bytes : List Byte) :
    Lawful (interByteTimeout l bytes s) := by
  have received := receive_lawful h l bytes
  unfold interByteTimeout
  dsimp only
  split
  · next waits =>
    rw [Bool.and_eq_true] at waits
    exact ((received.steady ((receiving_iff _).mp waits.1).1).countTimeout l).lawful
  · exact received

/-! ### Events that do not occur through a reset -/

theorem HeldInReset.overheatCheck {s : State} (h : HeldInReset s) : overheatCheck s = s := by
  simp [Machine.overheatCheck, h.check]

theorem HeldInReset.fanPeriodExpiry {s : State} (h : HeldInReset s) : fanPeriodExpiry s = s := by
  simp [Machine.fanPeriodExpiry, h.fan]

theorem HeldInReset.minuteExpiry {s : State} (h : HeldInReset s) : minuteExpiry s = s := by
  simp [Machine.minuteExpiry, h.minute]

theorem HeldInReset.referenceConversionComplete {s : State} (h : HeldInReset s) (code : Code) :
    referenceConversionComplete code s = s := by
  simp [Machine.referenceConversionComplete, h.idle]

/-- A scan completion does not occur while no row is driven, whatever else was brought to its end. -/
theorem scanCompletion_of_undriven {s : State} (h : s.keypad.row = none) (columns : Columns) :
    scanCompletion columns s = s := by
  simp [scanCompletion, h]

theorem HeldInReset.keyStuck {s : State} (h : HeldInReset s) (p : Position) (columns : Columns) :
    keyStuck p columns s = s := by
  unfold Machine.keyStuck
  rw [scanCompletion_of_undriven (by simp [setPosition, h.undriven])]
  simp only [setPosition, State.withKeypad_keypad, put_getElem_self]
  cases s.keypad.positions[p].suppressed <;> rfl

theorem HeldInReset.chordFire {s : State} (h : HeldInReset s) (i : ChordIndex) (columns : Columns) :
    chordFire i columns s = s := by
  unfold Machine.chordFire
  rw [scanCompletion_of_undriven (by simp [setChordState, h.undriven])]
  dsimp only
  split
  · next fired =>
    rw [Bool.and_eq_true] at fired
    obtain ⟨holding, fired⟩ := fired
    have holding := of_decide_eq_true holding
    have fired := of_decide_eq_true fired
    simp only [setChordState, State.withChords_chords, put_getElem_self, holding] at fired
    cases fired
  · rfl

theorem HeldInReset.keyRepeat {s : State} (h : HeldInReset s) (columns : Columns) : keyRepeat columns s = s := by
  unfold Machine.keyRepeat
  dsimp only
  split <;> simp [h.undriven]

/-- The two writes whose replies a reset drops, at their ends (R180, R183). -/
theorem saveComplete_lawful {s : State} (h : Lawful s) (agrees : Bool) : Lawful (saveComplete agrees s) := by
  cases r : s.resetting
  · exact ((h.steady r).saveComplete agrees).lawful
  · have held := h.heldInReset (by simp [r])
    unfold saveComplete
    split
    · next w writing =>
      have dropped : w.reply = none := by
        have none_awaited (l : Link) := held.noReplies h.waiting l
        rcases e : w.reply with _ | ⟨l, tag⟩
        · rfl
        · have := none_awaited l
          simp [repliesAwaited_eq, saveOwes, writing, e] at this
      rw [dropped]
      refine h.withStore ?_ h.store (fun k => by simp [saveOwes, writing, dropped]) fun k => rfl
      obtain ⟨copy, snapshot, -⟩ := h.settings
      exact ⟨copy, by simp, fun _ => snapshot w (by simp [writing])⟩
    · exact h

theorem factoryWriteComplete_lawful {s : State} (h : Lawful s) (readback : Half) :
    Lawful (factoryWriteComplete readback s) := by
  cases r : s.resetting
  · exact ((h.steady r).factoryWriteComplete readback).lawful
  · have held := h.heldInReset (by simp [r])
    unfold factoryWriteComplete
    split
    · next w writing =>
      have dropped : w.reply = none := by
        have none_awaited := held.noReplies h.waiting .service
        rcases e : w.reply with _ | tag
        · rfl
        · simp [repliesAwaited_eq, wordOwes, writing, e] at none_awaited
      unfold wordReply
      rw [dropped]
      refine h.withStore h.settings ?_ (fun k => rfl) fun k => by simp [wordOwes, writing, dropped]
      obtain ⟨-, rest⟩ := h.store
      exact ⟨by simp, rest⟩
    · exact h

theorem cellWriteComplete_lawful {s : State} (h : Lawful s) : Lawful (cellWriteComplete s) := by
  cases r : s.resetting
  · exact (h.steady r).cellWriteComplete.lawful
  · unfold cellWriteComplete
    split
    · next w writing =>
      have keeps : (beginQueuedWrite (endCellWrite w s.store)).image = s.store.image ∧
          (beginQueuedWrite (endCellWrite w s.store)).imageWrite = s.store.imageWrite ∧
          (beginQueuedWrite (endCellWrite w s.store)).wordWrite = s.store.wordWrite := by
        unfold endCellWrite beginQueuedWrite
        (repeat' split) <;> simp
      obtain ⟨image, save, word⟩ := keeps
      refine h.withStore ?_ (cellWriteComplete_storeLaw (s := s) writing h.store) (fun k => by rw [save])
        fun k => by rw [word]
      obtain ⟨copy, snapshot, good⟩ := h.settings
      exact ⟨copy, by simpa [save] using snapshot, by simpa [image] using good⟩
    · exact h

/-! ### Every command -/

/-- Every command keeps every law. -/
theorem exec_lawful {s t : State} (h : Lawful s) (i : Instr) (e : exec i s = .next t) : Lawful t := by
  cases i <;> cases e
  case powerOnReset => exact beginReset_lawful h (by simp)
  case pinReset =>
    show Lawful (pinReset s)
    unfold pinReset
    split
    · exact h
    · next allowed => exact beginReset_lawful h fun _ => allowed
  case linkReset =>
    show Lawful (linkReset s)
    unfold linkReset
    split
    · next armed => exact beginReset_lawful h fun _ => by rw [h.reset.1 armed]; simp
    · exact h
  case resetEnd => exact resetEnd_lawful h
  case scanConversionComplete code =>
    exact h.of_steady (·.scanConversionComplete code) fun held => by simp [scanConversionComplete, held.idle]
  case referenceConversionComplete code =>
    exact h.of_steady (·.referenceConversionComplete code) (·.referenceConversionComplete code)
  case converterFault code =>
    exact h.of_steady (·.converterFault code) fun held => by
      simp [converterFault, held.referenceConversionComplete]
  case converterOk code =>
    exact h.of_steady (·.converterOk code) fun held => by simp [converterOk, held.referenceConversionComplete]
  case oneShotComplete code =>
    exact h.of_steady (·.oneShotComplete code) fun held => by simp [oneShotComplete, held.idle]
  case allocationPeriodExpiry =>
    exact h.of_steady (·.allocationPeriodExpiry) fun held => by simp [allocationPeriodExpiry, held.allocation]
  case gateRelease z =>
    exact h.of_steady (·.gateRelease z) fun held => by simp [gateRelease, held.allocation]
  case warmTimeout => exact h.of_steady (·.warmTimeout) fun held => by simp [warmTimeout, held.warm]
  case fanPeriodExpiry => exact h.of_steady (·.fanPeriodExpiry) (·.fanPeriodExpiry)
  case tachPulse => exact h.of_steady (·.tachPulse) fun held => by simp [tachPulse, held.fan]
  case fanFault => exact h.of_steady (·.fanFault) fun held => by simp [fanFault, held.fanPeriodExpiry]
  case fanOk => exact h.of_steady (·.fanOk) fun held => by simp [fanOk, held.fanPeriodExpiry]
  case minuteExpiry => exact h.of_steady (·.minuteExpiry) (·.minuteExpiry)
  case filterService =>
    exact h.of_steady (·.filterService) fun held => by simp [filterService, held.minuteExpiry]
  case overheatCheck => exact h.of_steady (·.overheatCheck) (·.overheatCheck)
  case thermalTrip => exact h.of_steady (·.thermalTrip) fun held => by simp [thermalTrip, held.overheatCheck]
  case thermalResume => exact h.of_steady (·.thermalResume) fun held => by simp [thermalResume, held.overheatCheck]
  case hpgRise => exact hpgRise_lawful h
  case hpgFall => exact hpgFall_lawful h
  case hpgTimeout => exact h.of_steady (·.hpgTimeout) fun held => by simp [hpgTimeout, held.off]
  case resetHoldExpiry => exact h.of_steady (·.resetHoldExpiry) fun held => by simp [resetHoldExpiry, held.off]
  case bootWindowExpiry => exact h.of_steady (·.bootWindowExpiry) fun held => by simp [bootWindowExpiry, held.off]
  case runTimeoutExpiry => exact h.of_steady (·.runTimeoutExpiry) fun held => by simp [runTimeoutExpiry, held.off]
  case stabilityExpiry => exact h.of_steady (·.stabilityExpiry) fun held => by simp [stabilityExpiry, held.off]
  case graceExpiry => exact h.of_steady (·.graceExpiry) fun held => by simp [graceExpiry, held.off]
  case pulseTimerExpiry => exact h.of_steady (·.pulseTimerExpiry) fun held => by simp [pulseTimerExpiry, held.off]
  case offIntervalExpiry => exact h.of_steady (·.offIntervalExpiry) fun held => by simp [offIntervalExpiry, held.off]
  case powerOffTimerExpiry =>
    exact h.of_steady (·.powerOffTimerExpiry) fun held => by simp [powerOffTimerExpiry, held.off]
  case scanCompletion columns =>
    exact h.of_steady (·.scanCompletion columns) fun held => scanCompletion_of_undriven held.undriven columns
  case pressAccepted p columns =>
    exact h.of_steady (·.pressAccepted p columns) fun held => by
      simp [pressAccepted, scanCompletion_of_undriven held.undriven]
  case releaseAccepted p columns =>
    exact h.of_steady (·.releaseAccepted p columns) fun held => by
      simp [releaseAccepted, scanCompletion_of_undriven held.undriven]
  case keyRepeat columns => exact h.of_steady (·.keyRepeat columns) (·.keyRepeat columns)
  case keyStuck p columns => exact h.of_steady (·.keyStuck p columns) (·.keyStuck p columns)
  case chordFire i columns => exact h.of_steady (·.chordFire i columns) (·.chordFire i columns)
  case cellWriteComplete => exact cellWriteComplete_lawful h
  case saveComplete agrees => exact saveComplete_lawful h agrees
  case factoryWriteComplete readback => exact factoryWriteComplete_lawful h readback
  case interByteTimeout l bytes => exact interByteTimeout_lawful h l bytes
  case lengthError l length => exact receiveFresh_lawful h l _
  case crcError l body check => exact receiveFresh_lawful h l _
  case nonRequestFrame l kind tag payload => exact nonRequestFrame_lawful h l kind tag payload
  case unknownRequest l kind tag payload => exact unknownRequest_lawful h l kind tag payload
  case frameSent l => exact frameSent_lawful h l
  case identify l tag payload => exact takeFrame_lawful h l ⟨0x01, tag, payload⟩
  case getStatus l tag payload => exact takeFrame_lawful h l ⟨0x02, tag, payload⟩
  case checkIn l tag payload => exact takeFrame_lawful h l ⟨0x03, tag, payload⟩
  case readKeys l tag payload => exact takeFrame_lawful h l ⟨0x04, tag, payload⟩
  case readLog l tag payload => exact takeFrame_lawful h l ⟨0x05, tag, payload⟩
  case getAttention l tag payload => exact takeFrame_lawful h l ⟨0x06, tag, payload⟩
  case clearAttention l tag payload => exact takeFrame_lawful h l ⟨0x07, tag, payload⟩
  case setAttentionMask l tag payload => exact takeFrame_lawful h l ⟨0x08, tag, payload⟩
  case startHost l tag payload => exact takeFrame_lawful h l ⟨0x09, tag, payload⟩
  case powerOff l tag payload => exact takeFrame_lawful h l ⟨0x0A, tag, payload⟩
  case restart l tag payload => exact takeFrame_lawful h l ⟨0x0B, tag, payload⟩
  case ready l tag payload => exact takeFrame_lawful h l ⟨0x0C, tag, payload⟩
  case defer l tag payload => exact takeFrame_lawful h l ⟨0x0D, tag, payload⟩
  case releaseLockout l tag payload => exact takeFrame_lawful h l ⟨0x0E, tag, payload⟩
  case setTime l tag payload => exact takeFrame_lawful h l ⟨0x0F, tag, payload⟩
  case readSensors l tag payload => exact takeFrame_lawful h l ⟨0x10, tag, payload⟩
  case sampleChannel l tag payload => exact takeFrame_lawful h l ⟨0x11, tag, payload⟩
  case setZone l tag payload => exact takeFrame_lawful h l ⟨0x12, tag, payload⟩
  case setHeaterCurve l tag payload => exact takeFrame_lawful h l ⟨0x13, tag, payload⟩
  case setBudget l tag payload => exact takeFrame_lawful h l ⟨0x14, tag, payload⟩
  case setFan l tag payload => exact takeFrame_lawful h l ⟨0x15, tag, payload⟩
  case setThermalLimits l tag payload => exact takeFrame_lawful h l ⟨0x16, tag, payload⟩
  case clearFilterService l tag payload => exact takeFrame_lawful h l ⟨0x17, tag, payload⟩
  case setKeypad l tag payload => exact takeFrame_lawful h l ⟨0x18, tag, payload⟩
  case setKeyEntries l tag payload => exact takeFrame_lawful h l ⟨0x19, tag, payload⟩
  case setChord l tag payload => exact takeFrame_lawful h l ⟨0x1A, tag, payload⟩
  case setLadder l tag payload => exact takeFrame_lawful h l ⟨0x1B, tag, payload⟩
  case setTiming l tag payload => exact takeFrame_lawful h l ⟨0x1C, tag, payload⟩
  case readSettings l tag payload => exact takeFrame_lawful h l ⟨0x1D, tag, payload⟩
  case saveSettings l tag payload => exact takeFrame_lawful h l ⟨0x1E, tag, payload⟩
  case readFactoryWord l tag payload => exact takeFrame_lawful h l ⟨0x1F, tag, payload⟩
  case programFactoryWord l tag payload => exact takeFrame_lawful h l ⟨0x20, tag, payload⟩
  case getLinkCounters l tag payload => exact takeFrame_lawful h l ⟨0x21, tag, payload⟩
  case resetSupervisor l tag payload => exact takeFrame_lawful h l ⟨0x22, tag, payload⟩
  case timeBaseTick => exact tick_lawful h
  case rowDwellEnd columns =>
    exact h.of_steady (·.rowDwellEnd columns) fun held => by simp [rowDwellEnd, held.undriven]
  case driveFrameStart z =>
    exact h.of_steady (·.driveFrameStart z) fun held => by
      obtain ⟨kind, r⟩ := Option.isSome_iff_exists.mp held.resetting
      simp [driveFrameStart, r]
  case driveOnTimeEnd z =>
    exact h.of_steady (·.driveOnTimeEnd z) fun held => by
      unfold driveOnTimeEnd
      rw [held.frames z]

/-- Every step keeps every law. -/
theorem step_lawful {s t : State} (h : Lawful s) (e : step s = .next t) : Lawful t := by
  unfold step at e
  split at e
  · cases e
    exact h
  · next c rest _ =>
    have popped : Lawful (s.withPending rest) := { h with }
    exact exec_lawful popped c e

/-! ### The step lemmas -/

/-- Settles O25: every command keeps every law. -/
theorem stepKeepsSettingsInRange : Obligations.StepKeepsSettingsInRange := by
  unfold Obligations.StepKeepsSettingsInRange
  intro s t h e
  exact (step_lawful h e).settings

/-- Settles O26: every command keeps every law. -/
theorem stepKeepsResetAndWaitingLaws : Obligations.StepKeepsResetAndWaitingLaws := by
  unfold Obligations.StepKeepsResetAndWaitingLaws
  intro s t h e
  have lawful := step_lawful h e
  exact ⟨lawful.reset, lawful.waiting, lawful.store⟩

/-- Settles O27: every command keeps every law. -/
theorem stepKeepsSequencerAndLadderLaws : Obligations.StepKeepsSequencerAndLadderLaws := by
  unfold Obligations.StepKeepsSequencerAndLadderLaws
  intro s t h e
  have lawful := step_lawful h e
  exact ⟨lawful.sequencer, lawful.ladder⟩

/-- Settles O28: every command keeps every law. -/
theorem stepKeepsClimateAndMeasurementLaws : Obligations.StepKeepsClimateAndMeasurementLaws := by
  unfold Obligations.StepKeepsClimateAndMeasurementLaws
  intro s t h e
  have lawful := step_lawful h e
  exact ⟨lawful.heater, lawful.fan, lawful.measurement⟩

/-- Settles O29: every command keeps every law. -/
theorem stepKeepsLogAndLinkLaws : Obligations.StepKeepsLogAndLinkLaws := by
  unfold Obligations.StepKeepsLogAndLinkLaws
  intro s t h e
  have lawful := step_lawful h e
  exact ⟨lawful.log, lawful.link⟩

/-- Settles O30: every command keeps every law. -/
theorem stepKeepsKeyLaws : Obligations.StepKeepsKeyLaws := by
  unfold Obligations.StepKeepsKeyLaws
  intro s t h e
  have lawful := step_lawful h e
  exact ⟨lawful.keypad, lawful.queue⟩

/-- The state right after reset meets every law (R17, R39, R62, R84, R135, R150, R161). -/
theorem reset_lawful : Lawful State.reset := by
  constructor
  case settings => exact ⟨defaults_inRange, by simp [State.reset], by simp [State.reset]⟩
  case reset => decide
  case sequencer => decide
  case ladder => exact ⟨by decide, by decide⟩
  case heater => intro z; fin_cases z <;> decide
  case fan => decide
  case measurement => decide
  case log => decide
  case keypad => exact (keypadLaw_iff _).mpr ⟨freshKeys_law, by decide, by decide, by decide⟩
  case queue => decide
  case link => decide
  case waiting => decide
  case store => decide

/-- Settles O24, law by law. -/
theorem lawsHoldAfterReset : Obligations.LawsHoldAfterReset := by
  unfold Obligations.LawsHoldAfterReset
  exact reset_lawful

end Sys2Proof.Machine
end

section
/-! SUPPORT. The queue of commands: no command touches the waiting ones. -/

namespace Sys2Proof.Machine

/-- Settles O1: both cases are the two arms of a step. -/
theorem stepRunsFrontCommand : Obligations.StepRunsFrontCommand := by
  unfold Obligations.StepRunsFrontCommand step
  refine ⟨fun c rest s front => ?_, fun s empty => ?_⟩
  · rw [front]
  · rw [empty]

/-! ### The blocks' operations keep the waiting commands -/

/-- A property of a fold's steps is one of the fold. -/
theorem foldl_pending {α : Type} {f : State → α → State} (h : ∀ t x, (f t x).pending = t.pending) (xs : List α) (s : State) :
    (xs.foldl f s).pending = s.pending := by
  induction xs generalizing s with
  | nil => rfl
  | cons x xs ih => exact (ih _).trans (h s x)

@[simp] theorem acceptRelease_pending (p : Position) (s : State) : (acceptRelease p s).pending = s.pending := by
  unfold acceptRelease releaseEvent
  dsimp only
  split <;> simp [setPosition]

@[simp] theorem acceptPress_pending (p : Position) (s : State) : (acceptPress p s).pending = s.pending := by
  unfold acceptPress pressEvent
  dsimp only
  split <;> simp [setPosition]

@[simp] theorem deferPress_pending (p : Position) (s : State) : (deferPress p s).pending = s.pending := rfl

@[simp] theorem makeStuck_pending (p : Position) (s : State) : (makeStuck p s).pending = s.pending := by
  unfold makeStuck
  dsimp only
  split <;> simp [setPosition]

@[simp] theorem repeatExpired_pending (p : Position) (s : State) : (repeatExpired p s).pending = s.pending := by
  unfold repeatExpired
  dsimp only
  split <;> simp

@[simp] theorem repeatStep_pending (s : State) : (repeatStep s).pending = s.pending := by
  unfold repeatStep
  dsimp only
  split
  · split
    · split
      · exact repeatExpired_pending _ s
      · rfl
    · rfl
  · rfl

theorem sampleLastRow_pending (columns : Columns) (s : State) : (sampleLastRow columns s).pending = s.pending := by
  simp [sampleLastRow]

@[simp] theorem chordStep_pending (d : BitVec 48) (s : State) (i : ChordIndex) : (chordStep d s i).pending = s.pending := by
  unfold chordStep fireChord
  dsimp only
  (repeat' split) <;> simp [setChordState]

@[simp] theorem scanCompletion_pending (columns : Columns) (s : State) : (scanCompletion columns s).pending = s.pending := by
  have accepted (t : State) : (acceptChanges t).pending = t.pending := by
    unfold acceptChanges
    dsimp only
    split
    · rw [foldl_pending fun t p => deferPress_pending p t, foldl_pending fun t p => acceptRelease_pending p t]
    · rw [foldl_pending fun t p => acceptPress_pending p t, foldl_pending fun t p => acceptRelease_pending p t]
  have stuck (t : State) : (stickKeys t).pending = t.pending := foldl_pending (fun t p => makeStuck_pending p t) _ _
  have chords (t : State) : (matchChords t).pending = t.pending := foldl_pending (fun t i => chordStep_pending _ t i) _ _
  unfold scanCompletion completeCycle
  split
  · rw [chords, repeatStep_pending, stuck, accepted, sampleLastRow_pending]
  · rfl

@[simp] theorem referenceConversionComplete_pending (code : Code) (s : State) :
    (referenceConversionComplete code s).pending = s.pending := by
  have acted (t : State) : (actOnCheck code t).pending = t.pending := by
    unfold actOnCheck enterFault leaveFault
    (repeat' split) <;> simp
  unfold referenceConversionComplete completeReference
  split
  · simp [acted]
  all_goals rfl

@[simp] theorem allocationExpiry_pending (s : State) : (allocationExpiry s).pending = s.pending := by
  simp [allocationExpiry, evaluateGate, allocate]

@[simp] theorem fanPeriodExpiry_pending (s : State) : (fanPeriodExpiry s).pending = s.pending := by
  have tested (t : State) : (fanTest t).pending = t.pending := by
    unfold fanTest recoveryTest stallTest enterFanFault leaveFanFault
    (repeat' split) <;> simp
  unfold fanPeriodExpiry fanExpiry
  split
  · simp [tested, measureFan]
  · rfl

@[simp] theorem minuteExpiry_pending (s : State) : (minuteExpiry s).pending = s.pending := by
  unfold minuteExpiry minuteStep enterFilterService
  dsimp only
  (repeat' split) <;> simp

@[simp] theorem overheatCheck_pending (s : State) : (overheatCheck s).pending = s.pending := by
  unfold overheatCheck checkStep checkTripped checkClear trip clearTrip
  dsimp only
  (repeat' split) <;> simp

@[simp] theorem completeReply_pending (l : Link) (kind tag : Byte) (payload : List Byte) (s : State) :
    (completeReply l kind tag payload s).pending = s.pending := by
  simp [completeReply]

@[simp] theorem startStopTimer_pending (ms : Nat) (s : State) : (startStopTimer ms s).pending = s.pending := by
  unfold startStopTimer
  split <;> simp

theorem powerOffEffect_pending {delay : Nat} {s t : State} (h : powerOffEffect delay s = some t) : t.pending = s.pending := by
  unfold powerOffEffect at h
  split at h <;> cases h <;> simp [stopHost, requestOff]
  all_goals split <;> simp

theorem resetEnd_pending (s : State) : (resetEnd s).pending = s.pending := by
  have settled (t : State) : (settleHost t).pending = t.pending := by
    unfold settleHost adoptHost
    (repeat' split) <;> simp
  have recorded (kind : ResetKind) (t : State) : (resetRecord kind t).pending = t.pending := by
    cases kind <;> simp [resetRecord]
  have defaults (bad : Bool) (t : State) : (recordDefaulted bad t).pending = t.pending := by
    unfold recordDefaulted
    split <;> simp
  unfold resetEnd
  split
  · rfl
  · split
    · rfl
    · rw [finishReset, settled, defaults, recorded]
      simp [startBlocks]

/-! ### Requests and frames -/

theorem answer_pending {l : Link} {kind tag : Byte} {body : State → State × Option (List Byte)}
    (h : ∀ t, (body t).1.pending = t.pending) (s : State) : (answer l kind tag body s).pending = s.pending := by
  have start : (setReceiver l .hunting s).pending = s.pending := by simp
  cases r : receiving s
  · rw [answer_of_deaf r]
  · cases w : (s.link l).waiting
    · have kept := (h (setReceiver l .hunting s)).trans start
      rcases e : body (setReceiver l .hunting s) with ⟨t, _ | payload⟩ <;> rw [e] at kept
      · rw [answer_of_deferred r w e]
        exact kept
      · rw [answer_of_reply r w e]
        simpa using kept
    · rw [answer_of_waiting r w]
      simp

/-! ### Each block's answer keeps the waiting commands -/

@[simp] theorem applyZone_pending (z : Zone) (zs : ZoneSettings) (s : State) : (applyZone z zs s).pending = s.pending := by
  unfold applyZone
  dsimp only
  split <;> rfl

@[simp] theorem applyFan_pending (f : FanSettings) (s : State) : (applyFan f s).pending = s.pending := rfl

theorem refuse_pending (status : Status) (s : State) : (refuse status s).1.pending = s.pending := rfl

theorem powerOffBody_pending (payload : List Byte) (s : State) : (powerOffBody payload s).1.pending = s.pending := by
  unfold powerOffBody
  split
  · dsimp only
    split
    · next t e => exact powerOffEffect_pending e
    · exact refuse_pending _ s
  · exact refuse_pending _ s

theorem resetSupervisorBody_pending (l : Link) (tag : Byte) (payload : List Byte) (s : State) :
    (resetSupervisorBody l tag payload s).1.pending = s.pending := by
  unfold resetSupervisorBody
  split
  · dsimp only
    split <;> simp [beginReset]
  · exact refuse_pending _ s

theorem identifyBody_pending (l : Link) (payload : List Byte) (s : State) :
    (identifyBody l payload s).1.pending = s.pending := by
  unfold identifyBody
  (repeat' split) <;> simp [refuse_pending]

theorem getStatusBody_pending (payload : List Byte) (s : State) : (getStatusBody payload s).1.pending = s.pending := by
  unfold getStatusBody
  (repeat' split) <;> simp [refuse_pending]

theorem readKeysBody_pending (l : Link) (payload : List Byte) (s : State) :
    (readKeysBody l payload s).1.pending = s.pending := by
  unfold readKeysBody removeEntries
  dsimp only
  (repeat' split) <;> simp [refuse_pending]

theorem readLogBody_pending (payload : List Byte) (s : State) : (readLogBody payload s).1.pending = s.pending := by
  unfold readLogBody
  (repeat' split) <;> simp [refuse_pending]

theorem getAttentionBody_pending (payload : List Byte) (s : State) : (getAttentionBody payload s).1.pending = s.pending := by
  unfold getAttentionBody
  (repeat' split) <;> simp [refuse_pending]

theorem clearAttentionBody_pending (payload : List Byte) (s : State) :
    (clearAttentionBody payload s).1.pending = s.pending := by
  unfold clearAttentionBody
  (repeat' split) <;> simp [refuse_pending]

theorem setMaskBody_pending (payload : List Byte) (s : State) : (setMaskBody payload s).1.pending = s.pending := by
  unfold setMaskBody
  (repeat' split) <;> simp [refuse_pending]

theorem startHostBody_pending (payload : List Byte) (s : State) : (startHostBody payload s).1.pending = s.pending := by
  unfold startHostBody
  (repeat' split) <;> simp [refuse_pending]

theorem restartBody_pending (payload : List Byte) (s : State) : (restartBody payload s).1.pending = s.pending := by
  unfold restartBody
  dsimp only
  (repeat' split) <;> simp [refuse_pending]

theorem readyBody_pending (l : Link) (payload : List Byte) (s : State) : (readyBody l payload s).1.pending = s.pending := by
  unfold readyBody
  (repeat' split) <;> simp [refuse_pending]

theorem deferBody_pending (l : Link) (tag : Byte) (payload : List Byte) (s : State) :
    (deferBody l tag payload s).1.pending = s.pending := by
  unfold deferBody grantDefer
  dsimp only
  (repeat' split) <;> simp [refuse_pending]

theorem releaseLockoutBody_pending (payload : List Byte) (s : State) :
    (releaseLockoutBody payload s).1.pending = s.pending := by
  unfold releaseLockoutBody
  (repeat' split) <;> simp [refuse_pending]

theorem setTimeBody_pending (payload : List Byte) (s : State) : (setTimeBody payload s).1.pending = s.pending := by
  unfold setTimeBody
  (repeat' split) <;> simp [refuse_pending]

theorem readSensorsBody_pending (payload : List Byte) (s : State) : (readSensorsBody payload s).1.pending = s.pending := by
  unfold readSensorsBody
  (repeat' split) <;> simp [refuse_pending]

theorem sampleBody_pending (l : Link) (tag : Byte) (payload : List Byte) (s : State) :
    (sampleBody l tag payload s).1.pending = s.pending := by
  unfold sampleBody
  (repeat' split) <;> simp [refuse_pending]

theorem setZoneBody_pending (payload : List Byte) (s : State) : (setZoneBody payload s).1.pending = s.pending := by
  unfold setZoneBody
  dsimp only
  (repeat' split) <;> simp [refuse_pending]

theorem setHeaterCurveBody_pending (payload : List Byte) (s : State) :
    (setHeaterCurveBody payload s).1.pending = s.pending := by
  unfold setHeaterCurveBody
  dsimp only
  (repeat' split) <;> simp [refuse_pending]

theorem setBudgetBody_pending (payload : List Byte) (s : State) : (setBudgetBody payload s).1.pending = s.pending := by
  unfold setBudgetBody
  (repeat' split) <;> simp [refuse_pending]

theorem setFanBody_pending (payload : List Byte) (s : State) : (setFanBody payload s).1.pending = s.pending := by
  unfold setFanBody
  dsimp only
  (repeat' split) <;> simp [refuse_pending]

theorem setLimitsBody_pending (payload : List Byte) (s : State) : (setLimitsBody payload s).1.pending = s.pending := by
  unfold setLimitsBody
  dsimp only
  (repeat' split) <;> simp [refuse_pending]

theorem clearFilterBody_pending (payload : List Byte) (s : State) : (clearFilterBody payload s).1.pending = s.pending := by
  unfold clearFilterBody
  (repeat' split) <;> simp [refuse_pending]

theorem setKeypadBody_pending (payload : List Byte) (s : State) : (setKeypadBody payload s).1.pending = s.pending := by
  unfold setKeypadBody
  dsimp only
  (repeat' split) <;> simp [refuse_pending]

theorem setKeyEntriesBody_pending (payload : List Byte) (s : State) :
    (setKeyEntriesBody payload s).1.pending = s.pending := by
  unfold setKeyEntriesBody
  (repeat' split) <;> simp [refuse_pending]

theorem setChordBody_pending (payload : List Byte) (s : State) : (setChordBody payload s).1.pending = s.pending := by
  unfold setChordBody setChordState
  dsimp only
  (repeat' split) <;> simp [refuse_pending]

theorem setLadderBody_pending (payload : List Byte) (s : State) : (setLadderBody payload s).1.pending = s.pending := by
  unfold setLadderBody
  (repeat' split) <;> simp [refuse_pending]

theorem setTimingBody_pending (payload : List Byte) (s : State) : (setTimingBody payload s).1.pending = s.pending := by
  unfold setTimingBody
  (repeat' split) <;> simp [refuse_pending]

theorem readSettingsBody_pending (payload : List Byte) (s : State) : (readSettingsBody payload s).1.pending = s.pending := by
  unfold readSettingsBody
  (repeat' split) <;> simp [refuse_pending]

theorem saveSettingsBody_pending (l : Link) (tag : Byte) (payload : List Byte) (s : State) :
    (saveSettingsBody l tag payload s).1.pending = s.pending := by
  unfold saveSettingsBody
  (repeat' split) <;> simp [refuse_pending]

theorem readFactoryBody_pending (payload : List Byte) (s : State) : (readFactoryBody payload s).1.pending = s.pending := by
  unfold readFactoryBody
  (repeat' split) <;> simp [refuse_pending]

theorem programBody_pending (l : Link) (tag : Byte) (payload : List Byte) (s : State) :
    (programBody l tag payload s).1.pending = s.pending := by
  unfold programBody
  dsimp only
  (repeat' split) <;> simp [refuse_pending]

theorem getCountersBody_pending (payload : List Byte) (s : State) : (getCountersBody payload s).1.pending = s.pending := by
  unfold getCountersBody clearCounters
  dsimp only
  (repeat' split) <;> simp [refuse_pending]

/-! ### Every command -/

theorem checkIn_pending (l : Link) (tag : Byte) (payload : List Byte) (s : State) :
    (checkIn l tag payload s).pending = s.pending := by
  have taken (stage : Nat) (t : State) : (takeCheckIn stage t).pending = t.pending := by
    unfold takeCheckIn checkInBooting checkInRunning checkInWarned strayCheckIn
    (repeat' split) <;> simp
  unfold checkIn
  split
  · split
    · split
      · rw [taken]
        simp
      · simp [strayCheckIn]
    · simp [strayCheckIn]
  · rfl

theorem takeFrame_pending (l : Link) (f : Frame) (s : State) : (takeFrame l f s).pending = s.pending := by
  unfold takeFrame
  split
  · exact answer_pending (identifyBody_pending _ _) s
  · exact answer_pending (getStatusBody_pending _) s
  · exact checkIn_pending l f.tag f.payload s
  · exact answer_pending (readKeysBody_pending _ _) s
  · exact answer_pending (readLogBody_pending _) s
  · exact answer_pending (getAttentionBody_pending _) s
  · exact answer_pending (clearAttentionBody_pending _) s
  · exact answer_pending (setMaskBody_pending _) s
  · exact answer_pending (startHostBody_pending _) s
  · exact answer_pending (powerOffBody_pending _) s
  · exact answer_pending (restartBody_pending _) s
  · exact answer_pending (readyBody_pending _ _) s
  · exact answer_pending (deferBody_pending _ _ _) s
  · exact answer_pending (releaseLockoutBody_pending _) s
  · exact answer_pending (setTimeBody_pending _) s
  · exact answer_pending (readSensorsBody_pending _) s
  · exact answer_pending (sampleBody_pending _ _ _) s
  · exact answer_pending (setZoneBody_pending _) s
  · exact answer_pending (setHeaterCurveBody_pending _) s
  · exact answer_pending (setBudgetBody_pending _) s
  · exact answer_pending (setFanBody_pending _) s
  · exact answer_pending (setLimitsBody_pending _) s
  · exact answer_pending (clearFilterBody_pending _) s
  · exact answer_pending (setKeypadBody_pending _) s
  · exact answer_pending (setKeyEntriesBody_pending _) s
  · exact answer_pending (setChordBody_pending _) s
  · exact answer_pending (setLadderBody_pending _) s
  · exact answer_pending (setTimingBody_pending _) s
  · exact answer_pending (readSettingsBody_pending _) s
  · exact answer_pending (saveSettingsBody_pending _ _ _) s
  · exact answer_pending (readFactoryBody_pending _) s
  · exact answer_pending (programBody_pending _ _ _) s
  · exact answer_pending (getCountersBody_pending _) s
  · exact answer_pending (resetSupervisorBody_pending _ _ _) s
  · unfold unknownRequest nonRequestFrame
    (repeat' split) <;> simp

theorem examine_pending (l : Link) (b : Byte) (rest : List Byte) (s : State) :
    (examine l b rest s).2.pending = s.pending := by
  unfold examine
  split
  · dsimp only
    split <;> simp
  · split
    · simp
    · simp [countLengthError]
    · simp [countCrcError]
    · exact takeFrame_pending l _ s

theorem receive_pending (l : Link) (bytes : List Byte) (s : State) : (receive l bytes s).pending = s.pending := by
  have scanned (fuel : Nat) : ∀ (bytes : List Byte) (t : State), (scanBytes fuel l bytes t).pending = t.pending := by
    induction fuel with
    | zero => exact fun _ _ => rfl
    | succ fuel ih =>
      intro bytes t
      cases bytes with
      | nil => rfl
      | cons b rest =>
        cases r : receiving t
        · rw [scanBytes_of_deaf r]
        · rw [scanBytes_step r, ih, examine_pending]
  exact scanned _ bytes s

theorem beginReset_pending (kind : ResetKind) (s : State) : (beginReset kind s).pending = s.pending := rfl

theorem frameSent_pending (l : Link) (s : State) : (frameSent l s).pending = s.pending := by
  unfold frameSent
  split
  · rfl
  · dsimp only
    split
    · rw [beginReset_pending]
      simp
    · simp

theorem keyRepeat_pending (columns : Columns) (s : State) : (keyRepeat columns s).pending = s.pending := by
  unfold keyRepeat
  dsimp only
  (repeat' split) <;> simp

theorem keyStuck_pending (p : Position) (columns : Columns) (s : State) :
    (keyStuck p columns s).pending = s.pending := by
  unfold keyStuck
  dsimp only
  split <;> simp [setPosition]

theorem chordFire_pending (i : ChordIndex) (columns : Columns) (s : State) :
    (chordFire i columns s).pending = s.pending := by
  unfold chordFire
  dsimp only
  split <;> simp [setChordState]

/-- Where an event with a next state of its own occurs or not, the waiting commands stay. -/
theorem ite_pending {c : Prop} [Decidable c] {t s : State} (h : t.pending = s.pending) :
    (if c then t else s).pending = s.pending := by
  split
  · exact h
  · rfl

/-- Every command answers a next state, with the same commands waiting. -/
theorem exec_answers (i : Instr) (s : State) : ∃ t, exec i s = .next t ∧ t.pending = s.pending := by
  cases i <;> refine ⟨_, rfl, ?_⟩
  case powerOnReset => rfl
  case pinReset =>
    show (pinReset s).pending = _
    unfold pinReset
    split <;> rfl
  case linkReset => exact ite_pending rfl
  case resetEnd => exact resetEnd_pending s
  case scanConversionComplete code =>
    show (scanConversionComplete code s).pending = _
    unfold scanConversionComplete completeScan
    (repeat' split) <;> simp
  case referenceConversionComplete code => exact referenceConversionComplete_pending code s
  case converterFault code => exact ite_pending (referenceConversionComplete_pending code s)
  case converterOk code => exact ite_pending (referenceConversionComplete_pending code s)
  case oneShotComplete code =>
    show (oneShotComplete code s).pending = _
    unfold oneShotComplete
    split <;> simp
  case allocationPeriodExpiry => exact ite_pending (allocationExpiry_pending s)
  case gateRelease z => exact ite_pending (allocationExpiry_pending s)
  case warmTimeout =>
    show (warmTimeout s).pending = _
    unfold warmTimeout
    (repeat' split) <;> simp
  case fanPeriodExpiry => exact fanPeriodExpiry_pending s
  case tachPulse => exact ite_pending rfl
  case fanFault => exact ite_pending (fanPeriodExpiry_pending s)
  case fanOk => exact ite_pending (fanPeriodExpiry_pending s)
  case minuteExpiry => exact minuteExpiry_pending s
  case filterService => exact ite_pending (minuteExpiry_pending s)
  case overheatCheck => exact overheatCheck_pending s
  case thermalTrip => exact ite_pending (overheatCheck_pending s)
  case thermalResume => exact ite_pending (overheatCheck_pending s)
  case hpgRise =>
    show (hpgRise s).pending = _
    unfold hpgRise setPowerGood
    (repeat' split) <;> simp
  case hpgFall =>
    show (hpgFall s).pending = _
    unfold hpgFall setPowerGood
    (repeat' split) <;> simp
  case hpgTimeout => exact ite_pending (by simp)
  case resetHoldExpiry => exact ite_pending (by simp)
  case bootWindowExpiry => exact ite_pending (by simp)
  case runTimeoutExpiry => exact ite_pending (by simp)
  case stabilityExpiry => exact ite_pending (by simp)
  case graceExpiry => exact ite_pending (by simp)
  case pulseTimerExpiry =>
    refine ite_pending ?_
    split <;> simp
  case offIntervalExpiry =>
    refine ite_pending ?_
    split <;> simp
  case powerOffTimerExpiry => exact ite_pending (by simp)
  case scanCompletion columns => exact scanCompletion_pending columns s
  case pressAccepted p columns => exact ite_pending (scanCompletion_pending columns s)
  case releaseAccepted p columns => exact ite_pending (scanCompletion_pending columns s)
  case keyRepeat columns => exact keyRepeat_pending columns s
  case keyStuck p columns => exact keyStuck_pending p columns s
  case chordFire i columns => exact chordFire_pending i columns s
  case cellWriteComplete =>
    show (cellWriteComplete s).pending = _
    unfold cellWriteComplete
    split <;> rfl
  case saveComplete agrees =>
    show (saveComplete agrees s).pending = _
    unfold saveComplete saveReply
    (repeat' split) <;> simp
  case factoryWriteComplete readback =>
    show (factoryWriteComplete readback s).pending = _
    unfold factoryWriteComplete wordReply
    (repeat' split) <;> simp
  case interByteTimeout l bytes =>
    show (interByteTimeout l bytes s).pending = _
    unfold interByteTimeout
    dsimp only
    split <;> simp [countTimeout, receive_pending]
  case lengthError l length => exact ite_pending ((receive_pending ..).trans (by simp))
  case crcError l body check => exact ite_pending ((receive_pending ..).trans (by simp))
  case nonRequestFrame l kind tag payload => exact ite_pending (by simp)
  case unknownRequest l kind tag payload => exact ite_pending (by simp)
  case frameSent l => exact frameSent_pending l s
  case identify l tag payload => exact takeFrame_pending l ⟨0x01, tag, payload⟩ s
  case getStatus l tag payload => exact takeFrame_pending l ⟨0x02, tag, payload⟩ s
  case checkIn l tag payload => exact takeFrame_pending l ⟨0x03, tag, payload⟩ s
  case readKeys l tag payload => exact takeFrame_pending l ⟨0x04, tag, payload⟩ s
  case readLog l tag payload => exact takeFrame_pending l ⟨0x05, tag, payload⟩ s
  case getAttention l tag payload => exact takeFrame_pending l ⟨0x06, tag, payload⟩ s
  case clearAttention l tag payload => exact takeFrame_pending l ⟨0x07, tag, payload⟩ s
  case setAttentionMask l tag payload => exact takeFrame_pending l ⟨0x08, tag, payload⟩ s
  case startHost l tag payload => exact takeFrame_pending l ⟨0x09, tag, payload⟩ s
  case powerOff l tag payload => exact takeFrame_pending l ⟨0x0A, tag, payload⟩ s
  case restart l tag payload => exact takeFrame_pending l ⟨0x0B, tag, payload⟩ s
  case ready l tag payload => exact takeFrame_pending l ⟨0x0C, tag, payload⟩ s
  case defer l tag payload => exact takeFrame_pending l ⟨0x0D, tag, payload⟩ s
  case releaseLockout l tag payload => exact takeFrame_pending l ⟨0x0E, tag, payload⟩ s
  case setTime l tag payload => exact takeFrame_pending l ⟨0x0F, tag, payload⟩ s
  case readSensors l tag payload => exact takeFrame_pending l ⟨0x10, tag, payload⟩ s
  case sampleChannel l tag payload => exact takeFrame_pending l ⟨0x11, tag, payload⟩ s
  case setZone l tag payload => exact takeFrame_pending l ⟨0x12, tag, payload⟩ s
  case setHeaterCurve l tag payload => exact takeFrame_pending l ⟨0x13, tag, payload⟩ s
  case setBudget l tag payload => exact takeFrame_pending l ⟨0x14, tag, payload⟩ s
  case setFan l tag payload => exact takeFrame_pending l ⟨0x15, tag, payload⟩ s
  case setThermalLimits l tag payload => exact takeFrame_pending l ⟨0x16, tag, payload⟩ s
  case clearFilterService l tag payload => exact takeFrame_pending l ⟨0x17, tag, payload⟩ s
  case setKeypad l tag payload => exact takeFrame_pending l ⟨0x18, tag, payload⟩ s
  case setKeyEntries l tag payload => exact takeFrame_pending l ⟨0x19, tag, payload⟩ s
  case setChord l tag payload => exact takeFrame_pending l ⟨0x1A, tag, payload⟩ s
  case setLadder l tag payload => exact takeFrame_pending l ⟨0x1B, tag, payload⟩ s
  case setTiming l tag payload => exact takeFrame_pending l ⟨0x1C, tag, payload⟩ s
  case readSettings l tag payload => exact takeFrame_pending l ⟨0x1D, tag, payload⟩ s
  case saveSettings l tag payload => exact takeFrame_pending l ⟨0x1E, tag, payload⟩ s
  case readFactoryWord l tag payload => exact takeFrame_pending l ⟨0x1F, tag, payload⟩ s
  case programFactoryWord l tag payload => exact takeFrame_pending l ⟨0x20, tag, payload⟩ s
  case getLinkCounters l tag payload => exact takeFrame_pending l ⟨0x21, tag, payload⟩ s
  case resetSupervisor l tag payload => exact takeFrame_pending l ⟨0x22, tag, payload⟩ s
  case timeBaseTick => rfl
  case rowDwellEnd columns =>
    show (rowDwellEnd columns s).pending = _
    unfold rowDwellEnd
    (repeat' split) <;> simp
  case driveFrameStart z => exact ite_pending rfl
  case driveOnTimeEnd z =>
    show (driveOnTimeEnd z s).pending = _
    unfold driveOnTimeEnd
    (repeat' split) <;> simp

/-- Settles O2, command by command. -/
theorem everyCommandAnswersAndKeepsTheQueue : Obligations.EveryCommandAnswersAndKeepsTheQueue := by
  unfold Obligations.EveryCommandAnswersAndKeepsTheQueue
  exact exec_answers

end Sys2Proof.Machine
end

section
/-! SUPPORT. Frames and dispatch: a frame's bytes, its command, and the tests that no block makes. -/

namespace Sys2Proof.Machine

/-! ### The command of a frame (R166, Table 10-2) -/

/-- A frame's command has the effect of the frame's taking. -/
theorem exec_commandOfFrame (l : Link) (f : Frame) (s : State) :
    exec (commandOfFrame l f) s = .next (takeFrame l f s) := by
  unfold commandOfFrame takeFrame
  generalize f.kind.toNat = k
  split
  case h_35 =>
    -- Where the two tables are not one match, the kinds of the second are excluded one by one.
    repeat' split
    all_goals try contradiction
    all_goals rfl
  all_goals rfl

theorem commandOfFrame_unknown {l : Link} {f : Frame} (low : 0x23 ≤ f.kind.toNat) (high : f.kind.toNat ≤ 0x3F) :
    commandOfFrame l f = .unknownRequest l f.kind f.tag f.payload := by
  unfold commandOfFrame
  generalize f.kind.toNat = k at low high
  split
  case h_35 => exact if_pos ⟨low, high⟩
  all_goals omega

theorem commandOfFrame_nonRequest {l : Link} {f : Frame} (h : f.kind.toNat = 0 ∨ 0x40 ≤ f.kind.toNat) :
    commandOfFrame l f = .nonRequestFrame l f.kind f.tag f.payload := by
  unfold commandOfFrame
  generalize f.kind.toNat = k at h
  have outside : ¬(0x23 ≤ k ∧ k ≤ 0x3F) := by omega
  split
  case h_35 => exact if_neg outside
  all_goals omega

theorem frameOfCommand_commandOfFrame (l : Link) (f : Frame) : frameOfCommand (commandOfFrame l f) = some (l, f) := by
  obtain ⟨kind, tag, payload⟩ := f
  have named {n : Nat} (e : kind.toNat = n) (fits : n < 256) : kind = BitVec.ofNat 8 n := by
    rw [← e, BitVec.ofNat_toNat, BitVec.setWidth_eq]
  unfold commandOfFrame
  split
  case h_35 =>
    split
    · rfl
    · rfl
  all_goals
    next e =>
    rw [named e (by decide)]
    rfl

theorem commandOfFrame_frameOfCommand {i : Instr} {l : Link} {f : Frame} (wf : i.wellFormed = true)
    (h : frameOfCommand i = some (l, f)) : commandOfFrame l f = i := by
  cases i <;> cases h
  case unknownRequest kind tag payload =>
    simp only [Instr.wellFormed, kindIsUnknown, Bool.and_eq_true, decide_eq_true_eq] at wf
    exact commandOfFrame_unknown wf.1.1 wf.1.2
  case nonRequestFrame kind tag payload =>
    simp only [Instr.wellFormed, kindIsNoRequest, Bool.and_eq_true, decide_eq_true_eq] at wf
    exact commandOfFrame_nonRequest wf.1
  all_goals rfl

/-- Settles O4, kind by kind of Table 10-2. -/
theorem frameAndCommandAgree : Obligations.FrameAndCommandAgree := by
  unfold Obligations.FrameAndCommandAgree
  refine ⟨fun l t p => rfl, fun l f low high => commandOfFrame_unknown low high, fun l f h => ?_,
    fun i l f wf h => commandOfFrame_frameOfCommand wf h, frameOfCommand_commandOfFrame⟩
  refine commandOfFrame_nonRequest (h.imp_left fun e => ?_)
  rw [e]
  rfl

/-! ### Through resets the receivers are deaf (R172, R176) -/

theorem takeFrame_of_deaf {s : State} (h : receiving s = false) (l : Link) (f : Frame) : takeFrame l f s = s := by
  unfold takeFrame
  split
  case h_3 => simp [checkIn, h]
  case h_35 =>
    split
    · simp [unknownRequest, h]
    · simp [nonRequestFrame, h]
  all_goals exact answer_of_deaf h

/-- Settles O8: without a receiver that takes bytes no frame is dispatched and no byte examined. -/
theorem receiversAreDeafThroughResets : Obligations.ReceiversAreDeafThroughResets := by
  unfold Obligations.ReceiversAreDeafThroughResets
  refine ⟨receiving_iff, fun s deaf => ⟨fun l f => ?_, fun l bytes => ?_, fun l length => ?_, fun l body check => ?_⟩⟩
  · rw [exec_commandOfFrame, takeFrame_of_deaf deaf]
  · show Host.Outcome.next (interByteTimeout l bytes s) = _
    simp [interByteTimeout, receive_of_deaf deaf, deaf]
  · show Host.Outcome.next (lengthError l length s) = _
    simp [lengthError, deaf]
  · show Host.Outcome.next (crcError l body check s) = _
    simp [crcError, deaf]

/-! ### The block of an answered request -/

/-- The block that answers a frame's request, by its kind (Table 10-2); none answers the other kinds. -/
def requestBody (l : Link) (f : Frame) : State → State × Option (List Byte) :=
  match f.kind.toNat with
  | 0x01 => identifyBody l f.payload
  | 0x02 => getStatusBody f.payload
  | 0x04 => readKeysBody l f.payload
  | 0x05 => readLogBody f.payload
  | 0x06 => getAttentionBody f.payload
  | 0x07 => clearAttentionBody f.payload
  | 0x08 => setMaskBody f.payload
  | 0x09 => startHostBody f.payload
  | 0x0A => powerOffBody f.payload
  | 0x0B => restartBody f.payload
  | 0x0C => readyBody l f.payload
  | 0x0D => deferBody l f.tag f.payload
  | 0x0E => releaseLockoutBody f.payload
  | 0x0F => setTimeBody f.payload
  | 0x10 => readSensorsBody f.payload
  | 0x11 => sampleBody l f.tag f.payload
  | 0x12 => setZoneBody f.payload
  | 0x13 => setHeaterCurveBody f.payload
  | 0x14 => setBudgetBody f.payload
  | 0x15 => setFanBody f.payload
  | 0x16 => setLimitsBody f.payload
  | 0x17 => clearFilterBody f.payload
  | 0x18 => setKeypadBody f.payload
  | 0x19 => setKeyEntriesBody f.payload
  | 0x1A => setChordBody f.payload
  | 0x1B => setLadderBody f.payload
  | 0x1C => setTimingBody f.payload
  | 0x1D => readSettingsBody f.payload
  | 0x1E => saveSettingsBody l f.tag f.payload
  | 0x1F => readFactoryBody f.payload
  | 0x20 => programBody l f.tag f.payload
  | 0x21 => getCountersBody f.payload
  | 0x22 => resetSupervisorBody l f.tag f.payload
  | _ => fun s => (s, none)

/-- A kind of Table 10-2 that is answered: all but Check-In. -/
abbrev Answered (kind : Byte) : Prop := 1 ≤ kind.toNat ∧ kind.toNat ≤ 0x22 ∧ kind.toNat ≠ 3

theorem takeFrame_answered {f : Frame} (h : Answered f.kind) (l : Link) (s : State) :
    takeFrame l f s = answer l f.kind f.tag (requestBody l f) s := by
  obtain ⟨kind, tag, payload⟩ := f
  obtain ⟨low, high, notCheckIn⟩ := h
  have named {n : Nat} (e : kind.toNat = n) (fits : n < 256) : kind = BitVec.ofNat 8 n := by
    rw [← e, BitVec.ofNat_toNat, BitVec.setWidth_eq]
  unfold takeFrame
  split
  case h_3 e => exact absurd e notCheckIn
  case h_35 =>
    dsimp only at low high
    simp only [imp_false] at *
    omega
  all_goals
    next e =>
    rw [named e (by decide)]
    rfl

/-- An answered request in a waiting link's frame is answered BUSY (R166, test 4). -/
theorem exec_of_waiting {l : Link} {f : Frame} {s : State} (h : Answered f.kind) (r : receiving s = true)
    (w : (s.link l).waiting = true) :
    exec (commandOfFrame l f) s =
      .next (sendFrame l ⟨f.kind + 0x80, f.tag, [0x10]⟩ (setReceiver l .hunting s)) := by
  rw [exec_commandOfFrame, takeFrame_answered h, answer_of_waiting r w]
  rfl

/-- A request that its block refuses is answered with the status alone, and nothing else changes. -/
theorem answer_of_refused {l : Link} {kind tag : Byte} {body : State → State × Option (List Byte)} {s : State}
    {status : Status} (h : Dispatches l s)
    (b : body (setReceiver l .hunting s) = refuse status (setReceiver l .hunting s)) :
    answer l kind tag body s = sendFrame l ⟨kind + 0x80, tag, [statusByte status]⟩ (setReceiver l .hunting s) :=
  answer_of_reply h.1 h.2 b

theorem exec_of_refused {l : Link} {f : Frame} {s : State} {status : Status} (a : Answered f.kind) (h : Dispatches l s)
    (b : ∀ t, requestBody l f t = refuse status t) :
    exec (commandOfFrame l f) s =
      .next (sendFrame l ⟨f.kind + 0x80, f.tag, [statusByte status]⟩ (setReceiver l .hunting s)) := by
  rw [exec_commandOfFrame, takeFrame_answered a, answer_of_refused h (b _)]

/-- Settles O6, test by test. -/
theorem dispatchTestsRefuse : Obligations.DispatchTestsRefuse := by
  unfold Obligations.DispatchTestsRefuse
  refine ⟨fun l kind tag payload s r => ⟨fun _ => ?_, fun _ _ => ?_⟩, fun l f s r w low high notCheckIn => ?_,
    fun tag payload s h => ⟨?_, ?_⟩, fun tag payload s h => ?_⟩
  · exact congrArg _ (if_pos r)
  · exact congrArg _ (if_pos r)
  · exact exec_of_waiting ⟨low, high, notCheckIn⟩ r w
  · exact congrArg _ (answer_of_refused h rfl)
  · exact congrArg _ (answer_of_refused h rfl)
  · exact congrArg _ (answer_of_refused h rfl)

/-! ### Lengths (R166, R177) -/

theorem answered_of_payloadLength {kind : Byte} {n : Nat} (h : payloadLength kind.toNat = some n) : Answered kind := by
  unfold Answered
  generalize kind.toNat = k at h
  unfold payloadLength at h
  split at h
  case h_29 => cases h
  all_goals decide

theorem answered_of_headLength {kind : Byte} {n : Nat} (h : headLength kind.toNat = some n) : Answered kind := by
  unfold Answered
  generalize kind.toNat = k at h
  unfold headLength at h
  split at h
  case h_6 => cases h
  all_goals decide

theorem answered_of_countedLength {kind : Byte} {payload : List Byte} {n : Nat}
    (h : countedLength kind.toNat payload = some n) : Answered kind := by
  unfold Answered
  generalize kind.toNat = k at h
  unfold countedLength at h
  split at h
  case h_6 => cases h
  all_goals decide

/-- A block whose request has one length refuses every other one (R177). -/
theorem requestBody_of_length_ne {l : Link} {f : Frame} {n : Nat} (h : payloadLength f.kind.toNat = some n)
    (ne : f.payload.length ≠ n) (host : l = .service → f.kind.toNat ≠ 0x0C ∧ f.kind.toNat ≠ 0x0D)
    (service : l = .host → f.kind.toNat ≠ 0x20) (s : State) : requestBody l f s = refuse .badLength s := by
  obtain ⟨low, high, notCheckIn⟩ := answered_of_payloadLength h
  unfold requestBody
  generalize f.kind.toNat = k at h host service low high notCheckIn
  split
  case h_1 =>
    cases h
    unfold identifyBody
    split
    · next bytes => exact absurd (congrArg List.length bytes) ne
    · rfl
  case h_2 =>
    cases h
    unfold getStatusBody
    split
    · next bytes => exact absurd (congrArg List.length bytes) ne
    · rfl
  case h_3 =>
    cases h
    unfold readKeysBody
    split
    · next bytes => exact absurd (congrArg List.length bytes) ne
    · rfl
  case h_4 =>
    cases h
    unfold readLogBody
    split
    · next bytes => exact absurd (congrArg List.length bytes) ne
    · rfl
  case h_5 =>
    cases h
    unfold getAttentionBody
    split
    · next bytes => exact absurd (congrArg List.length bytes) ne
    · rfl
  case h_6 =>
    cases h
    unfold clearAttentionBody
    split
    · next bytes => exact absurd (congrArg List.length bytes) ne
    · rfl
  case h_7 =>
    cases h
    unfold setMaskBody
    split
    · next bytes => exact absurd (congrArg List.length bytes) ne
    · rfl
  case h_8 =>
    cases h
    unfold startHostBody
    split
    · next bytes => exact absurd (congrArg List.length bytes) ne
    · rfl
  case h_9 =>
    cases h
    unfold powerOffBody
    split
    · next bytes => exact absurd (congrArg List.length bytes) ne
    · rfl
  case h_10 =>
    cases h
    unfold restartBody
    split
    · next bytes => exact absurd (congrArg List.length bytes) ne
    · rfl
  case h_11 =>
    cases h
    unfold readyBody
    split
    · exact absurd rfl (host rfl).1
    · next empty => exact absurd (congrArg List.length empty) ne
    · rfl
  case h_12 =>
    cases h
    unfold deferBody
    split
    · exact absurd rfl (host rfl).2
    · next empty => exact absurd (congrArg List.length empty) ne
    · rfl
  case h_13 =>
    cases h
    unfold releaseLockoutBody
    split
    · next bytes => exact absurd (congrArg List.length bytes) ne
    · rfl
  case h_14 =>
    cases h
    unfold setTimeBody
    split
    · next bytes => exact absurd (congrArg List.length bytes) ne
    · rfl
  case h_15 =>
    cases h
    unfold readSensorsBody
    split
    · next bytes => exact absurd (congrArg List.length bytes) ne
    · rfl
  case h_16 =>
    cases h
    unfold sampleBody
    split
    · next bytes => exact absurd (congrArg List.length bytes) ne
    · rfl
  case h_17 =>
    cases h
    unfold setZoneBody
    split
    · next bytes => exact absurd (congrArg List.length bytes) ne
    · rfl
  case h_18 => cases h
  case h_19 =>
    cases h
    unfold setBudgetBody
    split
    · next bytes => exact absurd (congrArg List.length bytes) ne
    · rfl
  case h_20 => cases h
  case h_21 =>
    cases h
    unfold setLimitsBody
    split
    · next bytes => exact absurd (congrArg List.length bytes) ne
    · rfl
  case h_22 =>
    cases h
    unfold clearFilterBody
    split
    · next bytes => exact absurd (congrArg List.length bytes) ne
    · rfl
  case h_23 => cases h
  case h_24 => cases h
  case h_25 =>
    cases h
    unfold setChordBody
    split
    · next bytes => exact absurd (congrArg List.length bytes) ne
    · rfl
  case h_26 => cases h
  case h_27 =>
    cases h
    unfold setTimingBody
    split
    · next bytes => exact absurd (congrArg List.length bytes) ne
    · rfl
  case h_28 =>
    cases h
    unfold readSettingsBody
    split
    · next bytes => exact absurd (congrArg List.length bytes) ne
    · rfl
  case h_29 =>
    cases h
    unfold saveSettingsBody
    split
    · next bytes => exact absurd (congrArg List.length bytes) ne
    · rfl
  case h_30 =>
    cases h
    unfold readFactoryBody
    split
    · next bytes => exact absurd (congrArg List.length bytes) ne
    · rfl
  case h_31 =>
    cases h
    unfold programBody
    split
    · exact absurd rfl (service rfl)
    · next bytes => exact absurd (congrArg List.length bytes) ne
    · rfl
  case h_32 =>
    cases h
    unfold getCountersBody
    split
    · next bytes => exact absurd (congrArg List.length bytes) ne
    · rfl
  case h_33 =>
    cases h
    unfold resetSupervisorBody
    split
    · next bytes => exact absurd (congrArg List.length bytes) ne
    · rfl
  case h_34 =>
    simp only [imp_false] at *
    omega

/-- A block whose request's length follows a count refuses one without its count byte (R36, R59, R103, R132, R134). -/
theorem requestBody_of_short {l : Link} {f : Frame} {n : Nat} (h : headLength f.kind.toNat = some n)
    (short : f.payload.length < n) (s : State) : requestBody l f s = refuse .badLength s := by
  unfold headLength at h
  unfold requestBody
  generalize f.kind.toNat = k at h
  split at h <;> cases h
  · unfold setHeaterCurveBody
    split
    · next bytes =>
      rw [bytes] at short
      simp only [List.length_cons] at short
      omega
    · rfl
  · unfold setFanBody
    split
    · next bytes =>
      rw [bytes] at short
      simp only [List.length_cons] at short
      omega
    · rfl
  · unfold setKeypadBody
    split
    · next bytes =>
      rw [bytes] at short
      simp only [List.length_cons] at short
      omega
    · rfl
  · unfold setKeyEntriesBody
    split
    · next bytes =>
      rw [bytes] at short
      simp only [List.length_cons] at short
      omega
    · rfl
  · unfold setLadderBody
    split
    · rfl
    · next bytes =>
      rw [bytes] at short
      simp only [List.length_cons] at short
      omega

theorem readIndex_of_lt {n : Nat} {b : Byte} (h : b.toNat < n) : readIndex n b = some ⟨b.toNat, h⟩ := dif_pos h

/-- A block whose request's length follows a count refuses one of another length, once the tests before have passed (R36, R59,
R103, R132, R134). -/
theorem requestBody_of_miscounted {l : Link} {f : Frame} {n : Nat} (h : countedLength f.kind.toNat f.payload = some n)
    (ne : f.payload.length ≠ n) (s : State) : requestBody l f s = refuse .badLength s := by
  unfold requestBody
  unfold countedLength at h
  generalize f.kind.toNat = k at h
  generalize f.payload = payload at h ne ⊢
  split at h
  case h_6 => cases h
  all_goals
    split at h
    case isFalse => cases h
    cases h
    simp only [List.length_cons] at ne
  · next zone count rest passed =>
    obtain ⟨inRange, some_point, most⟩ := passed
    show setHeaterCurveBody _ s = _
    rw [setHeaterCurveBody, readIndex_of_lt (show zone.toNat < 4 by omega)]
    dsimp only
    rw [if_neg (by omega), if_pos (by omega)]
  · next count rest passed =>
    show setFanBody _ s = _
    rw [setFanBody, if_neg (by omega), if_pos (by omega)]
  · next channel count rest passed =>
    obtain ⟨inRange, some_point, most⟩ := passed
    show setKeypadBody _ s = _
    rw [setKeypadBody, readIndex_of_lt (show channel.toNat < 8 by omega)]
    dsimp only
    rw [if_neg (by omega), if_pos (by omega)]
  · next first count rest passed =>
    show setKeyEntriesBody _ s = _
    rw [setKeyEntriesBody, if_neg (by omega), if_pos (by omega)]
  · next count rest passed =>
    show setLadderBody _ s = _
    rw [setLadderBody, if_neg (by omega), if_pos (by omega)]

/-- Settles O7: fixed lengths, head lengths and counted lengths. -/
theorem wrongLengthIsRefused : Obligations.WrongLengthIsRefused := by
  unfold Obligations.WrongLengthIsRefused
  refine ⟨fun l f s n h fixed ne host service => ?_, fun l f s n h head short => ?_, fun l f s n h counted ne => ?_⟩
  · refine exec_of_refused (answered_of_payloadLength fixed) h
      (requestBody_of_length_ne fixed ne (fun e => ?_) fun e => ?_)
    · obtain ⟨notReady, notDefer⟩ := host e
      exact ⟨fun k => notReady (BitVec.eq_of_toNat_eq k), fun k => notDefer (BitVec.eq_of_toNat_eq k)⟩
    · exact fun k => service e (BitVec.eq_of_toNat_eq k)
  · exact exec_of_refused (answered_of_headLength head) h (requestBody_of_short head short)
  · exact exec_of_refused (answered_of_countedLength counted) h (requestBody_of_miscounted counted ne)

end Sys2Proof.Machine
end

section
/-! SUPPORT. The receivers byte by byte (R163 to R165): a frame taken, and what a length, a check value or a silence counts. -/

namespace Sys2Proof.Machine

/-! ### One link's receiver -/

@[simp] theorem setReceiver_setReceiver (l : Link) (r q : Receiver) (s : State) :
    setReceiver l r (setReceiver l q s) = setReceiver l r s := by
  simp [setReceiver]

theorem setReceiver_receiver (l : Link) (r : Receiver) (s : State) : ((setReceiver l r s).link l).receiver = r := by
  simp [setReceiver]

theorem setReceiver_of_same {l : Link} {r : Receiver} {s : State} (h : (s.link l).receiver = r) : setReceiver l r s = s := by
  subst h
  cases l <;> rfl

@[simp] theorem countLengthError_setReceiver (l : Link) (r : Receiver) (s : State) :
    countLengthError l (setReceiver l r s) = countLengthError l s := by
  simp [countLengthError, setReceiver]

@[simp] theorem countCrcError_setReceiver (l : Link) (r : Receiver) (s : State) :
    countCrcError l (setReceiver l r s) = countCrcError l s := by
  simp [countCrcError, setReceiver]

@[simp] theorem countTimeout_setReceiver (l : Link) (r : Receiver) (s : State) :
    countTimeout l (setReceiver l r s) = countTimeout l s := by
  simp [countTimeout, setReceiver]

theorem countLengthError_hunts (l : Link) (s : State) : ((countLengthError l s).link l).receiver = .hunting := by
  simp [countLengthError]

theorem countCrcError_hunts (l : Link) (s : State) : ((countCrcError l s).link l).receiver = .hunting := by
  simp [countCrcError]

@[simp] theorem receiving_countLengthError (l : Link) (s : State) : receiving (countLengthError l s) = receiving s := by
  simp [countLengthError, receiving]

@[simp] theorem receiving_countCrcError (l : Link) (s : State) : receiving (countCrcError l s) = receiving s := by
  simp [countCrcError, receiving]

/-- What a frame's taking leads to does not depend on the bytes that its receiver held (R164). -/
theorem takeFrame_setReceiver {s : State} (h : receiving s = true) (l : Link) (r : Receiver) (f : Frame) :
    takeFrame l f (setReceiver l r s) = takeFrame l f s := by
  have answered (kind tag : Byte) (body : State → State × Option (List Byte)) :
      answer l kind tag body (setReceiver l r s) = answer l kind tag body s := by
    simp [answer, h, setReceiver_link_waiting]
  unfold takeFrame
  split
  case h_3 =>
    unfold checkIn
    rw [receiving_setReceiver, if_pos h, if_pos h]
    cases l
    case host =>
      rcases f.payload with _ | ⟨stage, _ | ⟨next, rest⟩⟩ <;> simp only [setReceiver_setReceiver]
    case service => simp only [setReceiver_setReceiver]
  case h_35 => simp [unknownRequest, nonRequestFrame, h]
  all_goals exact answered _ _ _

/-! ### Bytes at a receiver that hunts -/

/-- Bytes without a sync byte change nothing at a receiver that hunts. -/
theorem receive_of_no_sync {l : Link} {bytes : List Byte} {s : State} (hunts : (s.link l).receiver = .hunting)
    (none_sync : syncByte ∉ bytes) : receive l bytes s = s := by
  cases r : receiving s
  · exact receive_of_deaf r l bytes
  · induction bytes with
    | nil => exact receive_nil l s
    | cons b rest ih =>
      have notSync : b ≠ syncByte := fun e => none_sync (e ▸ List.mem_cons_self ..)
      have step : examine l b rest s = (rest, s) := by
        unfold examine
        rw [hunts]
        simp [notSync]
      rw [receive_cons r, step]
      exact ih fun mem => none_sync (List.mem_cons_of_mem _ mem)

theorem receive_sync {l : Link} {rest : List Byte} {s : State} (r : receiving s = true)
    (hunts : (s.link l).receiver = .hunting) :
    receive l (syncByte :: rest) s = receive l rest (setReceiver l (.assembling [] 0) s) := by
  have step : examine l syncByte rest s = (rest, setReceiver l (.assembling [] 0) s) := by
    unfold examine
    rw [hunts]
    simp
  rw [receive_cons r, step]

/-- The next byte at a receiver that assembles, by the verdict on the bytes it then holds. -/
theorem receive_assembling {l : Link} {got rest : List Byte} {b : Byte} {age : Nat} {s : State} (r : receiving s = true) :
    receive l (b :: rest) (setReceiver l (.assembling got age) s) =
      match assemble (got ++ [b]) with
      | .partially => receive l rest (setReceiver l (.assembling (got ++ [b]) 0) s)
      | .badLength => receive l (b :: rest) (countLengthError l s)
      | .badCheck => receive l (got ++ b :: rest) (countCrcError l s)
      | .complete f => receive l rest (takeFrame l f s) := by
  rw [receive_cons (by simpa using r)]
  unfold examine
  rw [setReceiver_receiver]
  dsimp only
  rcases verdict : assemble (got ++ [b]) with _ | _ | _ | f <;> simp [takeFrame_setReceiver r]

theorem assemble_partially {length : Byte} {rest : List Byte} (low : 2 ≤ length.toNat) (high : length.toNat ≤ 202)
    (incomplete : rest.length < length.toNat + 2) : assemble (length :: rest) = .partially := by
  have inRange : lengthOutOfRange length = false := by
    simp [lengthOutOfRange]
    omega
  simp only [assemble, inRange, Bool.false_eq_true, if_false]
  rw [if_pos (by rw [List.length_cons]; omega)]

/-- Bytes that do not complete the frame that its length byte announces are held. -/
theorem receive_incomplete {l : Link} {length : Byte} {rest more : List Byte} {s : State} (r : receiving s = true)
    (low : 2 ≤ length.toNat) (high : length.toNat ≤ 202) (incomplete : rest.length < length.toNat + 2) :
    receive l (length :: rest ++ more) (setReceiver l (.assembling [] 0) s) =
      receive l more (setReceiver l (.assembling (length :: rest) 0) s) := by
  induction rest using List.reverseRecOn generalizing more with
  | nil =>
    rw [List.cons_append, List.nil_append, receive_assembling r, List.nil_append, assemble_partially low high incomplete]
  | append_singleton rest b ih =>
    rw [List.length_append, List.length_singleton] at incomplete
    have before : rest.length < length.toNat + 2 := by omega
    rw [show length :: (rest ++ [b]) ++ more = length :: rest ++ (b :: more) by simp, ih before, receive_assembling r,
      List.cons_append, assemble_partially low high (by rw [List.length_append, List.length_singleton]; omega)]

/-- The verdict on a length byte, the bytes it counts and a check value (R163, R164). -/
theorem assemble_whole {length : Byte} {rest : List Byte} (check : Half) (low : 2 ≤ length.toNat)
    (high : length.toNat ≤ 202) (whole : rest.length = length.toNat) :
    assemble (length :: rest ++ halfBytes check) =
      if halfBytes (crc16 (length :: rest)) = halfBytes check then .complete (frameOfBody (length :: rest))
      else .badCheck := by
  have inRange : lengthOutOfRange length = false := by
    simp [lengthOutOfRange]
    omega
  have size : (length :: rest ++ halfBytes check).length - 2 = (length :: rest).length := by simp
  have front : (length :: rest ++ halfBytes check).take ((length :: rest ++ halfBytes check).length - 2) = length :: rest := by
    rw [size, List.take_left]
  have back : (length :: rest ++ halfBytes check).drop ((length :: rest ++ halfBytes check).length - 2) =
      halfBytes check := by rw [size, List.drop_left]
  rw [assemble.eq_def]
  simp only [List.cons_append, inRange, Bool.false_eq_true, if_false]
  rw [← List.cons_append, checkAgrees, front, back, if_neg (by simp; omega)]
  simp

theorem halfBytes_injective {h g : Half} (e : halfBytes h = halfBytes g) : h = g := by
  rw [halfBytes, halfBytes, List.cons.injEq, List.cons.injEq] at e
  obtain ⟨high, low, -⟩ := e
  bv_omega

/-- A whole frame's bytes after its sync byte, at a receiver that has just found it. -/
theorem receive_whole {l : Link} {length : Byte} {rest more : List Byte} {check : Half} {s : State} (r : receiving s = true)
    (low : 2 ≤ length.toNat) (high : length.toNat ≤ 202) (whole : rest.length = length.toNat) :
    receive l (length :: rest ++ halfBytes check ++ more) (setReceiver l (.assembling [] 0) s) =
      if crc16 (length :: rest) = check then receive l more (takeFrame l (frameOfBody (length :: rest)) s)
      else receive l (length :: rest ++ halfBytes check ++ more) (countCrcError l s) := by
  have split_last : halfBytes check = [(check >>> 8).truncate 8] ++ [check.truncate 8] := rfl
  have grouped : length :: rest ++ halfBytes check ++ more =
      length :: (rest ++ [(check >>> 8).truncate 8]) ++ (check.truncate 8 :: more) := by
    rw [split_last]
    simp
  have verdict : assemble (length :: (rest ++ [(check >>> 8).truncate 8]) ++ [check.truncate 8]) =
      if halfBytes (crc16 (length :: rest)) = halfBytes check then .complete (frameOfBody (length :: rest))
      else .badCheck := by
    rw [← assemble_whole check low high whole, split_last]
    simp
  rw [grouped, receive_incomplete r low high (by rw [List.length_append, List.length_singleton]; omega),
    receive_assembling r, verdict]
  by_cases agrees : crc16 (length :: rest) = check
  · rw [if_pos agrees, agrees, if_pos rfl]
  · rw [if_neg agrees, if_neg fun e => agrees (halfBytes_injective e)]


/-! ### Silence after the bytes -/

theorem exec_interByteTimeout (l : Link) (bytes : List Byte) (s : State) :
    exec (.interByteTimeout l bytes) s = .next (interByteTimeout l bytes s) := rfl

/-- What a silence does depends on the bytes before it through what they led to. -/
theorem interByteTimeout_congr {l : Link} {bytes more : List Byte} {s t : State}
    (same : receive l bytes s = receive l more t) : interByteTimeout l bytes s = interByteTimeout l more t := by
  rw [interByteTimeout, interByteTimeout, same]

theorem interByteTimeout_of_hunting {l : Link} {bytes : List Byte} {s : State}
    (hunts : ((receive l bytes s).link l).receiver = .hunting) : interByteTimeout l bytes s = receive l bytes s := by
  simp [interByteTimeout, assembling, hunts]

/-- A frame that the bytes before the silence left incomplete is abandoned, and counted from the state before it (R165). -/
theorem interByteTimeout_of_assembling {l : Link} {bytes got : List Byte} {age : Nat} {s t : State}
    (held : receive l bytes s = setReceiver l (.assembling got age) t) (r : receiving t = true) :
    interByteTimeout l bytes s = countTimeout l t := by
  simp [interByteTimeout, held, assembling, setReceiver_receiver, r]

/-! ### A frame on the wire -/

theorem frameOfBody_body (f : Frame) : frameOfBody f.body = f := rfl

theorem receive_wire {l : Link} {f : Frame} {more : List Byte} {s : State} (size : f.payload.length ≤ 200)
    (r : receiving s = true) (hunts : (s.link l).receiver = .hunting) :
    receive l (f.wire ++ more) s = receive l more (takeFrame l f s) := by
  have counted : (BitVec.ofNat 8 (f.payload.length + 2)).toNat = f.payload.length + 2 := by
    rw [BitVec.toNat_ofNat]
    omega
  have taken := receive_whole (l := l) (more := more) (length := BitVec.ofNat 8 (f.payload.length + 2))
    (rest := f.kind :: f.tag :: f.payload) (check := crc16 f.body) r (by omega) (by omega) (by rw [counted]; rfl)
  rw [Frame.wire, List.cons_append, List.cons_append, receive_sync r hunts]
  exact taken.trans (if_pos rfl)

/-! ### The error events -/

theorem exec_crcError {l : Link} {body : List Byte} {check : Half} {s : State} (r : receiving s = true) :
    exec (.crcError l body check) s =
      .next (receive l (syncByte :: body ++ halfBytes check) (setReceiver l .hunting s)) :=
  congrArg _ (if_pos r)

theorem lengthOutOfRange_of {length : Byte} (out : length.toNat < 2 ∨ 202 < length.toNat) :
    lengthOutOfRange length = true := by
  exact decide_eq_true out

/-- A length byte out of range is counted and then examined again (R164). -/
theorem receive_badLength {l : Link} {length : Byte} {more : List Byte} {s : State} (r : receiving s = true)
    (hunts : (s.link l).receiver = .hunting) (out : length.toNat < 2 ∨ 202 < length.toNat) :
    receive l (syncByte :: length :: more) s = receive l (length :: more) (countLengthError l s) := by
  have verdict : assemble ([] ++ [length]) = .badLength := by simp [assemble, lengthOutOfRange_of out]
  rw [receive_sync r hunts, receive_assembling r, verdict]

theorem notSync_of_out {length : Byte} (out : length.toNat < 2 ∨ 202 < length.toNat) : syncByte ∉ [length] := by
  intro mem
  obtain rfl := List.mem_singleton.1 mem
  revert out
  decide

/-- A check value that does not agree is counted, and every byte after the sync byte is examined again (R164). -/
theorem receive_badCheck {l : Link} {length : Byte} {rest more : List Byte} {check : Half} {s : State}
    (r : receiving s = true) (hunts : (s.link l).receiver = .hunting) (low : 2 ≤ length.toNat)
    (high : length.toNat ≤ 202) (whole : rest.length = length.toNat) (bad : check ≠ crc16 (length :: rest)) :
    receive l (syncByte :: (length :: rest) ++ halfBytes check ++ more) s =
      receive l (length :: rest ++ halfBytes check ++ more) (countCrcError l s) := by
  rw [List.cons_append, List.cons_append, receive_sync r hunts, receive_whole r low high whole, if_neg bad.symm]

/-! ### The statements -/

/-- Settles O3, by the receiver's examination of a whole frame and `takeFrame` as the effect of the frame's command. -/
theorem wireFrameIsTakenAsItsCommand : Obligations.WireFrameIsTakenAsItsCommand := by
  unfold Obligations.WireFrameIsTakenAsItsCommand
  refine ⟨?taken, fun _ _ _ => rfl, ?halves, rfl, ?shifts⟩
  case taken =>
    intro l f s size r hunts
    have arrived : receive l f.wire s = takeFrame l f s := by
      simpa using receive_wire (more := []) size r hunts
    rw [exec_interByteTimeout, exec_commandOfFrame,
      interByteTimeout_of_hunting (by rw [arrived]; exact takeFrame_hunts r), arrived]
  case halves =>
    intro h
    have high : (h >>> 8).truncate 8 = h.extractLsb' 8 8 := by simp [← BitVec.toNat_inj]
    have low : h.truncate 8 = h.extractLsb' 0 8 := by simp [← BitVec.toNat_inj]
    rw [halfBytes, high, low]
  case shifts =>
    intro bytes b
    rw [crc16, List.foldl_append]
    rfl

/-- Settles O5. What a silence does is settled by what the bytes before it led to, so each part is the examination of the
bytes at a hunting receiver. -/
theorem receiveErrorsAreCounted : Obligations.ReceiveErrorsAreCounted := by
  unfold Obligations.ReceiveErrorsAreCounted
  refine ⟨?length, ?lengthAgain, ?check, ?silence, ?incomplete, ?noSync⟩
  case length =>
    intro l length s r out
    have counted : lengthError l length s = countLengthError l s := by
      rw [lengthError, if_pos r, receive_badLength (by simpa using r) (setReceiver_receiver l .hunting s) out,
        receive_of_no_sync (countLengthError_hunts l _) (notSync_of_out out), countLengthError_setReceiver]
    exact congrArg _ counted
  case lengthAgain =>
    intro l length more s r hunts out
    have counted : countLengthError l s =
        s.withLink l { s.link l with lengthErrors := bump (s.link l).lengthErrors } := by
      rw [countLengthError, ← hunts]
    rw [exec_interByteTimeout, exec_interByteTimeout]
    exact congrArg _ (interByteTimeout_congr (counted ▸ receive_badLength r hunts out))
  case check =>
    rintro l length rest body check s counted r rfl low high whole bad rfl
    have examined (more : List Byte) :=
      receive_badCheck (l := l) (more := more) (s := setReceiver l .hunting s) (by simpa using r)
        (setReceiver_receiver l .hunting s) low high whole bad
    rw [countCrcError_setReceiver] at examined
    have errorEvent : exec (.crcError l (length :: rest) check) s =
        .next (receive l (length :: rest ++ halfBytes check) (countCrcError l s)) := by
      have at_end := examined []
      rw [List.append_nil, List.append_nil] at at_end
      rw [exec_crcError r, at_end]
    refine ⟨⟨_, errorEvent, ?goesOn⟩, ?onlyCounted, ?completed, ?hunting⟩
    case goesOn =>
      intro more
      rw [exec_interByteTimeout, exec_interByteTimeout]
      exact congrArg _ (interByteTimeout_congr (receive_append ..).symm)
    case onlyCounted =>
      intro clean clean'
      rw [errorEvent, receive_of_no_sync (countCrcError_hunts l s) (by
        rw [List.mem_append]
        exact fun mem => mem.elim clean clean')]
      rfl
    case completed =>
      intro before f spelled clean size
      have arrived := receive_wire (more := []) size (s := countCrcError l s) (by simpa using r) (countCrcError_hunts l s)
      rw [List.append_nil, receive_nil] at arrived
      rw [errorEvent, spelled, receive_append, receive_of_no_sync (countCrcError_hunts l s) clean, arrived,
        exec_commandOfFrame]
      rfl
    case hunting =>
      intro hunts more
      rw [exec_interByteTimeout, exec_interByteTimeout]
      exact congrArg _ (interByteTimeout_congr (receive_badCheck r hunts low high whole bad))
  case silence =>
    intro l bytes age s r held
    have same : receive l [] s = setReceiver l (.assembling bytes age) s := by
      rw [receive_nil, setReceiver_of_same held]
    rw [exec_interByteTimeout, interByteTimeout_of_assembling same r]
    rfl
  case incomplete =>
    intro l length rest s r hunts low high short
    have held : receive l (syncByte :: length :: rest) s = setReceiver l (.assembling (length :: rest) 0) s := by
      rw [receive_sync r hunts]
      simpa using receive_incomplete (l := l) (more := []) r low high short
    rw [exec_interByteTimeout]
    exact congrArg _ (interByteTimeout_of_assembling held r)
  case noSync =>
    intro l bytes s hunts clean
    have same := receive_of_no_sync (l := l) hunts clean
    rw [exec_interByteTimeout, interByteTimeout_of_hunting (by rw [same]; exact hunts), same]

end Sys2Proof.Machine
end

section
/-! SUPPORT. The requests of chapter 10 answered by the bytes of their tables, the output queues, the attention causes, and the time base. -/

namespace Sys2Proof.Machine

/-! ### A reply handed over after its block's effect -/

/-- A request that its block replies to now: the block's effect, and then the reply (R166, log entry 10). -/
theorem next_answer {l : Link} {kind tag : Byte} {body : State → State × Option (List Byte)} {s t : State}
    {payload : List Byte} (h : Dispatches l s) (b : body (setReceiver l .hunting s) = (t, some payload)) :
    (.next (answer l kind tag body s) : Host.Outcome State Fault Refusal) =
      .next (sendFrame l ⟨kind + 0x80, tag, payload⟩ t) :=
  congrArg _ (answer_of_reply h.1 h.2 b)

/-- A request that its block does not reply to now: the block's effect alone. -/
theorem next_deferred {l : Link} {kind tag : Byte} {body : State → State × Option (List Byte)} {s t : State}
    (h : Dispatches l s) (b : body (setReceiver l .hunting s) = (t, none)) :
    (.next (answer l kind tag body s) : Host.Outcome State Fault Refusal) = .next t :=
  congrArg _ (answer_of_deferred h.1 h.2 b)

/-- A receiver set in a state of which another part was replaced is set before or after. -/
theorem setReceiver_withCauses (l : Link) (r : Receiver) (x : Half) (s : State) :
    setReceiver l r (s.withCauses x) = (setReceiver l r s).withCauses x := by
  cases l <;> rfl

theorem setReceiver_withStore (l : Link) (r : Receiver) (x : Store) (s : State) :
    setReceiver l r (s.withStore x) = (setReceiver l r s).withStore x := by
  cases l <;> rfl

theorem setReceiver_withTimeBase (l : Link) (r : Receiver) (x : Full) (s : State) :
    setReceiver l r (s.withTimeBase x) = (setReceiver l r s).withTimeBase x := by
  cases l <;> rfl

theorem setReceiver_clearCounters (l : Link) (r : Receiver) (s : State) :
    setReceiver l r (clearCounters s) = clearCounters (setReceiver l r s) := by
  cases l <;> rfl

theorem counterBytes_setReceiver (l : Link) (r : Receiver) (s : State) :
    counterBytes (setReceiver l r s).host = counterBytes s.host ∧
      counterBytes (setReceiver l r s).service = counterBytes s.service := by
  cases l <;> exact ⟨rfl, rfl⟩

/-! ### Output queues (R168) and Reset Supervisor (R172) -/

theorem exec_frameSent (l : Link) (s : State) : exec (.frameSent l) s = .next (frameSent l s) := rfl

/-- A reset takes of the links their counters alone, so what a frame left in a queue does not matter to it. -/
theorem beginReset_withOutput (l : Link) (frames : List Frame) (s : State) :
    beginReset .link (s.withLink l { s.link l with output := frames }) = beginReset .link s := by
  cases l <;> rfl

theorem beginReset_setReceiver (l : Link) (r : Receiver) (s : State) :
    beginReset .link (setReceiver l r s) = beginReset .link s := by
  cases l <;> rfl

theorem beginReset_withResetReply (x : Option Link) (s : State) :
    beginReset .link (s.withResetReply x) = beginReset .link s := rfl

theorem sendFrame_of_room {l : Link} {f : Frame} {s : State} (room : (s.link l).output.length < 4) :
    sendFrame l f s = s.withLink l { s.link l with output := (s.link l).output ++ [f] } :=
  if_pos room

theorem sendFrame_of_full {l : Link} {f : Frame} {s : State} (full : 4 ≤ (s.link l).output.length) :
    sendFrame l f s = s.withLink l { s.link l with discarded := bump (s.link l).discarded } :=
  if_neg (Nat.not_lt.2 full)

theorem setReceiver_withResetReply_output (l : Link) (r : Receiver) (x : Option Link) (s : State) :
    (((setReceiver l r s).withResetReply x).link l).output = (s.link l).output := by
  cases l <;> rfl

/-- Settles O9. -/
theorem framesLeaveInOrderAndAResetMayFollow : Obligations.FramesLeaveInOrderAndAResetMayFollow := by
  unfold Obligations.FramesLeaveInOrderAndAResetMayFollow
  refine ⟨⟨fun _ _ _ => sendFrame_of_room, fun _ _ _ => sendFrame_of_full, bump_eq, ?leaves, ?empty⟩, ?handed, ?discarded,
    ?left, ?linkReset⟩
  case leaves =>
    intro l f rest s queued other
    rw [exec_frameSent, frameSent, queued]
    simp [other]
  case empty =>
    intro l s queued
    rw [exec_frameSent, frameSent, queued]
  case handed =>
    intro l tag s dispatches room
    have kept : ((setReceiver l .hunting s).link l).output.length < 4 := by
      rw [setReceiver_link_output]
      exact room
    refine next_deferred dispatches ?_
    rw [resetSupervisorBody, if_pos kept, sendReply, sendFrame_of_room (by
      rw [setReceiver_withResetReply_output]
      exact room)]
    cases l <;> rfl
  case discarded =>
    intro l tag s dispatches full
    have kept : ¬ ((setReceiver l .hunting s).link l).output.length < 4 := by
      rw [setReceiver_link_output]
      omega
    refine next_deferred dispatches ?_
    rw [resetSupervisorBody, if_neg kept, sendReply, sendFrame_of_full (by
      rw [setReceiver_withResetReply_output]
      exact full)]
    cases l <;> rfl
  case left =>
    intro l tag rest s armed queued
    rw [exec_frameSent, frameSent, queued]
    simp [armed, isResetReply, statusByte, beginReset_withOutput]
  case linkReset =>
    intro l s armed
    exact congrArg _ (if_pos (by rw [armed]; rfl))

/-! ### Identify, Read Sensors, Get Status, Get Link Counters -/

theorem identifyReply_setReceiver (l : Link) (r : Receiver) (s : State) :
    identifyReply l (setReceiver l r s) = identifyReply l s := by
  cases l <;> rfl

theorem sensorsReply_setReceiver (l : Link) (r : Receiver) (s : State) :
    sensorsReply (setReceiver l r s) = sensorsReply s := by
  cases l <;> rfl

theorem statusReply_setReceiver (l : Link) (r : Receiver) (s : State) :
    statusReply (setReceiver l r s) = statusReply s := by
  cases l <;> rfl

/-- The bytes of a channel in the reply of Read Sensors (R16). -/
theorem channelBlock_eq (r : ChannelRecord) :
    channelBlock r =
      ([match r.reason with
        | .valid => 0
        | .disabled => 1
        | .noData => 2
        | .openOrShort => 3
        | .converterFault => 4] : List Byte) ++
        (match r.raw with
          | some c => halfBytes (BitVec.ofNat 16 c)
          | none => [0xFF, 0xFF]) ++
        (match r.filtered with
          | some c => halfBytes (BitVec.ofNat 16 c)
          | none => [0xFF, 0xFF]) ++
        match r.temperature with
        | some t => halfBytes (BitVec.ofInt 16 t)
        | none => [0x80, 0x00] := by
  obtain ⟨raw, filtered, temperature, reason, settled⟩ := r
  cases reason <;> cases raw <;> cases filtered <;> cases temperature <;> rfl

/-- Settles O10. -/
theorem identifyAndReadSensorsReply : Obligations.IdentifyAndReadSensorsReply := by
  unfold Obligations.IdentifyAndReadSensorsReply
  intro l tag s dispatches
  constructor
  · refine (next_answer dispatches (payload := identifyReply l (setReceiver l .hunting s)) rfl).trans ?_
    rw [identifyReply_setReceiver]
    unfold identifyReply
    cases l <;> cases s.lastReset <;> rfl
  · refine (next_answer dispatches (payload := sensorsReply (setReceiver l .hunting s)) rfl).trans ?_
    rw [sensorsReply_setReceiver]
    unfold sensorsReply
    rw [funext channelBlock_eq]
    cases s.meas.refPtr <;> rfl

/-- Settles O12. -/
theorem linkCountersAreReadAndCleared : Obligations.LinkCountersAreReadAndCleared := by
  unfold Obligations.LinkCountersAreReadAndCleared
  intro l tag s dispatches
  have host := (counterBytes_setReceiver l .hunting s).1
  have service := (counterBytes_setReceiver l .hunting s).2
  refine ⟨?kept, ?cleared, ?refused, fun _ => rfl⟩
  case kept =>
    refine next_answer (t := setReceiver l .hunting s) dispatches ?_
    rw [getCountersBody, host, service]
    rfl
  case cleared =>
    refine (next_answer (t := clearCounters (setReceiver l .hunting s)) dispatches ?_).trans
      (by rw [← setReceiver_clearCounters]; rfl)
    rw [getCountersBody, host, service]
    rfl
  case refused =>
    intro option high
    have nonzero : option ≠ 0 := by rintro rfl; simp at high
    have other : option ≠ 1 := by rintro rfl; simp at high
    refine next_answer dispatches ?_
    rw [getCountersBody, if_neg nonzero, if_neg other]
    rfl

end Sys2Proof.Machine
end

section
/-! SUPPORT. The status (R170), the attention causes (R173 to R175), the append (R157) and the time base (R152, R153). -/

namespace Sys2Proof.Machine

/-! ### Get Status (Table 10-5) -/

theorem zones_toList (v : Vector ZoneState 4) : v.toList = [v[0], v[1], v[2], v[3]] := by
  obtain ⟨⟨l⟩, size⟩ := v
  obtain ⟨a, b, c, d, rfl⟩ := List.length_eq_four.1 size
  rfl

/-- The status with the bytes of its warning and its zones side by side, so that each field stands at a known place. -/
theorem statusReply_spelled (s : State) : ∃ a b c d e f g : Byte, warningStatus s = [a, b, c, d, e, f, g] ∧
    statusReply s = 0x00 :: fourBytes s.timeBase ++ hostStatus s ++ [a, b, c, d, e, f, g] ++
      [flagByte s.thermal.startPermitted, flagByte s.thermal.tripped, flagByte s.meas.fault] ++
      (zoneStatus s.zones[0] ++ (zoneStatus s.zones[1] ++ (zoneStatus s.zones[2] ++ (zoneStatus s.zones[3] ++ [])))) ++
      climateStatus s := by
  obtain ⟨a, b, c, d, e, f, g, spelled⟩ : ∃ a b c d e f g : Byte, warningStatus s = [a, b, c, d, e, f, g] := by
    unfold warningStatus
    split <;> exact ⟨_, _, _, _, _, _, _, rfl⟩
  refine ⟨a, b, c, d, e, f, g, spelled, ?_⟩
  rw [statusReply, zones_toList, spelled]
  rfl

/-- Three flags of one byte, by their weights 1, 2 and 4. -/
theorem flagByte_weights (a b c : Bool) :
    flagByte a ||| (flagByte b <<< 1) ||| (flagByte c <<< 2) =
      oneByte ((if a then 1 else 0) + (if b then 2 else 0) + if c then 4 else 0) := by
  cases a <;> cases b <;> cases c <;> rfl

theorem zoneStatus_eq (z : ZoneState) :
    zoneStatus z = twoBytes z.demandDuty ++ twoBytes z.grantedDuty ++
      [oneByte z.priority,
        match z.gate with
        | .blocking => 0
        | .counting => 1
        | .released => 2] ++
      twoBytes (z.gateTimer / 1000) := by
  unfold zoneStatus
  cases z.gate <;> rfl

theorem warningStatus_of_none {s : State} (none_pending : s.seq.warning = none) :
    warningStatus s = [0, 0, 0, 0, 0, 0, 0] := by
  rw [warningStatus, none_pending]

theorem warningStatus_of_some {s : State} {w : Warning} (pending : s.seq.warning = some w) :
    warningStatus s =
      ([1,
        match w.cause with
        | .checkinTimeout => 0
        | .powerFault => 1
        | .thermal => 2,
        match w.action with
        | .warm => 0
        | .cold _ => 1
        | .off => 2] : List Byte) ++
        twoBytes ((graceLeft s + 999) / 1000) ++ [oneByte w.defersLeft, flagByte w.deferPermitted] := by
  rw [warningStatus, pending]
  obtain ⟨cause, action, defersLeft, deferPermitted⟩ := w
  cases cause <;> cases action <;> rfl

/-- Settles O11, with every field read off the status spelled out byte by byte. -/
theorem statusReplyHasSeventyBytes : Obligations.StatusReplyHasSeventyBytes := by
  unfold Obligations.StatusReplyHasSeventyBytes
  refine ⟨?reply, fun st => by cases st <;> rfl⟩
  intro l tag s dispatches
  obtain ⟨a, b, c, d, e, f, g, warning, spelled⟩ := statusReply_spelled s
  refine ⟨statusReply s, ?sent, statusReply_length s, ?head, ?supervisor, ?ladder, ?flips, ?noWarning, ?someWarning, ?flags, ?zones,
    ?fan, ?filter, ?keys, ?causes⟩
  case sent =>
    refine next_answer (t := setReceiver l .hunting s) dispatches ?_
    rw [getStatusBody, statusReply_setReceiver]
  case supervisor =>
    rw [spelled, ← flagByte_weights]
    rfl
  case noWarning =>
    intro none_pending
    rw [← warningStatus_of_none none_pending, warning, spelled]
    rfl
  case someWarning =>
    rintro w left pending rfl
    refine Eq.trans ?_ (warning.symm.trans (warningStatus_of_some pending))
    rw [spelled]
    rfl
  case zones =>
    intro z
    refine Eq.trans ?_ (zoneStatus_eq s.zones[z])
    rw [spelled]
    fin_cases z <;> rfl
  all_goals rw [spelled]; rfl

/-! ### Attention causes (R173 to R175) -/

/-- A cause set that names no weight above 512 has a high byte below 4. -/
theorem causeSetStatus_append (a b : Byte) :
    statusByte (causeSetStatus (a ++ b)) = if a.toNat < 4 then 0x00 else 0x01 := by
  have parts : (a ++ b) &&& ~~~causeWeights = (a &&& 0xFC) ++ (b &&& (0 : Byte)) := by
    rw [show ~~~causeWeights = (0xFC : Byte) ++ (0x00 : Byte) from rfl, BitVec.and_append]
  rw [show b &&& (0 : Byte) = 0 by simp] at parts
  have low : (a &&& 0xFC) ++ (0 : Byte) = (0 : Half) ↔ a.toNat < 4 := by
    clear parts
    revert a
    decide
  rw [causeSetStatus, parts]
  by_cases h : a.toNat < 4
  · rw [if_pos (low.2 h), if_pos h]; rfl
  · rw [if_neg (fun e => h (low.1 e)), if_neg h]; rfl

theorem levelWeights_getLsbD {n : Nat} (h : n < 16) : levelWeights.getLsbD n = decide (n < 3) := by
  revert n
  decide

theorem causeWeights_getLsbD {n : Nat} (h : n < 16) : causeWeights.getLsbD n = decide (n < 10) := by
  revert n
  decide

/-- Every position below ten is some cause's (Table 10-6). -/
theorem exists_causePosition {n : Nat} (h : n < 10) : ∃ c : Cause, causePosition c = n := by
  have all : ∀ n < 10,
      ∃ c ∈ ([.keys, .keysHalf, .keysFull, .restartPending, .thermal, .fan, .filter, .converter, .log, .settings] :
        List Cause), causePosition c = n := by decide
  obtain ⟨c, -, position⟩ := all n h
  exact ⟨c, position⟩

theorem causePosition_lt (c : Cause) : causePosition c < 10 := by
  cases c <;> decide

/-- ATTN_N follows the causes both pending and enabled, for a pending set of causes only (R173). -/
theorem attnAsserted_iff {s : State} (known : s.causes &&& 0xFC00 = 0) :
    attnAsserted s = true ↔ ∃ c : Cause, holdsCause s.causes c = true ∧ holdsCause s.settings.mask c = true := by
  rw [attnAsserted, decide_eq_true_iff]
  constructor
  · intro some_bit
    by_contra! none_shared
    refine some_bit (BitVec.eq_of_getLsbD_eq fun n hn => ?_)
    by_cases low : n < 10
    · obtain ⟨c, rfl⟩ := exists_causePosition low
      cases pending : s.causes.getLsbD (causePosition c)
      · simp [pending]
      · simpa [pending, holdsCause] using none_shared c pending
    · have above : (s.causes &&& 0xFC00).getLsbD n = false := by rw [known]; simp
      have weight : ((0xFC00 : Half)).getLsbD n = decide (10 ≤ n) := by
        clear known above some_bit none_shared low
        revert n
        decide
      rw [BitVec.getLsbD_and, weight, decide_eq_true (Nat.not_lt.1 low), Bool.and_true] at above
      simp [above]
  · rintro ⟨c, pending, enabled⟩ none_shared
    have bit : (s.causes &&& s.settings.mask).getLsbD (causePosition c) = true := by
      rw [BitVec.getLsbD_and, show s.causes.getLsbD (causePosition c) = true from pending,
        show s.settings.mask.getLsbD (causePosition c) = true from enabled]
      rfl
    rw [none_shared] at bit
    simp at bit

/-- Settles O13. -/
theorem attentionIsRaisedReadAndCleared : Obligations.AttentionIsRaisedReadAndCleared := by
  unfold Obligations.AttentionIsRaisedReadAndCleared
  refine ⟨⟨?pending, ?silent, ?announced, ?position, fun s => attnAsserted_iff⟩, ?requests⟩
  case pending =>
    intro c s pending
    rw [raise, if_pos pending]
  case silent =>
    intro c s fresh masked
    rw [raise, if_neg (by simp [fresh]), if_neg (by simp [masked])]
    rfl
  case announced =>
    intro c s fresh enabled
    rw [raise, if_neg (by simp [fresh]), if_pos enabled]
    rfl
  case position =>
    intro c set
    cases c <;> exact ⟨rfl, rfl, rfl⟩
  case requests =>
    intro l tag a b s dispatches
    refine ⟨?get, ⟨clearLatched s.causes (a ++ b), ?latched, ?clear⟩, (a ++ b) &&& causeWeights, ?known, ?replace⟩
    case get =>
      refine next_answer (t := setReceiver l .hunting s) dispatches ?_
      cases l <;> rfl
    case latched =>
      intro n hn
      have bound : n < 16 := hn
      simp only [clearLatched, BitVec.getLsbD_and, BitVec.getLsbD_or, BitVec.getLsbD_not, levelWeights_getLsbD bound,
        decide_eq_true bound, Bool.true_and, Bool.or_comm]
    case clear =>
      rw [← causeSetStatus_append a b]
      refine next_answer dispatches ?_
      cases l <;> rfl
    case known =>
      intro n hn
      rw [BitVec.getLsbD_and, causeWeights_getLsbD hn, Bool.and_comm]
    case replace =>
      rw [← causeSetStatus_append a b]
      refine next_answer dispatches ?_
      cases l <;> rfl

/-! ### The append (R157) and the time base (R152, R153) -/

theorem reading_eq (s : State) (c : Channel) :
    reading s c = if s.meas.channels[c].reason = .valid then s.meas.channels[c].temperature else none := by
  unfold reading
  split
  next valid => rw [if_pos valid]
  next other => rw [if_neg other]

/-- Settles O14. -/
theorem recordIsAppendedWithItsStamp : Obligations.RecordIsAppendedWithItsStamp := by
  unfold Obligations.RecordIsAppendedWithItsStamp
  intro kind detail s
  refine ⟨stampRecord kind detail s, ?_, ?_⟩
  · rw [stampRecord, reading_eq]
  · rw [List.drop_one]
    rfl

/-- Settles O15. -/
theorem timeBaseCountsAndIsSet : Obligations.TimeBaseCountsAndIsSet := by
  unfold Obligations.TimeBaseCountsAndIsSet
  refine ⟨?tick, ?setTime⟩
  case tick =>
    intro s
    refine ⟨timeBaseTick s, rfl, fun running => if_neg running, fun held => if_pos held, rfl, fun _ => rfl, rfl, ?position,
      ?chord, rfl, rfl, ?zone, ?frame⟩
    case position =>
      intro p
      simp only [timeBaseTick, tickKeypad, mapEach_getElem]
    case chord =>
      intro i
      simp only [timeBaseTick, mapEach_getElem]
    case zone =>
      intro z
      have ticked : (timeBaseTick s).zones[z] = tickZone s.zones[z] := mapEach_getElem _ _ z
      rw [ticked]
      rfl
    case frame =>
      have receiver_only (x : LinkState) : tickLink x = { x with receiver := (tickLink x).receiver } := by
        unfold tickLink
        split <;> rfl
      have host := receiver_only s.host
      have service := receiver_only s.service
      unfold timeBaseTick tickKeypad
      simp only [← host, ← service]
  case setTime =>
    intro l tag a b c d s dispatches
    refine next_answer dispatches ?_
    cases l <;> rfl

end Sys2Proof.Machine
end

section
/-! SUPPORT. Reading the log (R159, R160): where a sequence number stands in an unbroken run, and what the reply holds. -/

namespace Sys2Proof.Machine

/-! ### Numbers along a run (R157) -/

theorem followingSeq_toNat {q : Full} (h : q ≠ 0) : (followingSeq q).toNat = q.toNat % 4294967295 + 1 := by
  have positive : q.toNat ≠ 0 := fun e => h (BitVec.eq_of_toNat_eq e)
  unfold followingSeq
  split
  next last => rw [last]; rfl
  next other =>
    have below : q.toNat ≠ 4294967295 := fun e => other (BitVec.eq_of_toNat_eq e)
    rw [BitVec.toNat_add]
    change (q.toNat + 1) % 4294967296 = _
    omega

/-- The numbers of a run count on from its first in the cycle of 1 to 4 294 967 295, up to the next number. -/
theorem runsOn_seq {first next : Full} {ring : List LogRecord} (runs : runsOn first next ring = true) (h : first ≠ 0) :
    (∀ (i : Nat) (r : LogRecord), ring[i]? = some r → r.seq.toNat = (first.toNat - 1 + i) % 4294967295 + 1) ∧
      next.toNat = (first.toNat - 1 + ring.length) % 4294967295 + 1 := by
  have positive : first.toNat ≠ 0 := fun e => h (BitVec.eq_of_toNat_eq e)
  induction ring generalizing first with
  | nil =>
    have same : first = next := of_decide_eq_true runs
    subst same
    refine ⟨fun i r at_i => by simp at at_i, ?_⟩
    have size := first.isLt
    rw [List.length_nil]
    omega
  | cons a rest ih =>
    obtain ⟨numbered, onward⟩ := Bool.and_eq_true_iff.1 runs
    obtain rfl : a.seq = first := of_decide_eq_true numbered
    have second := followingSeq_toNat h
    obtain ⟨numbers, last⟩ := ih onward (followingSeq_ne_zero _) (by omega)
    have size := a.seq.isLt
    refine ⟨fun i r at_i => ?_, ?_⟩
    · cases i with
      | zero =>
        obtain rfl : a = r := by simpa using at_i
        omega
      | succ i =>
        have number := numbers i r (by simpa using at_i)
        omega
    · rw [List.length_cons]
      omega

/-- The first number of a run, and the numbers after it. -/
theorem LogRuns.seq {log : EventLog} (h : LogRuns log) {oldest : LogRecord} (first : log.ring.head? = some oldest) :
    (∀ (i : Nat) (r : LogRecord), log.ring[i]? = some r →
      r.seq.toNat = (oldest.seq.toNat - 1 + i) % 4294967295 + 1) ∧
      log.nextSeq.toNat = (oldest.seq.toNat - 1 + log.ring.length) % 4294967295 + 1 ∧ oldest.seq.toNat ≠ 0 := by
  obtain ⟨-, run, -, numbers, -⟩ := h
  obtain ⟨rest, spelled⟩ := List.head?_eq_some_iff.1 first
  have nonzero : oldest.seq ≠ 0 := numbers oldest (by rw [spelled]; exact List.mem_cons_self ..)
  rw [consecutive, spelled] at run
  rw [spelled]
  obtain ⟨at_each, next⟩ := runsOn_seq run nonzero
  exact ⟨at_each, next, fun e => nonzero (BitVec.eq_of_toNat_eq e)⟩

/-! ### The records from a number onward (R160) -/

theorem oldestSeq_of_head? {log : EventLog} {oldest : LogRecord} (first : log.ring.head? = some oldest) :
    oldestSeq log = oldest.seq := by
  rw [oldestSeq, first]

theorem newestSeq_of_getLast? {log : EventLog} {newest : LogRecord} (last : log.ring.getLast? = some newest) :
    newestSeq log = newest.seq := by
  rw [newestSeq, last]

/-- A number that no record has: the whole ring when it lies below the oldest one, and nothing else. -/
theorem recordsFrom_of_absent {seq : Full} {log : EventLog} (absent : ∀ r ∈ log.ring, r.seq ≠ seq) :
    recordsFrom seq log = if belowOldest log.wrapped seq.toNat (oldestSeq log).toNat then log.ring else [] := by
  have none_found : (log.ring.findIdx? fun r => r.seq = seq) = none := by
    rw [List.findIdx?_eq_none_iff]
    intro r mem
    exact decide_eq_false (absent r mem)
  rw [recordsFrom, none_found]

/-- A number that a record has: that record and the ones after it. -/
theorem recordsFrom_of_held {log : EventLog} (h : LogRuns log) {i : Nat} {r : LogRecord} (at_i : log.ring[i]? = some r) :
    recordsFrom r.seq log = log.ring.drop i := by
  have isSome : (log.ring.findIdx? fun x => x.seq = r.seq).isSome := by
    rw [List.findIdx?_isSome, List.any_eq_true]
    exact ⟨r, List.mem_of_getElem? at_i, decide_eq_true rfl⟩
  obtain ⟨j, found⟩ := Option.isSome_iff_exists.1 isSome
  obtain ⟨inside, same, -⟩ := List.findIdx?_eq_some_iff_getElem.1 found
  have at_j : log.ring[j]? = some log.ring[j] := List.getElem?_eq_getElem inside
  obtain ⟨oldest, first⟩ : ∃ oldest, log.ring.head? = some oldest :=
    ⟨_, List.head?_eq_some_head (List.ne_nil_of_mem (List.mem_of_getElem? at_i))⟩
  obtain ⟨numbers, -, -⟩ := h.seq first
  have number_i := numbers i r at_i
  have number_j := numbers j _ at_j
  rw [of_decide_eq_true same] at number_j
  obtain ⟨few, -⟩ := h
  obtain ⟨inside_i, -⟩ := List.getElem?_eq_some_iff.1 at_i
  obtain rfl : i = j := by omega
  rw [recordsFrom, found]

/-- Of records numbered from f on without a gap, those at or above a number are a tail of them. -/
theorem filter_of_counting {ring : List LogRecord} {f : Nat} (start : Nat)
    (counts : ∀ (i : Nat) (r : LogRecord), ring[i]? = some r → r.seq.toNat = f + i) :
    (ring.filter fun r => start ≤ r.seq.toNat) = ring.drop (start - f) := by
  induction ring generalizing f with
  | nil => simp
  | cons a rest ih =>
    have head : a.seq.toNat = f := counts 0 a rfl
    have tail := ih (f := f + 1) fun i r at_i => by
      have number := counts (i + 1) r at_i
      omega
    by_cases low : start ≤ f
    · rw [List.filter_cons_of_pos (by simp [head, low]), tail]
      simp [show start - (f + 1) = 0 by omega, show start - f = 0 by omega]
    · rw [List.filter_cons_of_neg (by simp [head]; omega), tail, show start - f = start - (f + 1) + 1 by omega,
        List.drop_succ_cons]

/-- Before the first wrap the records from a number onward are those with that number or a higher one. -/
theorem recordsFrom_eq_filter {log : EventLog} (h : LogRuns log) (plain : log.wrapped = false)
    (numbered : log.ring.length < log.nextSeq.toNat) (seq : Full) :
    recordsFrom seq log = log.ring.filter fun r => seq.toNat ≤ r.seq.toNat := by
  cases first : log.ring.head? with
  | none =>
    have empty := List.head?_eq_none_iff.1 first
    rw [recordsFrom_of_absent (by simp [empty]), empty]
    simp
  | some oldest =>
    obtain ⟨numbers, next, positive⟩ := h.seq first
    have size := oldest.seq.isLt
    have counts : ∀ (i : Nat) (r : LogRecord), log.ring[i]? = some r → r.seq.toNat = oldest.seq.toNat + i := by
      intro i r at_i
      have number := numbers i r at_i
      obtain ⟨inside, -⟩ := List.getElem?_eq_some_iff.1 at_i
      omega
    rw [filter_of_counting seq.toNat counts]
    by_cases held : ∃ r ∈ log.ring, r.seq = seq
    · obtain ⟨r, mem, rfl⟩ := held
      obtain ⟨i, at_i⟩ := List.mem_iff_getElem?.1 mem
      rw [recordsFrom_of_held h at_i, counts i r at_i, Nat.add_sub_cancel_left]
    · have absent : ∀ r ∈ log.ring, r.seq ≠ seq := fun r mem e => held ⟨r, mem, e⟩
      have outside : seq.toNat < oldest.seq.toNat ∨ log.ring.length ≤ seq.toNat - oldest.seq.toNat := by
        by_contra! inside
        have at_i := List.getElem?_eq_getElem inside.2
        refine absent _ (List.mem_of_getElem? at_i) (BitVec.eq_of_toNat_eq ?_)
        rw [counts _ _ at_i]
        omega
      rw [recordsFrom_of_absent absent, oldestSeq_of_head? first, belowOldest, plain]
      have some_record : 0 < log.ring.length := List.length_pos_of_mem (List.mem_of_mem_head? first)
      rcases outside with below | above
      · rw [if_pos (by simp [below]), Nat.sub_eq_zero_of_le (Nat.le_of_lt below), List.drop_zero]
      · rw [if_neg (by simp; omega), List.drop_of_length_le above]

/-! ### The reply (R159) -/

theorem readLogBody_of_count {a b c d count : Byte} {s : State} (some_asked : 0 < count.toNat) :
    readLogBody [a, b, c, d, count] s =
      (s, some ((if 10 < count.toNat then 0x01 else 0x00) ::
        readLogReply ((recordsFrom (a ++ b ++ c ++ d) s.log).take (min count.toNat 10)) s.log)) := by
  rw [readLogBody, if_neg (by omega)]
  by_cases many : 10 < count.toNat
  · rw [if_pos many, if_pos many]
    rfl
  · rw [if_neg many, if_neg many]
    rfl

theorem exec_readLog_of_count {l : Link} {tag a b c d count : Byte} {s : State} (h : Dispatches l s)
    (some_asked : 0 < count.toNat) :
    exec (.readLog l tag [a, b, c, d, count]) s =
      .next (sendFrame l
        ⟨0x85, tag, (if 10 < count.toNat then 0x01 else 0x00) ::
          readLogReply ((recordsFrom (a ++ b ++ c ++ d) s.log).take (min count.toNat 10)) s.log⟩
        (setReceiver l .hunting s)) := by
  have taken := next_answer (kind := 0x05) (tag := tag) h
    (readLogBody_of_count (a := a) (b := b) (c := c) (d := d) (s := setReceiver l .hunting s) some_asked)
  have log : (setReceiver l .hunting s).log = s.log := by simp
  rw [log] at taken
  exact taken

/-- The bytes of a record after its number and its time (Table 10-8). -/
theorem recordBytes_drop (r : LogRecord) :
    (recordBytes r).drop 8 =
      [oneByte (recordCode r.kind), oneByte ((stateCodes r.state).1 * 16 + (stateCodes r.state).2),
        oneByte (r.rung * 16 + r.failures), flagByte r.slot] ++ temperatureBytes r.temperature ++ halfBytes r.detail := rfl

theorem recordCode_eq (kind : RecordKind) :
    recordCode kind =
      ([.powerOn, .supervisorReset, .hostStart, .bootConfirmed, .stable, .hostReboot, .checkinTimeout, .powerFault,
        .warningIssued, .warningDeferred, .warningCancelled, .restart, .powerOff, .slotFlip, .lockout,
        .lockoutReleased, .warmTimeout, .thermalTrip, .thermalResume, .fanFault, .fanOk, .filterService,
        .converterFault, .converterOk, .chord, .settingsDefaulted, .timeSet] : List RecordKind).idxOf kind + 1 := by
  cases kind <;> rfl

/-- Settles O16: before the wrap by `recordsFrom_eq_filter`, after it by whether a record has the number asked for. -/
theorem readLogReturnsTheRunAskedFor : Obligations.ReadLogReturnsTheRunAskedFor := by
  unfold Obligations.ReadLogReturnsTheRunAskedFor
  refine ⟨?plain, ?noneAsked, ?wrapped, ?ends, ?bytes⟩
  case plain =>
    intro l tag a b c d count s dispatches law plain numbered some_asked
    rw [exec_readLog_of_count dispatches some_asked,
      recordsFrom_eq_filter ((logLaw_iff s).1 law).1 plain numbered]
    rfl
  case noneAsked =>
    intro l tag a b c d s dispatches
    exact next_answer dispatches rfl
  case wrapped =>
    rintro l tag a b c d count start s dispatches law wrapped rfl some_asked
    have runs := ((logLaw_iff s).1 law).1
    refine ⟨recordsFrom (a ++ b ++ c ++ d) s.log, exec_readLog_of_count dispatches some_asked, ?held, ?zero, ?absent⟩
    case held =>
      intro i at_i
      obtain ⟨r, found, same⟩ := Option.map_eq_some_iff.1 at_i
      rw [← BitVec.eq_of_toNat_eq same]
      exact recordsFrom_of_held runs found
    case zero =>
      intro zero
      obtain ⟨-, -, -, numbers, -⟩ := runs
      have is_zero : a ++ b ++ c ++ d = (0 : Full) := BitVec.eq_of_toNat_eq zero
      rw [recordsFrom_of_absent (by rw [is_zero]; exact numbers), belowOldest, if_pos zero, if_pos rfl]
    case absent =>
      intro oldest first none_has nonzero
      rw [recordsFrom_of_absent fun r mem e => none_has r mem (congrArg BitVec.toNat e), oldestSeq_of_head? first,
        belowOldest, if_neg nonzero, wrapped, if_pos rfl]
      exact if_congr decide_eq_true_iff rfl rfl
  case ends =>
    intro first last log first_is last_is
    exact ⟨oldestSeq_of_head? first_is, newestSeq_of_getLast? last_is⟩
  case bytes =>
    intro r
    refine ⟨recordBytes_length r, rfl, ?_⟩
    rw [recordBytes_drop, recordCode_eq]
    obtain ⟨seq, time, kind, state, rung, failures, slot, temperature, detail⟩ := r
    cases temperature <;> rfl

end Sys2Proof.Machine
end

section
/-! SUPPORT. The stores (chapter 11): the groups read, a save and what outlives the supply, the factory words, and the boot-slot cell. -/

namespace Sys2Proof.Machine

/-! ### Read Settings (R178) -/

theorem groupContents_eq (code : Nat) (x : Settings) :
    code ≤ 10 → groupContents code x = some (match code with
      | 0 => ([0, 1, 2, 3] : List Zone).flatMap fun z => zonePayload z x.zones[z] ++ curvePayload z x.zones[z].curve
      | 1 => twoBytes x.offBudget ++ twoBytes x.onBudget
      | 2 => fanPayload x.fan
      | 3 => limitsPayload x.limits x.channelEnable
      | 4 => keypadPayload x.keypad
      | 5 => keyEntriesPayload 0 x.keys.toList
      | 6 => ([0, 1, 2, 3] : List ChordIndex).flatMap fun i => chordPayload i x.chords[i]
      | 7 => ladderPayload x.ladder
      | 8 => timingPayload x.timing
      | 9 => halfBytes x.mask
      | _ => [x.channelEnable]) := by
  intro known
  interval_cases code <;> rfl

theorem groupContents_above {code : Nat} (unknown : 10 < code) (x : Settings) : groupContents code x = none := by
  unfold groupContents
  split <;> first | omega | rfl

/-- The lengths that Table 11-1 gives for the groups. -/
theorem groupContents_length {code : Nat} {x : Settings} {contents : List Byte} (h : SettingsInRange x)
    (found : groupContents code x = some contents) :
    (code = 0 → 64 ≤ contents.length ∧ contents.length ≤ 176) ∧ (code = 1 → contents.length = 4) ∧
      (code = 2 → 10 ≤ contents.length ∧ contents.length ≤ 22) ∧ (code = 3 → contents.length = 21) ∧
      (code = 4 → 14 ≤ contents.length ∧ contents.length ≤ 26) ∧ (code = 5 → contents.length = 98) ∧
      (code = 6 → contents.length = 64) ∧ (code = 7 → 6 ≤ contents.length ∧ contents.length ≤ 31) ∧
      (code = 8 → contents.length = 20) ∧ (code = 9 → contents.length = 2) ∧ (code = 10 → contents.length = 1) := by
  obtain ⟨zones, -, -, ⟨-, -, fan⟩, -, ⟨-, -, -, -, -, -, -, keypad⟩, -, ladder, -, -⟩ := h
  have ofCode {n : Nat} (e : code = n) : groupContents n x = some contents := e ▸ found
  refine ⟨?zones, ?budgets, ?fan, ?limits, ?keypad, ?keys, ?chords, ?ladder, ?timing, ?mask, ?enable⟩
  case zones =>
    intro e
    obtain rfl := Option.some.inj (ofCode e)
    obtain ⟨zero, zeroMost, -⟩ := (zones 0).2
    obtain ⟨one, oneMost, -⟩ := (zones 1).2
    obtain ⟨two, twoMost, -⟩ := (zones 2).2
    obtain ⟨three, threeMost, -⟩ := (zones 3).2
    have spelled : (zonesContents x).length = 48 + 4 * x.zones[(0 : Zone)].curve.length +
        4 * x.zones[(1 : Zone)].curve.length + 4 * x.zones[(2 : Zone)].curve.length +
        4 * x.zones[(3 : Zone)].curve.length := by
      rw [zonesContents, show List.finRange 4 = [0, 1, 2, 3] from rfl]
      simp only [List.flatMap_cons, List.flatMap_nil, List.length_append, zonePayload_length, curvePayload_length,
        List.length_nil]
      omega
    omega
  case budgets =>
    intro e
    obtain rfl := Option.some.inj (ofCode e)
    rfl
  case fan =>
    intro e
    obtain rfl := Option.some.inj (ofCode e)
    obtain ⟨some_point, few, -⟩ := fan
    rw [fanPayload_length]
    omega
  case limits =>
    intro e
    obtain rfl := Option.some.inj (ofCode e)
    rfl
  case keypad =>
    intro e
    obtain rfl := Option.some.inj (ofCode e)
    obtain ⟨some_point, few, -⟩ := keypad
    rw [keypadPayload_length]
    omega
  case keys =>
    intro e
    obtain rfl := Option.some.inj (ofCode e)
    rw [keyEntriesPayload_length, Vector.length_toList]
  case chords =>
    intro e
    obtain rfl := Option.some.inj (ofCode e)
    rfl
  case ladder =>
    intro e
    obtain rfl := Option.some.inj (ofCode e)
    obtain ⟨some_rung, few, -⟩ := ladder
    rw [ladderPayload_length]
    omega
  all_goals
    intro e
    obtain rfl := Option.some.inj (ofCode e)
    rfl

/-- Settles O17. -/
theorem readSettingsReturnsTheGroup : Obligations.ReadSettingsReturnsTheGroup := by
  unfold Obligations.ReadSettingsReturnsTheGroup
  intro l tag code s dispatches
  have same : (setReceiver l .hunting s).settings = s.settings := by simp
  refine ⟨?known, ?unknown⟩
  case known =>
    intro contents known spelled
    have found : groupContents code.toNat s.settings = some contents :=
      (groupContents_eq _ _ known).trans (congrArg some spelled.symm)
    refine ⟨next_answer (t := setReceiver l .hunting s) dispatches ?_, fun h => groupContents_length h found⟩
    rw [readSettingsBody, same, found]
    rfl
  case unknown =>
    intro unknown
    refine next_answer (t := setReceiver l .hunting s) dispatches ?_
    rw [readSettingsBody, same, groupContents_above unknown]
    rfl

/-! ### Save Settings (R179) and the load at a reset (R181) -/

theorem saveSettingsBody_of_free {l : Link} {tag : Byte} {s : State} (free : s.store.imageWrite = none) :
    saveSettingsBody l tag [] s =
      (setWaiting l true (s.withStore { s.store with imageWrite := some ⟨s.settings, some (l, tag)⟩ }), none) := by
  simp [saveSettingsBody, free]

theorem saveSettingsBody_of_writing {l : Link} {tag : Byte} {s : State} (writing : s.store.imageWrite.isSome = true) :
    saveSettingsBody l tag [] s = refuse .busy s :=
  if_pos writing

theorem saveComplete_of_writing {w : ImageWrite} {agrees : Bool} {s : State} (writing : s.store.imageWrite = some w) :
    saveComplete agrees s =
      saveReply w.reply agrees
        (s.withStore { s.store with image := ⟨w.snapshot, Config.designRevision, agrees⟩, imageWrite := none }) := by
  rw [saveComplete, writing]

theorem saveReply_store (reply : Option (Link × Byte)) (agrees : Bool) (s : State) :
    (saveReply reply agrees s).store = s.store := by
  rcases reply with _ | ⟨l, tag⟩
  · rfl
  · simp [saveReply, completeReply_eq]

/-- The image that a power-on reset leaves: one that was being written fails its check (R180). -/
theorem powerOnReset_image (s : State) :
    (powerOnReset s).store.image =
      if s.store.imageWrite.isSome then { s.store.image with checks := false } else s.store.image :=
  (restartStore_keeps s.freeIndex s.store).2.2.2.2.1

theorem storeBusy_powerOnReset (s : State) : storeBusy (powerOnReset s).store = false := by
  obtain ⟨save, word, cell, -⟩ := restartStore_keeps s.freeIndex s.store
  change storeBusy (restartStore s.freeIndex s.store) = false
  rw [storeBusy, save, word, cell]
  rfl

@[simp] theorem resetRecord_settings (kind : ResetKind) (s : State) : (resetRecord kind s).settings = s.settings := by
  cases kind <;> simp [resetRecord]

@[simp] theorem recordDefaulted_settings (bad : Bool) (s : State) : (recordDefaulted bad s).settings = s.settings := by
  cases bad <;> simp [recordDefaulted]

@[simp] theorem settleHost_settings (s : State) : (settleHost s).settings = s.settings := by
  unfold settleHost
  split
  · split <;> simp [adoptHost]
  · split <;> simp

theorem finishReset_settings (kind : ResetKind) (s : State) : (finishReset kind s).settings = loadedSettings kind s := by
  simp [finishReset, startBlocks]

/-- The end of a power-on reset loads the image when it passes its checks, and the defaults otherwise (R181). -/
theorem settings_after_powerOn {s u v : State} (reset : exec .powerOnReset s = .next u) (ended : exec .resetEnd u = .next v) :
    v.settings = if imageGood (powerOnReset s).store.image then (powerOnReset s).store.image.contents
      else Settings.defaults := by
  obtain rfl : powerOnReset s = u := Host.Outcome.next.inj reset
  obtain rfl : resetEnd (powerOnReset s) = v := Host.Outcome.next.inj ended
  have finished : resetEnd (powerOnReset s) = finishReset .powerOn (powerOnReset s) :=
    if_neg (by simp [storeBusy_powerOnReset])
  rw [finished, finishReset_settings]
  rfl

/-- Settles O18. -/
theorem savedSettingsOutliveThePower : Obligations.SavedSettingsOutliveThePower := by
  unfold Obligations.SavedSettingsOutliveThePower
  refine ⟨⟨?taken, ?busy, ?replied, ?dropped⟩, ?outlives⟩
  case taken =>
    intro l tag s dispatches free
    refine next_deferred dispatches ((saveSettingsBody_of_free (by simpa using free)).trans ?_)
    cases l <;> rfl
  case busy =>
    intro l tag s dispatches writing
    exact next_answer dispatches (saveSettingsBody_of_writing (by simpa using writing))
  case replied =>
    intro l tag saved agrees s writing
    refine congrArg _ ((saveComplete_of_writing writing).trans ?_)
    cases agrees <;> rfl
  case dropped =>
    intro saved agrees s writing
    exact congrArg _ (saveComplete_of_writing writing)
  case outlives =>
    intro saved reply agrees s t u v writing
    refine ⟨?completed, ?cut⟩
    case completed =>
      intro done reset ended
      obtain rfl : saveComplete agrees s = t := Host.Outcome.next.inj done
      rw [settings_after_powerOn reset ended, powerOnReset_image, saveComplete_of_writing writing, saveReply_store]
      cases agrees <;> rfl
    case cut =>
      intro reset ended
      rw [settings_after_powerOn reset ended, powerOnReset_image, writing]
      rfl

/-! ### Factory words (R183) -/

theorem readIndex_of_fin {n : Nat} (small : n ≤ 256) (i : Fin n) : readIndex n (oneByte i.val) = some i := by
  have same : (oneByte i.val).toNat = i.val := by
    have size := i.isLt
    rw [oneByte, BitVec.toNat_ofNat]
    omega
  rw [readIndex, dif_pos (by rw [same]; exact i.isLt)]
  simp [same]

theorem readIndex_above {n : Nat} {b : Byte} (above : n ≤ b.toNat) : readIndex n b = none :=
  dif_neg (Nat.not_lt.2 above)

theorem factoryWriteComplete_of_writing {w : WordWrite} {readback : Half} {s : State} (writing : s.store.wordWrite = some w) :
    factoryWriteComplete readback s =
      wordReply w readback
        (s.withStore { s.store with words := put s.store.words w.index readback, wordWrite := none }) := by
  rw [factoryWriteComplete, writing]

/-- Settles O19. -/
theorem factoryWordIsWrittenOnce : Obligations.FactoryWordIsWrittenOnce := by
  unfold Obligations.FactoryWordIsWrittenOnce
  refine ⟨?taken, ?refused, ?held, ?ended⟩
  case taken =>
    intro tag v1 v0 i s dispatches value blank
    refine next_deferred dispatches ?_
    simp only [programBody, readIndex_of_fin (show 32 ≤ 256 by decide), if_neg value]
    rw [if_neg (by simpa [setReceiver, State.withLink] using blank)]
    rfl
  case refused =>
    intro tag index v1 v0 s dispatches bad
    refine next_answer (t := setReceiver .service .hunting s) dispatches ?_
    unfold programBody
    dsimp only
    split
    next absent => rfl
    next i present =>
      rcases bad with high | blank
      · exact absurd present (by simp [readIndex_above (show 32 ≤ index.toNat from high)])
      · rw [if_pos blank]
        rfl
  case held =>
    intro tag v1 v0 i s dispatches value written
    refine next_answer (t := setReceiver .service .hunting s) dispatches ?_
    simp only [programBody, readIndex_of_fin (show 32 ≤ 256 by decide), if_neg value]
    rw [if_pos (by simpa [setReceiver, State.withLink] using written)]
    rfl
  case ended =>
    intro tag i value readback s writing
    exact congrArg _ (factoryWriteComplete_of_writing writing)

/-! ### The boot-slot cell (R99, R182) -/

/-- The copies by which of them is the newer: neither is valid, the first one, or the second one. -/
theorem cellCopies_cases (a b : CellCopy) :
    (a.valid = false ∧ b.valid = false) ∨
      (a.valid = true ∧ firstIsNewer a b = true ∧ (b.valid = false ∨ b.writeNumber ≠ a.writeNumber + 1)) ∨
      (b.valid = true ∧ firstIsNewer a b = false ∧ (a.valid = false ∨ b.writeNumber = a.writeNumber + 1)) := by
  unfold firstIsNewer
  generalize a.writeNumber + 1 = next
  cases a.valid <;> cases b.valid <;> by_cases number : b.writeNumber = next <;> simp [number]

/-- What tells the first copy as the newer one, and what the second. -/
theorem firstIsNewer_of_first {a b : CellCopy} (valid : a.valid = true)
    (newer : b.valid = false ∨ b.writeNumber ≠ a.writeNumber + 1) : firstIsNewer a b = true := by
  unfold firstIsNewer
  generalize a.writeNumber + 1 = next at newer ⊢
  rcases newer with other | number <;> simp [*]

theorem firstIsNewer_of_second {a b : CellCopy} (newer : a.valid = false ∨ b.valid = true ∧ b.writeNumber = a.writeNumber + 1) :
    firstIsNewer a b = false := by
  unfold firstIsNewer
  generalize a.writeNumber + 1 = next at newer ⊢
  rcases newer with other | ⟨valid, number⟩ <;> simp [*]

theorem nextCellWrite_toOlder (st : Store) :
    WriteToOlder st.copyA st.copyB st.slot st.flips (nextCellWrite st) := by
  refine ⟨?neither, ?first, ?second⟩
  case neither =>
    intro a b
    simp [nextCellWrite, a, b]
  case first =>
    intro a newer
    simp [nextCellWrite, a, firstIsNewer_of_first a newer]
  case second =>
    intro b newer
    have second : firstIsNewer st.copyA st.copyB = false :=
      firstIsNewer_of_second (newer.imp_right fun number => ⟨b, number⟩)
    simp [nextCellWrite, b, second]

theorem nextCellWrite_copy (st : Store) :
    (nextCellWrite st).copy.slot = st.slot ∧ (nextCellWrite st).copy.flips = st.flips ∧
      (nextCellWrite st).copy.valid = true := by
  unfold nextCellWrite
  split
  · exact ⟨rfl, rfl, rfl⟩
  · split <;> exact ⟨rfl, rfl, rfl⟩

/-- The store that a flip leaves: the new contents, and the write that begins or is queued (R99). -/
theorem flipSlot_store (s : State) :
    (flipSlot s).store = handToCell { s.store with slot := !s.store.slot, flips := bump s.store.flips } := by
  simp [flipSlot]

/-- What the hand-over to the cell leaves alone, and the write that it begins or queues (R182). -/
theorem handToCell_of_idle {st : Store} (idle : st.cellWrite = none) :
    handToCell st = { st with cellWrite := some (nextCellWrite st) } := by
  rw [handToCell, idle]

theorem handToCell_of_writing {st : Store} {w : CellWrite} (writing : st.cellWrite = some w) :
    handToCell st = { st with cellQueued := true } := by
  rw [handToCell, writing]

theorem flipSlot_log (s : State) :
    (flipSlot s).log =
      (appendLog .slotFlip (if s.store.slot then 0 else 1)
        (s.withStore { s.store with slot := !s.store.slot, flips := bump s.store.flips })).log := by
  unfold flipSlot
  cases s.store.slot <;> rfl

theorem flipSlot_contents (s : State) :
    (flipSlot s).store.slot = (!s.store.slot) ∧ (flipSlot s).store.flips = bump s.store.flips ∧
      (flipSlot s).ladder = s.ladder ∧ (flipSlot s).seq = s.seq := by
  rw [flipSlot_store]
  refine ⟨?_, ?_, by simp [flipSlot], by simp [flipSlot]⟩ <;> (unfold handToCell; split <;> rfl)

/-- A flip toggles the slot in the sense of R99 and R182. -/
theorem flipSlot_toggled (s : State) : SlotToggled s.log.nextSeq s (flipSlot s) := by
  obtain ⟨slot, flips, ladder, -⟩ := flipSlot_contents s
  refine ⟨⟨slot, flips, ?idle, ?writing, ?rest⟩, ?record⟩
  case idle =>
    intro idle
    have begun : (flipSlot s).store = _ := (flipSlot_store s).trans (handToCell_of_idle idle)
    rw [begun]
    exact ⟨rfl, _, rfl, nextCellWrite_toOlder { s.store with slot := !s.store.slot, flips := bump s.store.flips }⟩
  case writing =>
    intro writing
    obtain ⟨w, writing⟩ := Option.isSome_iff_exists.1 writing
    have queued : (flipSlot s).store = _ := (flipSlot_store s).trans (handToCell_of_writing writing)
    rw [queued]
    exact ⟨rfl, rfl⟩
  case rest =>
    rw [flipSlot_store]
    unfold handToCell
    split <;> rfl
  case record =>
    rw [slot, ladder, flipSlot_log, appendLog_log]
    refine ⟨_, mem_addRecord _ _, rfl, rfl, ?_, rfl, rfl, rfl, rfl⟩
    cases s.store.slot <;> rfl

theorem powerOnReset_cell (s : State) :
    (powerOnReset s).store.slot = (readCell (spoilCell s.store)).slot ∧
      (powerOnReset s).store.flips = (readCell (spoilCell s.store)).flips := by
  obtain ⟨-, -, -, -, -, slot, flips, -⟩ := restartStore_keeps s.freeIndex s.store
  exact ⟨slot, flips⟩

theorem spoilCell_of_idle {st : Store} (idle : st.cellWrite = none) : spoilCell st = st := by
  rw [spoilCell, idle]

/-- What is read from a cell: nothing valid, the first copy, or the second one (R182). -/
theorem readCell_of_neither {st : Store} (a : st.copyA.valid = false) (b : st.copyB.valid = false) :
    (readCell st).slot = false ∧ (readCell st).flips = 0 := by
  simp [readCell, a, b]

theorem readCell_of_first {st : Store} (a : st.copyA.valid = true) (newer : firstIsNewer st.copyA st.copyB = true) :
    (readCell st).slot = st.copyA.slot ∧ (readCell st).flips = st.copyA.flips := by
  simp [readCell, a, newer]

theorem readCell_of_second {st : Store} (b : st.copyB.valid = true) (newer : firstIsNewer st.copyA st.copyB = false) :
    (readCell st).slot = st.copyB.slot ∧ (readCell st).flips = st.copyB.flips := by
  simp [readCell, b, newer]

/-- A cell whose write of new contents the supply interrupted reads as the cell did before that write (R182). -/
theorem readCell_of_interrupted {st : Store} (idle : st.cellWrite = none) (slot : Bool) (flips : Nat) :
    (readCell (spoilCell (handToCell { st with slot := slot, flips := flips }))).slot = (readCell st).slot ∧
      (readCell (spoilCell (handToCell { st with slot := slot, flips := flips }))).flips = (readCell st).flips := by
  rw [handToCell_of_idle (st := { st with slot := slot, flips := flips }) idle]
  rcases cellCopies_cases st.copyA st.copyB with ⟨a, b⟩ | ⟨a, newer, -⟩ | ⟨b, newer, -⟩
  · simp [nextCellWrite, spoilCell, readCell, a, b]
  · have write : nextCellWrite { st with slot := slot, flips := flips } =
        ⟨false, ⟨slot, flips, st.copyA.writeNumber + 1, true⟩⟩ := by simp [nextCellWrite, a, newer]
    rw [write]
    obtain ⟨slotBefore, flipsBefore⟩ := readCell_of_first a newer
    rw [slotBefore, flipsBefore]
    exact readCell_of_first a (firstIsNewer_of_first a (Or.inl rfl))
  · have write : nextCellWrite { st with slot := slot, flips := flips } =
        ⟨true, ⟨slot, flips, st.copyB.writeNumber + 1, true⟩⟩ := by simp [nextCellWrite, b, newer]
    rw [write]
    obtain ⟨slotBefore, flipsBefore⟩ := readCell_of_second b newer
    rw [slotBefore, flipsBefore]
    exact readCell_of_second b (firstIsNewer_of_second (Or.inl rfl))

theorem cellWriteComplete_of_writing {w : CellWrite} {s : State} (writing : s.store.cellWrite = some w) :
    cellWriteComplete s = s.withStore (beginQueuedWrite (endCellWrite w s.store)) := by
  rw [cellWriteComplete, writing]

/-- Settles O21. -/
theorem bootSlotCellSurvivesThePower : Obligations.BootSlotCellSurvivesThePower := by
  unfold Obligations.BootSlotCellSurvivesThePower
  refine ⟨?first, ?second, ?queued, ?idle, flipSlot_toggled, ?reads, ?interrupted⟩
  case first =>
    intro copy s writing alone
    refine congrArg _ ((cellWriteComplete_of_writing writing).trans ?_)
    rw [beginQueuedWrite, if_neg (by simp [endCellWrite, alone])]
    rfl
  case second =>
    intro copy s writing alone
    refine congrArg _ ((cellWriteComplete_of_writing writing).trans ?_)
    rw [beginQueuedWrite, if_neg (by simp [endCellWrite, alone])]
    rfl
  case queued =>
    intro w a b s writing queued first second
    have ended : endCellWrite w s.store = { s.store with copyA := a, copyB := b, cellWrite := none } := by
      rw [first, second, endCellWrite]
      cases w.toFirst <;> rfl
    obtain ⟨slot, flips, valid⟩ := nextCellWrite_copy (endCellWrite w s.store)
    have older := nextCellWrite_toOlder (endCellWrite w s.store)
    rw [ended] at slot flips valid older
    refine ⟨nextCellWrite { s.store with copyA := a, copyB := b, cellWrite := none }, older, slot, flips, valid, ?_⟩
    refine congrArg _ ((cellWriteComplete_of_writing writing).trans ?_)
    rw [ended, beginQueuedWrite, if_pos queued]
    rfl
  case idle =>
    intro s idle
    have kept : cellWriteComplete s = s := by rw [cellWriteComplete, idle]
    exact congrArg _ kept
  case reads =>
    intro s t idle reset
    obtain rfl : powerOnReset s = t := Host.Outcome.next.inj reset
    obtain ⟨slot, flips⟩ := powerOnReset_cell s
    rw [spoilCell_of_idle idle] at slot flips
    rw [slot, flips]
    exact ⟨readCell_of_neither, fun a newer => readCell_of_first a (firstIsNewer_of_first a newer),
      fun b newer => readCell_of_second b (firstIsNewer_of_second (newer.imp_right fun number => ⟨b, number⟩))⟩
  case interrupted =>
    intro s t u v idle before slotRead flipsRead flipped reset
    obtain rfl : powerOnReset s = v := Host.Outcome.next.inj before
    subst flipped
    obtain rfl : powerOnReset (flipSlot s) = u := Host.Outcome.next.inj reset
    obtain ⟨slot, flips, -⟩ := flipSlot_contents s
    obtain ⟨slotBefore, flipsBefore⟩ := powerOnReset_cell s
    rw [spoilCell_of_idle idle] at slotBefore flipsBefore
    obtain ⟨slotFound, flipsFound⟩ := powerOnReset_cell (flipSlot s)
    obtain ⟨sameSlot, sameFlips⟩ := readCell_of_interrupted idle (!s.store.slot) (bump s.store.flips)
    rw [flipSlot_store] at slotFound flipsFound
    exact ⟨slot, flips, slotFound.trans (sameSlot.trans (slotBefore.symm.trans slotRead)),
      flipsFound.trans (sameFlips.trans (flipsBefore.symm.trans flipsRead))⟩

end Sys2Proof.Machine
end

section
/-! SUPPORT. The start of a reset (R84, R161, R176), and the conversions (chapter 1). -/

namespace Sys2Proof.Machine

/-! ### The start of a reset (Tables 4-8, 8-8, 9-4, 10-10 and 11-4) -/

/-- A pin or link reset holds over what R84 and R161 say. -/
theorem beginReset_heldOver {kind : ResetKind} (h : kind ≠ .powerOn) (s : State) : HeldOver kind s (beginReset kind s) := by
  have cut (z : Zone) : (beginReset kind s).zones[z] = resetZone s.zones[z] := by
    simp only [beginReset, mapEach_getElem]
  have zones (z : Zone) : (beginReset kind s).zones[z].grantedDuty = 0 ∧ heaterOn (beginReset kind s) z = false := by
    rw [heaterOn, cut]
    exact ⟨rfl, rfl⟩
  cases kind with
  | powerOn => exact absurd rfl h
  | pin =>
    exact ⟨rfl, rfl, rfl, rfl, rfl, rfl, rfl, rfl, rfl, rfl, rfl, rfl, rfl, rfl, zones, (nextConversion_keeps _).1, rfl,
      (nextConversion_keeps _).2.2.2.2.2.1, rfl, rfl, rfl, rfl, rfl, rfl⟩
  | link =>
    exact ⟨rfl, rfl, rfl, rfl, rfl, rfl, rfl, rfl, rfl, rfl, rfl, rfl, rfl, rfl, zones, (nextConversion_keeps _).1, rfl,
      (nextConversion_keeps _).2.2.2.2.2.1, rfl, rfl, rfl, rfl, rfl, rfl⟩

theorem interruptWord_of_none {freeIndex : Nat} {st : Store} (free : st.wordWrite = none) : interruptWord freeIndex st = st := by
  rw [interruptWord, free]

theorem powerOnReset_words {s : State} (free : s.store.wordWrite = none) :
    (powerOnReset s).store.words = s.store.words := by
  obtain ⟨-, -, words, word⟩ := readCell_spoilCell_keeps s.store
  change (restartStore s.freeIndex s.store).words = s.store.words
  rw [restartStore, interruptWord_of_none]
  · exact words
  · exact word.trans free

/-- Settles O22. -/
theorem resetsBegin : Obligations.ResetsBegin := by
  unfold Obligations.ResetsBegin
  refine ⟨?powerOn, ?pin, ?link, ?frameSent⟩
  case powerOn =>
    intro s
    obtain ⟨save, word, cell, -⟩ := restartStore_keeps s.freeIndex s.store
    refine ⟨powerOnReset s, rfl, rfl, rfl, rfl, rfl, rfl, rfl, rfl, rfl, rfl, rfl, rfl, rfl, rfl, rfl, rfl, rfl, rfl, rfl,
      rfl, rfl, rfl, ?image, ?spoiled, powerOnReset_words, save, cell, word⟩
    case image =>
      intro free
      rw [powerOnReset_image, free]
      rfl
    case spoiled =>
      intro writing
      rw [powerOnReset_image, if_pos (Option.isSome_iff_ne_none.2 writing)]
  case pin =>
    intro s outside
    exact ⟨beginReset .pin s, congrArg _ (if_neg outside), beginReset_heldOver (by decide) s⟩
  case link =>
    intro s armed
    exact ⟨beginReset .link s, congrArg _ (if_pos armed), beginReset_heldOver (by decide) s⟩
  case frameSent =>
    intro l f rest s armed queued kind payload
    have begun : frameSent l s = beginReset .link s := by
      rw [frameSent, queued]
      simp [armed, isResetReply, kind, payload, statusByte, beginReset_withOutput]
    exact ⟨beginReset .link s, congrArg _ begun, beginReset_heldOver (by decide) s⟩

/-! ### The next conversion (R1) -/

theorem nextConversion_only (m : Measurement) :
    nextConversion m = { m with current := (nextConversion m).current, todo := (nextConversion m).todo } := by
  unfold nextConversion
  split
  · rfl
  · split <;> rfl

theorem nextConversion_of_oneShots {m : Measurement} (waiting : m.oneShots ≠ []) :
    (nextConversion m).current = some .oneShot ∧ (nextConversion m).todo = m.todo := by
  obtain ⟨r, rest, listed⟩ := List.exists_cons_of_ne_nil waiting
  rw [nextConversion, listed]
  exact ⟨rfl, rfl⟩

theorem nextConversion_of_round {m : Measurement} {c : Channel} {rest : List Channel} (free : m.oneShots = [])
    (next : m.todo = c :: rest) : (nextConversion m).current = some (.scan c) ∧ (nextConversion m).todo = rest := by
  rw [nextConversion, free, next]
  exact ⟨rfl, rfl⟩

theorem nextConversion_of_end {m : Measurement} (free : m.oneShots = []) (done : m.todo = []) :
    (nextConversion m).current = some .reference ∧ (nextConversion m).todo = [] := by
  simp [nextConversion, free, done]

/-! ### A scan conversion (R9 to R14) -/

theorem reading_iff (s : State) (c : Channel) (temperature : Int) :
    reading s c = some temperature ↔
      s.meas.channels[c].reason = .valid ∧ s.meas.channels[c].temperature = some temperature := by
  rw [reading_eq]
  split
  next valid => exact (and_iff_right valid).symm
  next other => exact ⟨fun absent => absurd absent (by simp), fun both => absurd both.1 other⟩

/-- The largest value of a list, counted from a start, is the start or a value in the list, and none is larger. -/
theorem foldl_max_spec (curve : List Point) (m : Nat) :
    (curve.foldl (fun m p => max m p.value) m = m ∨ ∃ p ∈ curve, curve.foldl (fun m p => max m p.value) m = p.value) ∧
      m ≤ curve.foldl (fun m p => max m p.value) m ∧
      ∀ p ∈ curve, p.value ≤ curve.foldl (fun m p => max m p.value) m := by
  induction curve generalizing m with
  | nil => simp
  | cons q rest ih =>
    obtain ⟨reached, above, largest⟩ := ih (max m q.value)
    rw [List.foldl_cons]
    refine ⟨?_, by omega, fun p mem => ?_⟩
    · rcases reached with same | ⟨p, mem, same⟩
      · rcases Nat.le_total m q.value with le | le
        · exact Or.inr ⟨q, List.mem_cons_self .., by omega⟩
        · exact Or.inl (by omega)
      · exact Or.inr ⟨p, List.mem_cons_of_mem _ mem, same⟩
    · rcases List.mem_cons.1 mem with rfl | inside
      · omega
      · exact largest p inside

/-- The largest value among a curve's points (R123). -/
theorem curveLargest_spec {curve : List Point} (some_point : curve ≠ []) :
    (∃ p ∈ curve, curveLargest curve = p.value) ∧ ∀ p ∈ curve, p.value ≤ curveLargest curve := by
  obtain ⟨reached, -, largest⟩ := foldl_max_spec curve 0
  refine ⟨?_, largest⟩
  rcases reached with zero | found
  · obtain ⟨p, rest, rfl⟩ := List.exists_cons_of_ne_nil some_point
    have small := largest p (List.mem_cons_self ..)
    exact ⟨p, List.mem_cons_self .., by unfold curveLargest; omega⟩
  · exact found

/-- The validity of a filtered code (R14). -/
theorem reasonOf_eq (f : Nat) : reasonOf f = if 8 ≤ f ∧ f ≤ 1015 then .valid else .openOrShort := by
  unfold reasonOf
  split <;> split <;> first | rfl | omega

/-- A channel record after a scan conversion in OK (R10 to R14). -/
theorem recordAfterScan_eq (cal : Int × Nat) (code : Nat) (r : ChannelRecord) :
    recordAfterScan cal code r =
      { raw := some code
        accumulator := some (filterStep r.accumulator code)
        filtered := some ((filterStep r.accumulator code + 2) / 4)
        temperature :=
          if 8 ≤ (filterStep r.accumulator code + 2) / 4 ∧ (filterStep r.accumulator code + 2) / 4 ≤ 1015 then
            some (temperatureOf cal.1 cal.2 ((filterStep r.accumulator code + 2) / 4))
          else none
        reason :=
          if 8 ≤ (filterStep r.accumulator code + 2) / 4 ∧ (filterStep r.accumulator code + 2) / 4 ≤ 1015 then .valid
          else .openOrShort } := by
  rw [recordAfterScan, filteredCode, reasonOf_eq]
  split <;> rfl

/-- The measurement, and the rest, after a scan conversion of a channel (R1, R9, R10). -/
theorem completeScan_eq (c : Channel) (code : Code) (s : State) :
    (completeScan c code s).meas =
        nextConversion { s.meas with channels := put s.meas.channels c (scannedRecord s c code) } ∧
      completeScan c code s =
        { s with
          meas := (completeScan c code s).meas
          keypad :=
            { s.keypad with
              debounceTime := (completeScan c code s).keypad.debounceTime
              debounceCount := (completeScan c code s).keypad.debounceCount } } ∧
      (c ≠ s.settings.keypad.channel → completeScan c code s = { s with meas := (completeScan c code s).meas }) ∧
      (c = s.settings.keypad.channel →
        (completeScan c code s).keypad.debounceTime =
            debounceTimeOf s.settings.keypad.curve (reading (completeScan c code s) c) ∧
          (completeScan c code s).keypad.debounceCount =
            debounceCountOf (completeScan c code s).keypad.debounceTime s.settings.keypad.settle) := by
  unfold completeScan
  dsimp only
  split
  next same =>
    refine ⟨rfl, rfl, fun other => absurd same other, fun _ => ⟨?_, rfl⟩⟩
    rw [same]
    rfl
  next other => exact ⟨rfl, rfl, fun _ => rfl, fun same => absurd same other⟩

theorem completeScan_channel (c d : Channel) (code : Code) (s : State) :
    (completeScan c code s).meas.channels[d] = if d = c then scannedRecord s c code else s.meas.channels[d] := by
  rw [(completeScan_eq c code s).1]
  simp only [nextConversion_keeps]
  rw [put_getElem]
  exact if_congr eq_comm rfl rfl

/-- Settles O31. -/
theorem scanConversionUpdatesItsChannel : Obligations.ScanConversionUpdatesItsChannel := by
  unfold Obligations.ScanConversionUpdatesItsChannel
  refine ⟨fun c temperature s => reading_iff s c temperature, fun curve some_point => curveLargest_spec some_point, ?_⟩
  intro c code s converting
  have taken : scanConversionComplete code s = completeScan c code s := by rw [scanConversionComplete, converting]
  obtain ⟨meas, frame, keypadKept, debounced⟩ := completeScan_eq c code s
  have own : (completeScan c code s).meas.channels[c] = scannedRecord s c code := by
    rw [completeScan_channel, if_pos rfl]
  refine ⟨completeScan c code s, congrArg _ taken, ?fault, ?ok, ?others, ?oneShot, ?reference, ?next, keypadKept, debounced,
    ?rest⟩
  case fault =>
    intro fault
    rw [own, scannedRecord, if_pos fault]
  case ok =>
    intro noFault
    refine ⟨filterStep s.meas.channels[c].accumulator code.toNat, (filterStep s.meas.channels[c].accumulator code.toNat + 2) / 4,
      (calibration s.store.words c).1, (calibration s.store.words c).2, rfl, ?_, ?_, rfl, ?_⟩
    · intro fresh
      rw [fresh]
      rfl
    · intro old held
      rw [held]
      rfl
    · rw [own, scannedRecord, if_neg (by simp [noFault]), recordAfterScan_eq]
      rfl
  case others =>
    intro d other
    rw [completeScan_channel, if_neg other]
  case oneShot =>
    intro waiting
    rw [meas]
    exact nextConversion_of_oneShots waiting
  case reference =>
    intro free done
    rw [meas]
    exact nextConversion_of_end free done
  case next =>
    intro d rest free next
    rw [meas]
    exact nextConversion_of_round free next
  case rest =>
    have measured : (completeScan c code s).meas = { s.meas with
        channels := (completeScan c code s).meas.channels
        current := (completeScan c code s).meas.current
        todo := (completeScan c code s).meas.todo } := by
      rw [meas]
      refine (nextConversion_only _).trans ?_
      rw [(nextConversion_keeps _).2.2.2.2.2.2]
    rw [← measured]
    exact frame

/-! ### One-shots (R4, R5) -/

/-- Settles O33. -/
theorem oneShotIsQueuedAndAnswered : Obligations.OneShotIsQueuedAndAnswered := by
  unfold Obligations.OneShotIsQueuedAndAnswered
  refine ⟨?taken, ?refused, ?ended⟩
  case taken =>
    intro l tag c s dispatches
    refine next_deferred dispatches ?_
    rw [sampleBody, readIndex_of_fin (by decide)]
    cases l <;> rfl
  case refused =>
    intro l tag channel s dispatches high
    refine next_answer (t := setReceiver l .hunting s) dispatches ?_
    rw [sampleBody, readIndex_above high]
    rfl
  case ended =>
    intro code r rest s converting listed
    refine ⟨nextConversion { s.meas with oneShots := rest }, nextConversion_only _,
      nextConversion_of_oneShots (m := { s.meas with oneShots := rest }),
      fun c more => nextConversion_of_round (m := { s.meas with oneShots := rest }),
      nextConversion_of_end (m := { s.meas with oneShots := rest }), ?_⟩
    have taken : oneShotComplete code s = setWaiting r.link false
        (sendReply r.link 0x11 r.tag (oneShotReply r code s.meas.fault)
          (s.withMeas (nextConversion { s.meas with oneShots := rest }))) := by
      rw [oneShotComplete, converting, listed]
    exact congrArg _ taken

end Sys2Proof.Machine
end

section
/-! SUPPORT. The reference check and the round that follows it (R2, R3, R7 to R9). -/

namespace Sys2Proof.Machine

/-! ### The check (R7) -/

/-- The window of a reference, for a code of ten bits (Table 1-3). -/
theorem inWindow_code (r : Reference) (code : Code) :
    inWindow r code.toNat =
      match r with
      | .hi => decide (1015 ≤ code.toNat)
      | .mid => decide (504 ≤ code.toNat ∧ code.toNat ≤ 520)
      | .lo => decide (code.toNat ≤ 8) := by
  have small : code.toNat ≤ 1023 := Nat.le_of_lt_succ code.isLt
  cases r
  · exact decide_eq_decide.2 (and_iff_left small)
  · rfl
  · rfl

theorem countCheck_eq (passed : Bool) (m : Measurement) :
    (countCheck passed m).failCount = (if passed then 0 else min (m.failCount + 1) 2) ∧
      (countCheck passed m).passCount = if passed then min (m.passCount + 1) 3 else 0 := by
  cases passed <;> exact ⟨rfl, rfl⟩

/-! ### What a check leads to (R8, R9) -/

@[simp] theorem enterFault_meas (code : Code) (s : State) :
    (enterFault code s).meas =
      { s.meas with
        fault := true
        channels := mapEach (fun r => { ChannelRecord.empty .converterFault with raw := r.raw }) s.meas.channels } := by
  simp [enterFault]

@[simp] theorem leaveFault_meas (code : Code) (s : State) :
    (leaveFault code s).meas =
      { s.meas with
        fault := false
        channels := Vector.ofFn fun c =>
          { s.meas.channels[c] with reason := if inMask s.meas.enabled c then .noData else .disabled } } := by
  simp [leaveFault]

/-- A check with the counts as they stand enters FAULT, leaves it, or does neither (R7). -/
theorem actOnCheck_cases (code : Code) (s : State) :
    (s.meas.fault = false ∧ s.meas.failCount = 2 ∧ actOnCheck code s = enterFault code s) ∨
      (s.meas.fault = true ∧ s.meas.passCount = 3 ∧ actOnCheck code s = leaveFault code s) ∨
      ((s.meas.fault = false → s.meas.failCount ≠ 2) ∧ (s.meas.fault = true → s.meas.passCount ≠ 3) ∧
        actOnCheck code s = s) := by
  unfold actOnCheck
  cases fault : s.meas.fault
  · by_cases second : s.meas.failCount = 2 <;> simp [second]
  · by_cases third : s.meas.passCount = 3 <;> simp [third]

theorem actOnCheck_counts (code : Code) (s : State) :
    (actOnCheck code s).meas.failCount = s.meas.failCount ∧ (actOnCheck code s).meas.passCount = s.meas.passCount ∧
      (actOnCheck code s).meas.refPtr = s.meas.refPtr ∧ (actOnCheck code s).meas.enabled = s.meas.enabled ∧
      (actOnCheck code s).meas.oneShots = s.meas.oneShots := by
  rcases actOnCheck_cases code s with ⟨-, -, acted⟩ | ⟨-, -, acted⟩ | ⟨-, -, acted⟩ <;> simp [acted]

/-! ### The next round (R2, R3) -/

theorem startRound_channel (enable : Byte) (m : Measurement) (c : Channel) :
    (startRound enable m).channels[c] =
      recordAtRoundStart m.fault (inMask m.enabled c) (inMask enable c) m.channels[c] := by
  simp [startRound]

theorem recordAtRoundStart_of_changed {fault was is : Bool} (changed : was ≠ is) (r : ChannelRecord) :
    recordAtRoundStart fault was is r =
      ⟨none, none, none, none, if fault then .converterFault else if is then .noData else .disabled⟩ := by
  cases was <;> cases is <;> first | exact absurd rfl changed | (cases fault <;> rfl)

theorem recordAtRoundStart_of_same {fault was is : Bool} (same : was = is) (r : ChannelRecord) :
    recordAtRoundStart fault was is r = r := by
  subst same
  cases was <;> rfl

/-! ### The whole completion -/

/-- The state with the check counted and acted on, before the next round begins (R7 to R9). -/
def checkedReference (code : Code) (s : State) : State :=
  actOnCheck code (s.withMeas (countCheck (inWindow s.meas.refPtr code.toNat) s.meas))

/-- The next round after a reference completion (R2, R3). -/
def roundAfterReference (code : Code) (s : State) : Measurement :=
  startRound s.settings.channelEnable
    { (checkedReference code s).meas with refPtr := nextReference s.meas.refPtr }

theorem checkedReference_counts (code : Code) (s : State) :
    (checkedReference code s).meas.failCount = (countCheck (inWindow s.meas.refPtr code.toNat) s.meas).failCount ∧
      (checkedReference code s).meas.passCount = (countCheck (inWindow s.meas.refPtr code.toNat) s.meas).passCount ∧
      (checkedReference code s).meas.refPtr = s.meas.refPtr ∧ (checkedReference code s).meas.enabled = s.meas.enabled ∧
      (checkedReference code s).meas.oneShots = s.meas.oneShots := by
  obtain ⟨fails, passes, pointer, enabled, listed⟩ :=
    actOnCheck_counts code (s.withMeas (countCheck (inWindow s.meas.refPtr code.toNat) s.meas))
  obtain ⟨-, pointer', enabled', -, -, listed', -⟩ := countCheck_keeps (inWindow s.meas.refPtr code.toNat) s.meas
  exact ⟨fails, passes, pointer.trans pointer', enabled.trans enabled', listed.trans listed'⟩

theorem completeReference_eq (code : Code) (s : State) :
    completeReference code s = (checkedReference code s).withMeas (nextConversion (roundAfterReference code s)) := by
  have pointer := (checkedReference_counts code s).2.2.1
  have settings : (checkedReference code s).settings = s.settings := (actOnCheck_keeps _ _).2.2
  rw [roundAfterReference, ← pointer, ← settings]
  rfl

theorem completeReference_channel (code : Code) (s : State) (c : Channel) :
    (completeReference code s).meas.channels[c] =
      recordAtRoundStart (checkedReference code s).meas.fault (inMask s.meas.enabled c)
        (inMask s.settings.channelEnable c) (checkedReference code s).meas.channels[c] := by
  have kept : (completeReference code s).meas.channels = (roundAfterReference code s).channels := by
    rw [completeReference_eq]
    exact (nextConversion_keeps _).2.2.2.2.2.2
  have enabled := (checkedReference_counts code s).2.2.2.1
  rw [kept, roundAfterReference, startRound_channel]
  simp only [enabled]

theorem completeReference_fault (code : Code) (s : State) :
    (completeReference code s).meas.fault = (checkedReference code s).meas.fault := by
  rw [completeReference_eq]
  exact (nextConversion_keeps _).1

/-- A reference completion enters FAULT, leaves it, or does neither: by the counts that the check leaves (R7 to R9). -/
theorem checkedReference_cases (code : Code) (s : State) :
    (s.meas.fault = false ∧ (checkedReference code s).meas.failCount = 2 ∧
        checkedReference code s =
          enterFault code (s.withMeas (countCheck (inWindow s.meas.refPtr code.toNat) s.meas))) ∨
      (s.meas.fault = true ∧ (checkedReference code s).meas.passCount = 3 ∧
        checkedReference code s =
          leaveFault code (s.withMeas (countCheck (inWindow s.meas.refPtr code.toNat) s.meas))) ∨
      ((s.meas.fault = false → (checkedReference code s).meas.failCount ≠ 2) ∧
        (s.meas.fault = true → (checkedReference code s).meas.passCount ≠ 3) ∧
        checkedReference code s = s.withMeas (countCheck (inWindow s.meas.refPtr code.toNat) s.meas)) := by
  obtain ⟨fails, passes, -⟩ := checkedReference_counts code s
  obtain ⟨fault, -⟩ := countCheck_keeps (inWindow s.meas.refPtr code.toNat) s.meas
  rw [fails, passes]
  rw [← fault]
  exact actOnCheck_cases code (s.withMeas (countCheck (inWindow s.meas.refPtr code.toNat) s.meas))

/-- The newest record and the next number after an append, also under a change of another part of the state. -/
theorem appendLog_newest (kind : RecordKind) (detail : Half) (s : State) :
    (appendLog kind detail s).log.ring.getLast? = some (stampRecord kind detail s) ∧
      (appendLog kind detail s).log.nextSeq = followingSeq s.log.nextSeq := by
  rw [appendLog_log]
  exact ⟨addRecord_getLast? _ _, rfl⟩

theorem enterFault_log (code : Code) (s : State) :
    (enterFault code s).log.nextSeq = followingSeq s.log.nextSeq ∧
      ∃ r, (enterFault code s).log.ring.getLast? = some r ∧ r.kind = .converterFault ∧ r.detail.toNat = code.toNat ∧
        r.temperature = none := by
  unfold enterFault
  obtain ⟨newest, next⟩ := appendLog_newest .converterFault (code.zeroExtend 16)
    (s.withMeas
      { s.meas with
        fault := true
        channels := mapEach (fun r => { ChannelRecord.empty .converterFault with raw := r.raw }) s.meas.channels })
  rw [(raise_keeps _ _).2.2.2.2.2.1]
  refine ⟨next, _, newest, rfl, ?_, ?_⟩
  · exact BitVec.toNat_setWidth_of_le (by decide)
  · change reading _ _ = none
    rw [reading_eq]
    simp only [State.withMeas_meas, mapEach_getElem]
    rfl

theorem leaveFault_log (code : Code) (s : State) :
    (leaveFault code s).log.nextSeq = followingSeq s.log.nextSeq ∧
      ∃ r, (leaveFault code s).log.ring.getLast? = some r ∧ r.kind = .converterOk ∧ r.detail.toNat = code.toNat := by
  unfold leaveFault
  obtain ⟨newest, next⟩ := appendLog_newest .converterOk (code.zeroExtend 16)
    (s.withMeas
      { s.meas with
        fault := false
        channels := Vector.ofFn fun c =>
          { s.meas.channels[c] with reason := if inMask s.meas.enabled c then .noData else .disabled } })
  exact ⟨next, _, newest, rfl, BitVec.toNat_setWidth_of_le (by decide)⟩

theorem enterFault_cause (code : Code) (s : State) : holdsCause (enterFault code s).causes .converter = true := by
  simp [enterFault, holdsCause_raise]

/-! ### The statement -/

theorem completeReference_frame {code : Code} {s : State}
    (quiet : checkedReference code s = s.withMeas (countCheck (inWindow s.meas.refPtr code.toNat) s.meas)) :
    completeReference code s = { s with meas := (completeReference code s).meas } := by
  rw [completeReference_eq, quiet]
  rfl

theorem completeReference_log (code : Code) (s : State) :
    (completeReference code s).log = (checkedReference code s).log ∧
      (completeReference code s).causes = (checkedReference code s).causes := by
  rw [completeReference_eq]
  exact ⟨rfl, rfl⟩

/-- The two events that are those completions by which the converter status changes (R8, R9; log entry 6). -/
theorem exec_converterFault {code : Code} {s : State} (converting : s.meas.current = some .reference) :
    exec (.converterFault code) s =
        .next (if !s.meas.fault && (completeReference code s).meas.fault then completeReference code s else s) ∧
      exec (.converterOk code) s =
        .next (if s.meas.fault && !(completeReference code s).meas.fault then completeReference code s else s) := by
  have taken : referenceConversionComplete code s = completeReference code s := by
    rw [referenceConversionComplete, converting]
  rw [← taken]
  exact ⟨rfl, rfl⟩

/-- Settles O32, by whether the check enters FAULT, leaves it, or does neither. -/
theorem referenceCheckMovesTheConverterStatus : Obligations.ReferenceCheckMovesTheConverterStatus := by
  unfold Obligations.ReferenceCheckMovesTheConverterStatus
  rintro code passed order s converting passed_is rfl
  have verdict : inWindow s.meas.refPtr code.toNat = passed := (inWindow_code _ _).trans (passed_is.trans rfl).symm
  have taken : referenceConversionComplete code s = completeReference code s := by
    rw [referenceConversionComplete, converting]
  obtain ⟨asFault, asOk⟩ := exec_converterFault (code := code) converting
  obtain ⟨fails, passes, pointer, enabled, listed⟩ := checkedReference_counts code s
  obtain ⟨failsIs, passesIs⟩ := countCheck_eq passed s.meas
  rw [verdict] at fails passes
  have meas : (completeReference code s).meas = nextConversion (roundAfterReference code s) := by
    rw [completeReference_eq]
    rfl
  obtain ⟨-, fails', passes', pointer', enabled', listed', -⟩ := nextConversion_keeps (roundAfterReference code s)
  rw [← meas] at fails' passes' pointer' enabled' listed'
  have fault' := completeReference_fault code s
  have oneShots : (roundAfterReference code s).oneShots = s.meas.oneShots := listed
  have settings : (completeReference code s).settings = s.settings := by
    rw [completeReference_eq]
    exact (actOnCheck_keeps _ _).2.2
  have failCount : (completeReference code s).meas.failCount = (checkedReference code s).meas.failCount := fails'
  have passCount : (completeReference code s).meas.passCount = (checkedReference code s).meas.passCount := passes'
  have sameRecord (c : Channel) (same : s.meas.enabled.getLsbD c.val = s.settings.channelEnable.getLsbD c.val) :
      (completeReference code s).meas.channels[c] = (checkedReference code s).meas.channels[c] := by
    have same' : inMask s.meas.enabled c = inMask s.settings.channelEnable c := same
    rw [completeReference_channel, recordAtRoundStart_of_same same']
  have changedRecord (c : Channel) (changed : s.meas.enabled.getLsbD c.val ≠ s.settings.channelEnable.getLsbD c.val) :
      (completeReference code s).meas.channels[c] = ⟨none, none, none, none,
        if (completeReference code s).meas.fault then .converterFault
        else if s.settings.channelEnable.getLsbD c.val then .noData else .disabled⟩ := by
    have changed' : inMask s.meas.enabled c ≠ inMask s.settings.channelEnable c := changed
    rw [completeReference_channel, recordAtRoundStart_of_changed changed', fault']
    rfl
  have countsKept : (s.withMeas (countCheck (inWindow s.meas.refPtr code.toNat) s.meas)).meas.channels = s.meas.channels :=
    (countCheck_keeps _ _).2.2.2.2.2.2
  have faultKept : (s.withMeas (countCheck (inWindow s.meas.refPtr code.toNat) s.meas)).meas.fault = s.meas.fault :=
    (countCheck_keeps _ _).1
  have enabledKept : (s.withMeas (countCheck (inWindow s.meas.refPtr code.toNat) s.meas)).meas.enabled = s.meas.enabled :=
    (countCheck_keeps _ _).2.2.1
  refine ⟨completeReference code s, congrArg _ taken, failCount.trans (fails.trans failsIs),
    passCount.trans (passes.trans passesIs), pointer', enabled', listed'.trans oneShots, settings, ?oneShot, ?reference, ?scan,
    changedRecord, ?untouched, ?okStays, ?faultStays, ?enters, ?leaves, ?quiet⟩
  case oneShot =>
    intro waiting
    rw [meas]
    exact nextConversion_of_oneShots (oneShots ▸ waiting)
  case reference =>
    intro free done
    rw [meas]
    exact nextConversion_of_end (oneShots.trans free) done
  case scan =>
    intro c rest free next
    rw [meas]
    exact nextConversion_of_round (oneShots.trans free) next
  case untouched =>
    intro kept c same
    rw [sameRecord c same]
    rcases checkedReference_cases code s with ⟨ok, -, acted⟩ | ⟨bad, -, acted⟩ | ⟨-, -, acted⟩
    · rw [fault', acted, enterFault_meas, ok] at kept
      cases kept
    · rw [fault', acted, leaveFault_meas, bad] at kept
      cases kept
    · rw [acted, countsKept]
  case okStays =>
    intro ok few
    rcases checkedReference_cases code s with ⟨-, second, -⟩ | ⟨bad, -, -⟩ | ⟨-, -, acted⟩
    · omega
    · rw [ok] at bad
      cases bad
    · exact ⟨by rw [fault', acted, faultKept, ok], completeReference_frame acted⟩
  case faultStays =>
    intro bad few
    rcases checkedReference_cases code s with ⟨ok, -, -⟩ | ⟨-, third, -⟩ | ⟨-, -, acted⟩
    · rw [bad] at ok
      cases ok
    · omega
    · exact ⟨by rw [fault', acted, faultKept, bad], completeReference_frame acted⟩
  case enters =>
    intro ok second
    have acted : checkedReference code s =
        enterFault code (s.withMeas (countCheck (inWindow s.meas.refPtr code.toNat) s.meas)) := by
      rcases checkedReference_cases code s with ⟨-, -, acted⟩ | ⟨bad, -, -⟩ | ⟨notSecond, -, -⟩
      · exact acted
      · rw [ok] at bad
        cases bad
      · exact absurd (failCount.symm.trans second) (notSecond ok)
    have fault : (completeReference code s).meas.fault = true := by rw [fault', acted, enterFault_meas]
    obtain ⟨log, causes⟩ := completeReference_log code s
    obtain ⟨next, newest⟩ := enterFault_log code (s.withMeas (countCheck (inWindow s.meas.refPtr code.toNat) s.meas))
    rw [log, causes, acted]
    refine ⟨fault, fun c => ?_, enterFault_cause _ _, next, newest, ?_⟩
    · by_cases same : s.meas.enabled.getLsbD c.val = s.settings.channelEnable.getLsbD c.val
      · rw [sameRecord c same, acted, enterFault_meas, mapEach_getElem, countsKept]
        exact ⟨rfl, rfl, rfl, rfl, fun _ => rfl⟩
      · rw [changedRecord c same, fault]
        exact ⟨rfl, rfl, rfl, rfl, fun e => absurd e same⟩
    · rw [asFault, ok, fault]
      rfl
  case leaves =>
    intro bad third
    have acted : checkedReference code s =
        leaveFault code (s.withMeas (countCheck (inWindow s.meas.refPtr code.toNat) s.meas)) := by
      rcases checkedReference_cases code s with ⟨ok, -, -⟩ | ⟨-, -, acted⟩ | ⟨-, notThird, -⟩
      · rw [bad] at ok
        cases ok
      · exact acted
      · exact absurd (passCount.symm.trans third) (notThird bad)
    have fault : (completeReference code s).meas.fault = false := by rw [fault', acted, leaveFault_meas]
    obtain ⟨log, -⟩ := completeReference_log code s
    obtain ⟨next, newest⟩ := leaveFault_log code (s.withMeas (countCheck (inWindow s.meas.refPtr code.toNat) s.meas))
    rw [log, acted]
    refine ⟨fault, next, fun c same => ?_, newest, ?_⟩
    · rw [sameRecord c same, acted, leaveFault_meas, Fin.getElem_fin, Vector.getElem_ofFn, countsKept, enabledKept, inMask,
        same]
    · rw [asOk, bad, fault]
      rfl
  case quiet =>
    intro kept
    rw [asFault, asOk, kept]
    cases s.meas.fault <;> exact ⟨rfl, rfl⟩

end Sys2Proof.Machine
end

section
/-! SUPPORT. The supervisor states and how they are entered (chapter 4), Check-In (chapter 5), and the requests to the sequencer. -/

namespace Sys2Proof.Machine

/-! ### What a cause or a record changes, and how long a record stays -/

/-- A cause that is raised changes the causes, and the host link that it may be announced on. -/
theorem raise_only (c : Cause) (s : State) :
    raise c s = { s with causes := (raise c s).causes, host := (raise c s).host } := by
  unfold raise
  split
  · rfl
  · split
    · rw [sendNotice, sendFrame]
      split <;> rfl
    · rfl

/-- An append changes the log, the causes, and the host link that LOG may be announced on. -/
theorem appendLog_only (kind : RecordKind) (detail : Half) (s : State) :
    appendLog kind detail s =
      { s with
        log := (appendLog kind detail s).log
        causes := (appendLog kind detail s).causes
        host := (appendLog kind detail s).host } := by
  have log : (appendLog kind detail s).log = addRecord (stampRecord kind detail s) s.log := appendLog_log kind detail s
  rw [log]
  exact raise_only .log _

theorem appendLog_seq (kind : RecordKind) (detail : Half) (s : State) : (appendLog kind detail s).seq = s.seq := by simp

theorem appendLog_thermal (kind : RecordKind) (detail : Half) (s : State) :
    (appendLog kind detail s).thermal = s.thermal := by simp

/-- A record is among the newest of a log, with at most so many after it. -/
def Recent (after : Nat) (r : LogRecord) (log : EventLog) : Prop :=
  ∃ front back : List LogRecord, log.ring = front ++ r :: back ∧ back.length ≤ after

theorem Recent.mem {after : Nat} {r : LogRecord} {log : EventLog} (h : Recent after r log) : r ∈ log.ring := by
  obtain ⟨front, back, spelled, -⟩ := h
  rw [spelled]
  simp

theorem recent_addRecord (r : LogRecord) (log : EventLog) : Recent 0 r (addRecord r log) := by
  unfold Recent addRecord
  dsimp only
  split
  · exact ⟨_, [], rfl, Nat.le_refl _⟩
  · exact ⟨_, [], rfl, Nat.le_refl _⟩

/-- A further record leaves one held that has less than 31 after it (R157). -/
theorem Recent.addRecord {after : Nat} {r : LogRecord} {log : EventLog} (h : Recent after r log) (few : after < 31)
    (x : LogRecord) : Recent (after + 1) r (addRecord x log) := by
  obtain ⟨front, back, spelled, newer⟩ := h
  unfold Recent Machine.addRecord
  rw [spelled]
  dsimp only
  split
  · exact ⟨front, back ++ [x], by simp, by simpa using newer⟩
  next full =>
    cases front with
    | nil =>
      rw [List.nil_append, List.length_cons] at full
      exact absurd (show back.length + 1 < 32 by omega) full
    | cons a rest => exact ⟨rest, back ++ [x], by simp, by simpa using newer⟩

theorem recent_appendLog (kind : RecordKind) (detail : Half) (s : State) :
    Recent 0 (stampRecord kind detail s) (appendLog kind detail s).log := by
  rw [appendLog_log]
  exact recent_addRecord _ _

theorem Recent.appendLog {after : Nat} {r : LogRecord} {s : State} (h : Recent after r s.log) (few : after < 31)
    (kind : RecordKind) (detail : Half) : Recent (after + 1) r (appendLog kind detail s).log := by
  rw [appendLog_log]
  exact h.addRecord few _

/-! ### What is handed to the host link stays handed over -/

theorem mem_output_sendFrame {f : Frame} {s : State} (h : f ∈ s.host.output) (l : Link) (g : Frame) :
    f ∈ (sendFrame l g s).host.output := by
  cases l <;> (unfold sendFrame; split) <;> simp [State.withLink, h]

theorem mem_output_raise {f : Frame} {s : State} (h : f ∈ s.host.output) (c : Cause) : f ∈ (raise c s).host.output := by
  unfold raise
  split
  · exact h
  · split
    · exact mem_output_sendFrame (s := s.withCauses (s.causes ||| causeWeight c)) h _ _
    · exact h

theorem mem_output_appendLog {f : Frame} {s : State} (h : f ∈ s.host.output) (kind : RecordKind) (detail : Half) :
    f ∈ (appendLog kind detail s).host.output :=
  mem_output_raise (s := s.withLog (addRecord (stampRecord kind detail s) s.log)) h _

/-- A frame for the host link joins a queue with room (R168). -/
theorem mem_output_of_room {s : State} (room : s.host.output.length < 4) (f : Frame) :
    f ∈ (sendFrame .host f s).host.output := by
  rw [sendFrame_of_room (l := .host) room]
  simp [State.withLink]

theorem length_output_sendFrame_le (f : Frame) (s : State) :
    (sendFrame .host f s).host.output.length ≤ s.host.output.length + 1 := by
  unfold sendFrame
  split <;> simp [State.withLink]

theorem length_output_appendLog_le (kind : RecordKind) (detail : Half) (s : State) :
    (appendLog kind detail s).host.output.length ≤ s.host.output.length + 1 := by
  unfold appendLog raise
  split
  · exact Nat.le_succ _
  · split
    · exact length_output_sendFrame_le _ _
    · exact Nat.le_succ _

/-! ### Entering a state (Table 4-1) -/

theorem poweredIn_eq (st : SupervisorState) :
    poweredIn st = decide (st ∈ [.powering, .resetHold, .booting, .running, .warned, .resetPulse, .stopping]) := by
  cases st <;> rfl

theorem heldInReset_eq (st : SupervisorState) :
    heldInReset st = !decide (st ∈ [.booting, .running, .warned, .stopping]) := by
  cases st <;> rfl

/-- The sequencer in STARTING/POWERING before HPG is looked at (R70). -/
def poweringSeq (s : State) : Sequencer where
  state := .powering
  hpwrEn := true
  hrst := true
  hpg := s.seq.hpg
  stage := 0
  timers := { SequencerTimers.stopped with hpg := startTimer s.settings.timing.hpgTimeout }
  warning := none
  restart := none

/-- The sequencer in STARTING/RESET_HOLD, entered at once because HPG is present (R70, R71). -/
def resetHoldSeq (s : State) : Sequencer :=
  { poweringSeq s with
    state := .resetHold
    timers := { SequencerTimers.stopped with resetHold := startTimer s.settings.timing.resetHold } }

theorem startPowering_seq (s : State) :
    (startPowering s).seq = if s.seq.hpg then resetHoldSeq s else poweringSeq s := by
  unfold startPowering
  dsimp only
  have hpg : (mapTimers (fun t => { t with hpg := startTimer s.settings.timing.hpgTimeout })
      (flush (appendLog .hostStart 0 (setStage 0 (enterState .powering s))))).seq.hpg = s.seq.hpg := by simp
  rw [hpg]
  split <;> simp [poweringSeq, resetHoldSeq, enterResetHold, poweredIn, heldInReset]

/-- The start leaves HOST_START "normal" as the newest record, taken in STARTING/POWERING (R70). -/
theorem startPowering_log (s : State) :
    (startPowering s).log = (appendLog .hostStart 0 (setStage 0 (enterState .powering s))).log := by
  unfold startPowering
  dsimp only
  split <;> simp [enterResetHold]

theorem startPowering_queue (s : State) : (startPowering s).queue = flushedQueue s.queue := by
  unfold startPowering
  dsimp only
  split <;> simp [enterResetHold]

/-- The Thermal Controller after the start: the warm timer stopped, the fan raised when HPWR_EN turns on (R46, R50). -/
theorem startPowering_thermal (s : State) :
    (startPowering s).thermal =
      { s.thermal with
        warmTimer := none
        fanDuty := if s.seq.hpwrEn then s.thermal.fanDuty else raisedDuty s } := by
  unfold startPowering
  dsimp only
  cases on : s.seq.hpwrEn <;> split <;> simp [enterResetHold, poweredIn, on]

theorem startPowering_state (s : State) :
    (startPowering s).seq.state = (if s.seq.hpg then .resetHold else .powering) ∧ (startPowering s).seq.hpwrEn = true ∧
      (startPowering s).seq.hrst = true ∧ (startPowering s).seq.stage = 0 := by
  rw [startPowering_seq]
  split <;> exact ⟨rfl, rfl, rfl, rfl⟩

/-- WARMING with the warm timer as it is started on entry (R46, R69). -/
def warmingState (s : State) : State :=
  (enterState .warming s).withThermal
    { (enterState .warming s).thermal with
      warmTimer :=
        if s.settings.limits.warmTimeout = 0 then none else startTimer (s.settings.limits.warmTimeout * 60000) }

theorem enterWarming_eq (s : State) :
    enterWarming s = if s.thermal.startPermitted then startPowering (warmingState s) else warmingState s := rfl

theorem enterWarming_of_blocked {s : State} (blocked : s.thermal.startPermitted = false) :
    enterWarming s = warmingState s := by
  rw [enterWarming_eq, if_neg (by simp [blocked])]

theorem enterWarming_state (s : State) :
    (enterWarming s).seq.state =
      if s.thermal.startPermitted then (if s.seq.hpg then .resetHold else .powering) else .warming := by
  rw [enterWarming_eq]
  split
  · exact (startPowering_state (warmingState s)).1
  · rfl

/-- Settles O45. -/
theorem statesAreEnteredWithTheirLines : Obligations.StatesAreEnteredWithTheirLines := by
  unfold Obligations.StatesAreEnteredWithTheirLines
  refine ⟨?entered, ?powering, ?warming, ?permitted⟩
  case entered =>
    intro st s
    rw [← poweredIn_eq, ← heldInReset_eq]
    rfl
  case powering =>
    intro s
    obtain ⟨-, on, hrst, stage⟩ := startPowering_state s
    obtain ⟨newest, next⟩ := appendLog_newest .hostStart 0 (setStage 0 (enterState .powering s))
    rw [← startPowering_log] at newest next
    refine ⟨startPowering s, rfl, on, hrst, stage, ?_, ?_, ?_, ?_, next, ⟨_, newest, rfl, rfl, rfl⟩, ?absent, ?present, ?_⟩
    case absent =>
      intro absent
      rw [startPowering_seq, if_neg (by simp [absent])]
      exact ⟨rfl, rfl⟩
    case present =>
      intro present
      rw [startPowering_seq, if_pos present]
      exact ⟨rfl, rfl⟩
    all_goals simp [startPowering_queue, startPowering_thermal, flushedQueue, Config.countLimit]
  case warming =>
    intro s blocked
    refine ⟨enterWarming s, rfl, ?_⟩
    rw [enterWarming_of_blocked blocked]
    exact ⟨rfl, rfl, rfl, rfl, rfl, fun positive => if_neg (Nat.pos_iff_ne_zero.1 positive), fun zero => if_pos zero⟩
  case permitted =>
    intro s permitted
    refine ⟨enterWarming s, rfl, ?_⟩
    rw [enterWarming_state, if_pos permitted]

/-! ### The warm timeout (R47) -/

theorem warmTimeout_of_running {s : State} (running : s.thermal.warmTimer.isSome = true) (warming : s.seq.state = .warming) :
    warmTimeout s =
      if s.settings.limits.warmStart && !s.thermal.tripped then startPowering (appendLog .warmTimeout 1 s)
      else raise .thermal (appendLog .warmTimeout 0 (s.withThermal { s.thermal with warmTimer := none })) := by
  simp [warmTimeout, running, warming]

/-- Settles O40. -/
theorem warmTimeoutStartsOrHolds : Obligations.WarmTimeoutStartsOrHolds := by
  unfold Obligations.WarmTimeoutStartsOrHolds
  intro s running warming
  have taken := warmTimeout_of_running running warming
  refine ⟨?starts, ?holds⟩
  case starts =>
    intro start clear
    rw [if_pos (by simp [start, clear])] at taken
    obtain ⟨state, on, -⟩ := startPowering_state (appendLog .warmTimeout 1 s)
    rw [appendLog_seq] at state
    refine ⟨warmTimeout s, rfl, taken, ?_⟩
    rw [taken, startPowering_queue]
    exact ⟨on, state, rfl⟩
  case holds =>
    intro held
    rw [if_neg (by rcases held with hold | tripped <;> simp [*])] at taken
    exact congrArg _ taken

/-! ### Start Host (R68) -/

theorem startHostBody_of_off {s : State} (off : s.seq.state = .off) :
    startHostBody [] s = (enterWarming s, some [statusByte .ok]) :=
  if_pos off

theorem startHostBody_of_on {s : State} (other : s.seq.state ≠ .off) : startHostBody [] s = refuse .notNow s :=
  if_neg other

@[simp] theorem setReceiver_seq (l : Link) (r : Receiver) (s : State) : (setReceiver l r s).seq = s.seq := by simp

theorem exec_startHost_of_off {l : Link} {tag : Byte} {s : State} (h : Dispatches l s) (off : s.seq.state = .off) :
    exec (.startHost l tag []) s =
      .next (sendFrame l ⟨0x89, tag, [0x00]⟩ (enterWarming (setReceiver l .hunting s))) :=
  next_answer h (startHostBody_of_off (by simpa using off))

theorem exec_startHost_of_on {l : Link} {tag : Byte} {s : State} (h : Dispatches l s) (other : s.seq.state ≠ .off) :
    exec (.startHost l tag []) s = .next (sendFrame l ⟨0x89, tag, [0x14]⟩ (setReceiver l .hunting s)) :=
  next_answer h (startHostBody_of_on (by simpa using other))

/-- Settles O50. -/
theorem startHostLeavesOff : Obligations.StartHostLeavesOff := by
  unfold Obligations.StartHostLeavesOff
  refine ⟨?length, fun l tag s => exec_startHost_of_on, fun l tag s => exec_startHost_of_off, ?blocked, ?again⟩
  case length =>
    intro l tag payload s dispatches some_byte
    refine next_answer (t := setReceiver l .hunting s) dispatches ?_
    cases payload with
    | nil => exact absurd rfl some_byte
    | cons b rest => rfl
  case blocked =>
    intro l tag s t dispatches off blocked taken
    rw [exec_startHost_of_off dispatches off, Host.Outcome.next.injEq] at taken
    have waits : (setReceiver l .hunting s).thermal.startPermitted = false := by simpa using blocked
    rw [← taken, enterWarming_of_blocked waits]
    constructor
    · simp [warmingState]
    · simp [warmingState]
  case again =>
    intro l k tag again s t dispatches off taken dispatches'
    refine exec_startHost_of_on dispatches' ?_
    rw [exec_startHost_of_off dispatches off, Host.Outcome.next.injEq] at taken
    rw [← taken, (sendFrame_keeps _ _ _).2.2.2.2.2.2.2.2.2.2.1, enterWarming_state]
    split
    · split <;> decide
    · decide

/-! ### Check-In (R87 to R92, R94, R100, R113) -/

theorem exec_checkIn_host {tag stage : Byte} {s : State} (r : receiving s = true) (known : stage.toNat ≤ 15) :
    exec (.checkIn .host tag [stage]) s = .next (takeCheckIn stage.toNat (setReceiver .host .hunting s)) := by
  have taken : checkIn .host tag [stage] s = takeCheckIn stage.toNat (setReceiver .host .hunting s) := by
    rw [checkIn, if_pos r]
    exact if_pos known
  exact congrArg _ taken

/-- RUNNING is entered with both its timers, after its record (R90, R113). -/
theorem enterRunning_of_positive {kind : RecordKind} {detail : Half} {s : State} (positive : 0 < s.settings.timing.stability) :
    enterRunning kind detail s =
      (appendLog kind detail (enterState .running s)).withSeq
        { (enterState .running s).seq with
          timers :=
            { SequencerTimers.stopped with
              run := startTimer (s.settings.timing.runTimeout * 1000)
              stability := startTimer (s.settings.timing.stability * 1000) } } := by
  have same : (startRunTimeout (appendLog kind detail (enterState .running s))).settings = s.settings := by simp
  unfold enterRunning
  dsimp only
  rw [same, if_neg (Nat.pos_iff_ne_zero.1 positive)]
  simp [mapTimers, startRunTimeout, State.withSeq]

/-- With a stability time of 0 the entry into RUNNING is followed by STABLE and the ladder reset (R94, R100). -/
theorem enterRunning_of_zero {kind : RecordKind} {detail : Half} {s : State} (zero : s.settings.timing.stability = 0) :
    enterRunning kind detail s =
      ladderReset (appendLog .stable 0
        ((appendLog kind detail (enterState .running s)).withSeq
          { (enterState .running s).seq with
            timers := { SequencerTimers.stopped with run := startTimer (s.settings.timing.runTimeout * 1000) } })) := by
  have same : (startRunTimeout (appendLog kind detail (enterState .running s))).settings = s.settings := by simp
  unfold enterRunning
  dsimp only
  rw [same, if_pos zero, stabilityReached]
  simp [mapTimers, startRunTimeout, State.withSeq, SequencerTimers.stopped]

theorem detail_toNat (b : Byte) : (BitVec.ofNat 16 b.toNat).toNat = b.toNat := by
  have small := b.isLt
  rw [BitVec.toNat_ofNat]
  omega

end Sys2Proof.Machine
end

section
/-! SUPPORT. Check-In by state, and the requests Release Lockout, Restart, Power Off, Ready and Defer (chapters 4 to 6). -/

namespace Sys2Proof.Machine

/-! ### Check-In (Table 5-1) -/

theorem checkIn_service {tag : Byte} {payload : List Byte} {s : State} (r : receiving s = true) :
    checkIn .service tag payload s =
      { s with service := { s.service with receiver := .hunting, strays := bump s.service.strays } } := by
  unfold checkIn
  rw [if_pos r]
  rfl

/-- A Check-In on the host link that is not a stage of a state that takes one is stray (R87). -/
theorem checkIn_host_of_stray {tag : Byte} {payload : List Byte} {s : State} (r : receiving s = true)
    (stray : ∀ stage : Byte, payload = [stage] → 15 < stage.toNat ∨
      (s.seq.state ≠ .booting ∧ s.seq.state ≠ .running ∧ s.seq.state ≠ .warned)) :
    checkIn .host tag payload s =
      { s with host := { s.host with receiver := .hunting, strays := bump s.host.strays } } := by
  unfold checkIn
  rw [if_pos r]
  rcases payload with _ | ⟨stage, _ | ⟨next, rest⟩⟩
  · rfl
  · rcases stray stage rfl with high | ⟨notBooting, notRunning, notWarned⟩
    · exact if_neg (Nat.not_le.2 high)
    · by_cases known : stage.toNat ≤ 15
      · refine (if_pos known).trans ?_
        have same : (setReceiver .host .hunting s).seq.state = s.seq.state := rfl
        unfold takeCheckIn
        rw [same]
        rcases state : s.seq.state <;> first | rfl | exact absurd state ‹_›
      · exact if_neg known
  · rfl

theorem takeCheckIn_booting {stage : Nat} {s : State} (booting : s.seq.state = .booting) :
    takeCheckIn stage s =
      if s.settings.timing.confirmStage ≤ stage then
        enterRunning .bootConfirmed (BitVec.ofNat 16 stage) (setStage stage s)
      else setStage stage s := by
  rw [takeCheckIn, booting]
  rfl

theorem takeCheckIn_running {stage : Nat} {s : State} (running : s.seq.state = .running) :
    takeCheckIn stage s =
      if stage = 0 then appendLog .hostReboot 0 (enterBooting (setStage stage s)) else startRunTimeout (setStage stage s) := by
  rw [takeCheckIn, running]
  rfl

theorem takeCheckIn_warned {stage : Nat} {w : Warning} {s : State} (warned : s.seq.state = .warned)
    (pending : s.seq.warning = some w) :
    takeCheckIn stage s =
      if w.cause = .checkinTimeout ∧ s.settings.timing.confirmStage ≤ stage then
        enterRunning .warningCancelled 0 (setStage stage s)
      else setStage stage s := by
  rw [takeCheckIn, warned]
  simp [checkInWarned, pending]

/-- RUNNING after its record, with both its timers (R90, R113). -/
theorem enterRunning_both {kind : RecordKind} {detail : Half} {s : State} (positive : 0 < s.settings.timing.stability) :
    (enterRunning kind detail s).seq =
        { (enterState .running s).seq with
          timers :=
            { SequencerTimers.stopped with
              run := startTimer (s.settings.timing.runTimeout * 1000)
              stability := startTimer (s.settings.timing.stability * 1000) } } ∧
      (enterRunning kind detail s).log.ring.getLast? = some (stampRecord kind detail (enterState .running s)) ∧
      (enterRunning kind detail s).ladder = s.ladder := by
  rw [enterRunning_of_positive positive]
  exact ⟨rfl, (appendLog_newest _ _ _).1, by simp⟩

/-- RUNNING after its record with a stability time of 0: the run timeout alone, STABLE, and the ladder reset (R94, R100). -/
theorem enterRunning_stable {kind : RecordKind} {detail : Half} {s : State} (zero : s.settings.timing.stability = 0) :
    (enterRunning kind detail s).seq =
        { (enterState .running s).seq with
          timers := { SequencerTimers.stopped with run := startTimer (s.settings.timing.runTimeout * 1000) } } ∧
      stampRecord kind detail (enterState .running s) ∈ (enterRunning kind detail s).log.ring ∧
      (∃ r, (enterRunning kind detail s).log.ring.getLast? = some r ∧ r.seq = followingSeq s.log.nextSeq ∧
        r.kind = .stable ∧ r.detail = 0 ∧ r.state = .running ∧ r.rung = s.ladder.rung ∧
        r.failures = s.ladder.failures) ∧
      (enterRunning kind detail s).ladder = ⟨0, 0⟩ := by
  rw [enterRunning_of_zero zero]
  generalize spelled : (appendLog kind detail (enterState .running s)).withSeq
    { (enterState .running s).seq with
      timers := { SequencerTimers.stopped with run := startTimer (s.settings.timing.runTimeout * 1000) } } = x
  have seq : x.seq = { (enterState .running s).seq with
      timers := { SequencerTimers.stopped with run := startTimer (s.settings.timing.runTimeout * 1000) } } := by
    rw [← spelled]
    rfl
  have log : x.log = (appendLog kind detail (enterState .running s)).log := by
    rw [← spelled]
    rfl
  have ladder : x.ladder = s.ladder := by
    rw [← spelled]
    simp
  have held := recent_appendLog kind detail (enterState .running s)
  have next := (appendLog_newest kind detail (enterState .running s)).2
  rw [← log] at held next
  refine ⟨(appendLog_seq .stable 0 x).trans seq, (held.appendLog (by decide) .stable 0).mem,
    ⟨_, (appendLog_newest .stable 0 x).1, next, rfl, rfl, ?_, ?_, ?_⟩, rfl⟩
  · exact congrArg Sequencer.state seq
  · exact congrArg LadderPosition.rung ladder
  · exact congrArg LadderPosition.failures ladder

/-- Settles O49, by the state that takes the Check-In. -/
theorem checkInIsTakenByState : Obligations.CheckInIsTakenByState := by
  unfold Obligations.CheckInIsTakenByState
  refine ⟨fun tag payload s r => congrArg _ (checkIn_service r), fun tag payload s r stray =>
    congrArg _ (checkIn_host_of_stray r stray), ?early, ?confirmed, ?confirmedStable, ?alive, ?reboot, ?cancelled,
    ?cancelledStable, ?kept⟩
  case early =>
    intro tag stage s r known booting early
    have taken := (takeCheckIn_booting (stage := stage.toNat) (s := setReceiver .host .hunting s) booting).trans
      (if_neg (Nat.not_le.2 early))
    rw [exec_checkIn_host r known, taken]
    rfl
  case confirmed =>
    intro tag stage s r known booting confirms positive
    have taken := (takeCheckIn_booting (stage := stage.toNat) (s := setReceiver .host .hunting s) booting).trans
      (if_pos confirms)
    obtain ⟨seq, newest, ladder⟩ := enterRunning_both (kind := .bootConfirmed) (detail := BitVec.ofNat 16 stage.toNat)
      (s := setStage stage.toNat (setReceiver .host .hunting s)) positive
    refine ⟨_, exec_checkIn_host r known, ?_⟩
    rw [taken, seq]
    exact ⟨rfl, rfl, rfl, ⟨_, newest, rfl, detail_toNat stage⟩, ladder, by simp, by simp, by simp⟩
  case confirmedStable =>
    intro tag stage s r known booting confirms zero
    have taken := (takeCheckIn_booting (stage := stage.toNat) (s := setReceiver .host .hunting s) booting).trans
      (if_pos confirms)
    obtain ⟨seq, held, newest, ladder⟩ := enterRunning_stable (kind := .bootConfirmed)
      (detail := BitVec.ofNat 16 stage.toNat) (s := setStage stage.toNat (setReceiver .host .hunting s)) zero
    refine ⟨_, exec_checkIn_host r known, ?_⟩
    rw [taken, seq]
    exact ⟨rfl, rfl, rfl, ⟨_, held, rfl, rfl, detail_toNat stage, rfl⟩, newest, ladder, by simp, by simp, by simp⟩
  case alive =>
    intro tag stage s r known running notReboot
    have taken := takeCheckIn_running (stage := stage.toNat) (s := setReceiver .host .hunting s) running
    have nonzero : stage.toNat ≠ 0 := fun zero => notReboot (BitVec.eq_of_toNat_eq zero)
    rw [if_neg nonzero] at taken
    rw [exec_checkIn_host r known, taken]
    rfl
  case reboot =>
    intro tag s r running
    have taken := takeCheckIn_running (stage := 0) (s := setReceiver .host .hunting s) running
    rw [if_pos rfl] at taken
    refine ⟨_, exec_checkIn_host r (by decide), ?_⟩
    rw [show (0 : Byte).toNat = 0 from rfl, taken, appendLog_seq]
    exact ⟨rfl, rfl, rfl, ⟨_, (appendLog_newest _ _ _).1, rfl⟩, by simp, by simp⟩
  case cancelled =>
    intro tag stage w s r known warned pending cause confirms positive
    have taken := (takeCheckIn_warned (stage := stage.toNat) (s := setReceiver .host .hunting s) warned pending).trans
      (if_pos ⟨cause, confirms⟩)
    obtain ⟨seq, newest, ladder⟩ := enterRunning_both (kind := .warningCancelled) (detail := 0)
      (s := setStage stage.toNat (setReceiver .host .hunting s)) positive
    refine ⟨_, exec_checkIn_host r known, ?_⟩
    rw [taken, seq]
    exact ⟨rfl, rfl, rfl, rfl, ⟨_, newest, rfl, rfl⟩, ladder⟩
  case cancelledStable =>
    intro tag stage w s r known warned pending cause confirms zero
    have taken := (takeCheckIn_warned (stage := stage.toNat) (s := setReceiver .host .hunting s) warned pending).trans
      (if_pos ⟨cause, confirms⟩)
    obtain ⟨seq, held, newest, ladder⟩ := enterRunning_stable (kind := .warningCancelled) (detail := 0)
      (s := setStage stage.toNat (setReceiver .host .hunting s)) zero
    refine ⟨_, exec_checkIn_host r known, ?_⟩
    rw [taken, seq]
    exact ⟨rfl, rfl, rfl, rfl, ⟨_, held, rfl, rfl, rfl, rfl⟩, newest, ladder⟩
  case kept =>
    intro tag stage w s r known warned pending other
    have taken := (takeCheckIn_warned (stage := stage.toNat) (s := setReceiver .host .hunting s) warned pending).trans
      (if_neg fun both => other.elim (fun cause => cause both.1) fun early => absurd both.2 (Nat.not_le.2 early))
    rw [exec_checkIn_host r known, taken]
    rfl

/-! ### Restarting (R75) -/

theorem enterRestarting_warm (off : Nat) (source : RestartSource) (s : State) :
    (enterRestarting .warm off source s).seq =
        { (enterState .resetPulse s).seq with
          timers := { SequencerTimers.stopped with pulse := startTimer s.settings.timing.warmPulse }
          restart := some ⟨.warm, none, source, false⟩ } ∧
      ∃ r, (enterRestarting .warm off source s).log.ring.getLast? = some r ∧ r.seq = s.log.nextSeq ∧ r.kind = .restart ∧
        r.detail = restartDetail .warm source ∧ r.state = .resetPulse ∧ r.rung = s.ladder.rung ∧
        r.failures = s.ladder.failures := by
  unfold enterRestarting
  exact ⟨appendLog_seq _ _ _, _, (appendLog_newest _ _ _).1, rfl, rfl, rfl, rfl, rfl, rfl⟩

theorem enterRestarting_cold (off : Nat) (source : RestartSource) (s : State) :
    (enterRestarting .cold off source s).seq =
        { (enterState .powerDown s).seq with
          timers := { SequencerTimers.stopped with offInterval := startTimer (off * 1000) }
          restart := some ⟨.cold, some off, source, false⟩ } ∧
      ∃ r, (enterRestarting .cold off source s).log.ring.getLast? = some r ∧ r.seq = s.log.nextSeq ∧ r.kind = .restart ∧
        r.detail = restartDetail .cold source ∧ r.state = .powerDown ∧ r.rung = s.ladder.rung ∧
        r.failures = s.ladder.failures := by
  unfold enterRestarting
  exact ⟨appendLog_seq _ _ _, _, (appendLog_newest _ _ _).1, rfl, rfl, rfl, rfl, rfl, rfl⟩

/-- What a restart leaves alone (R75). -/
theorem enterRestarting_only (action : RestartAction) (off : Nat) (source : RestartSource) (s : State) :
    enterRestarting action off source s =
      { s with
        seq := (enterRestarting action off source s).seq
        thermal := (enterRestarting action off source s).thermal
        log := (enterRestarting action off source s).log
        causes := (enterRestarting action off source s).causes
        host := (enterRestarting action off source s).host } := by
  cases action <;>
  · unfold enterRestarting
    dsimp only
    rw [appendLog_seq, appendLog_thermal]
    exact appendLog_only _ _ _

/-! ### Release Lockout and Restart (R78, R102) -/

theorem setReceiver_withLadder (l : Link) (r : Receiver) (x : LadderPosition) (s : State) :
    setReceiver l r (s.withLadder x) = (setReceiver l r s).withLadder x := by
  cases l <;> rfl

theorem statusByte_appliedStatus_of (received applied : List Byte) :
    statusByte (appliedStatus received applied) = if applied = received then 0x00 else 0x01 := by
  unfold appliedStatus
  split <;> rfl

/-- A two-byte field that is brought into a range below 65536 is written as received exactly when it was in it. -/
theorem twoBytes_eq_received {n : Nat} (small : n < 65536) (hi lo : Byte) :
    (twoBytes n = [hi, lo]) = (n = (hi ++ lo).toNat) :=
  propext (twoBytes_eq_iff small hi lo)

theorem restartBody_of_low {action o1 o0 : Byte} {s : State} (low : action.toNat ≤ 1) :
    restartBody [action, o1, o0] s =
      if s.seq.state = .booting ∨ s.seq.state = .running then
        (enterRestarting (if action = 0 then .warm else .cold) (clampNat 1 3600 (readHalf o1 o0)) .request s,
          some ((if clampNat 1 3600 (readHalf o1 o0) = (o1 ++ o0).toNat then 0x00 else 0x01) :: action ::
            twoBytes (clampNat 1 3600 (readHalf o1 o0))))
      else refuse .notNow s := by
  have small : clampNat 1 3600 (readHalf o1 o0) < 65536 := by
    unfold clampNat
    omega
  rw [restartBody, if_neg (Nat.not_lt.2 low)]
  dsimp only
  rw [statusByte_appliedStatus_of]
  simp only [List.cons.injEq, true_and, twoBytes_eq_received small]

/-- Settles O51. -/
theorem releaseAndRestartByState : Obligations.ReleaseAndRestartByState := by
  unfold Obligations.ReleaseAndRestartByState
  refine ⟨?released, ?notLocked, ?badAction, ?notNow, ?restarted⟩
  case released =>
    intro l tag s dispatches locked
    refine (next_answer dispatches (payload := [0x00]) (t := releaseLockedOut 0 (setReceiver l .hunting s)) ?_).trans ?_
    · rw [releaseLockoutBody, if_pos (by simpa using locked)]
      rfl
    · rw [releaseLockedOut, ladderReset, ← setReceiver_withLadder]
      rfl
  case notLocked =>
    intro l tag s dispatches other
    exact next_answer dispatches (if_neg (by simpa using other))
  case badAction =>
    intro l tag action o1 o0 s dispatches high
    exact next_answer dispatches (if_pos high)
  case notNow =>
    intro l tag action o1 o0 s dispatches low notBooting notRunning
    refine next_answer (t := setReceiver l .hunting s) dispatches ?_
    rw [restartBody_of_low low, if_neg (by simp [notBooting, notRunning])]
    rfl
  case restarted =>
    rintro l tag action o1 o0 off s dispatches low state rfl
    have running : (setReceiver l .hunting s).seq.state = .booting ∨ (setReceiver l .hunting s).seq.state = .running := by
      simpa using state
    have kept : (setReceiver l .hunting s).settings = s.settings ∧ (setReceiver l .hunting s).log = s.log ∧
        (setReceiver l .hunting s).ladder = s.ladder := by simp
    refine ⟨_, next_answer dispatches ((restartBody_of_low low).trans (if_pos running)), enterRestarting_only _ _ _ _,
      ?warm, ?cold⟩
    case warm =>
      rintro rfl
      obtain ⟨seq, newest⟩ := enterRestarting_warm (clampNat 1 3600 (readHalf o1 o0)) .request (setReceiver l .hunting s)
      obtain ⟨settings, log, ladder⟩ := kept
      rw [settings] at seq
      rw [log, ladder] at newest
      rw [if_pos rfl, seq]
      exact ⟨rfl, rfl, rfl, rfl, rfl, newest⟩
    case cold =>
      rintro rfl
      obtain ⟨seq, newest⟩ := enterRestarting_cold (clampNat 1 3600 (readHalf o1 o0)) .request (setReceiver l .hunting s)
      obtain ⟨-, log, ladder⟩ := kept
      rw [log, ladder] at newest
      rw [if_neg (by decide), seq]
      exact ⟨rfl, rfl, rfl, rfl, rfl, newest⟩

/-! ### Power Off (R79, R80, R119) -/

theorem setReceiver_withSeq (l : Link) (r : Receiver) (x : Sequencer) (s : State) :
    setReceiver l r (s.withSeq x) = (setReceiver l r s).withSeq x := by
  cases l <;> rfl

/-- A Power Off that is taken: its effect, and the delay echoed (R79). -/
theorem exec_powerOff_of_some {l : Link} {tag d1 d0 : Byte} {delay : Nat} {s t : State} (h : Dispatches l s)
    (delay_is : delay = min (d1 ++ d0).toNat 600)
    (effect : powerOffEffect delay (setReceiver l .hunting s) = some t) :
    exec (.powerOff l tag [d1, d0]) s =
      .next (sendFrame l
        ⟨0x8A, tag, (if delay = (d1 ++ d0).toNat then 0x00 else 0x01) :: halfBytes (BitVec.ofNat 16 delay)⟩ t) := by
  have brought : clampNat 0 600 (readHalf d1 d0) = delay := by
    rw [delay_is]
    exact Nat.zero_max _
  have small : delay < 65536 := by omega
  refine next_answer h ?_
  rw [powerOffBody]
  rw [brought, effect, statusByte_appliedStatus_of]
  simp only [twoBytes_eq_received small]
  rfl

theorem exec_powerOff_of_none {l : Link} {tag d1 d0 : Byte} {s : State} (h : Dispatches l s)
    (effect : ∀ delay, powerOffEffect delay (setReceiver l .hunting s) = none) :
    exec (.powerOff l tag [d1, d0]) s = .next (sendFrame l ⟨0x8A, tag, [0x14]⟩ (setReceiver l .hunting s)) := by
  refine next_answer (t := setReceiver l .hunting s) h ?_
  rw [powerOffBody]
  rw [effect]
  rfl

theorem startStopTimer_of_positive {ms : Nat} (positive : 0 < ms) (s : State) :
    startStopTimer ms s = mapTimers (fun t => { t with powerOff := startTimer ms }) s :=
  if_neg (Nat.pos_iff_ne_zero.1 positive)

theorem startStopTimer_of_zero {ms : Nat} (zero : ms = 0) (s : State) :
    startStopTimer ms s = appendLog .powerOff 0 (enterState .off s) :=
  if_pos zero

/-- STOPPING from a state that runs the computer without a warning (R79). -/
theorem powerOffEffect_of_powered {delay : Nat} {s : State}
    (state : s.seq.state = .powering ∨ s.seq.state = .resetHold ∨ s.seq.state = .booting ∨ s.seq.state = .running) :
    powerOffEffect delay s = some (startStopTimer (delay * 1000) (enterState .stopping s)) := by
  rcases state with state | state | state | state <;> simp [powerOffEffect, stopHost, stopLength, state]

/-- STOPPING from WARNED: the warning is dropped with its record (R119). -/
theorem powerOffEffect_of_warned {delay left length : Nat} {w : Warning} {s : State} (state : s.seq.state = .warned)
    (pending : s.seq.warning = some w) (left_is : left = graceLeft s)
    (length_is : length = if w.cause = .thermal then min (delay * 1000) left else delay * 1000) :
    powerOffEffect delay s = some (startStopTimer length (appendLog .warningCancelled 1 (enterState .stopping s))) := by
  rw [length_is, left_is]
  simp [powerOffEffect, stopHost, stopLength, state, warnedThermal, pending]

/-- Settles O52. -/
theorem powerOffByState : Obligations.PowerOffByState := by
  unfold Obligations.PowerOffByState
  rintro l tag d1 d0 delay left reply s dispatches delay_is left_is rfl
  have seq : (setReceiver l .hunting s).seq = s.seq := setReceiver_seq l .hunting s
  have grace : left = graceLeft (setReceiver l .hunting s) := by
    cases running : s.seq.timers.grace <;> rw [left_is, graceLeft, seq, running]
  refine ⟨?refused, ?cold, ?powered, ?poweredNow, ?stopping, ?stoppingNow, ?powerDown, ?warned, ?warnedNow⟩
  case refused =>
    intro state
    refine exec_powerOff_of_none dispatches fun delay => ?_
    rw [powerOffEffect, seq]
    rcases state with state | state | state <;> rw [state]
  case cold =>
    intro state
    refine exec_powerOff_of_some dispatches delay_is ?_
    rw [powerOffEffect, seq]
    rcases state with state | state <;> rw [state] <;> rfl
  case powered =>
    intro state positive
    refine ⟨_, exec_powerOff_of_some dispatches delay_is (powerOffEffect_of_powered (seq ▸ state)), ?_⟩
    rw [startStopTimer_of_positive (by omega)]
    exact ⟨rfl, rfl, rfl, rfl, rfl⟩
  case poweredNow =>
    intro state zero
    refine exec_powerOff_of_some dispatches delay_is ((powerOffEffect_of_powered (seq ▸ state)).trans ?_)
    rw [startStopTimer_of_zero (by omega)]
  case stopping =>
    intro state positive
    refine exec_powerOff_of_some dispatches delay_is ?_
    rw [powerOffEffect, seq, state]
    dsimp only
    rw [startStopTimer_of_positive (by omega)]
    cases l <;> rfl
  case stoppingNow =>
    intro state zero
    refine exec_powerOff_of_some dispatches delay_is ?_
    rw [powerOffEffect, seq, state]
    dsimp only
    rw [startStopTimer_of_zero (by omega)]
  case powerDown =>
    intro r state record
    refine exec_powerOff_of_some dispatches delay_is ?_
    rw [powerOffEffect, seq, state]
    dsimp only
    rw [requestOff, seq, record]
    cases l <;> rfl
  case warned =>
    intro w length state pending length_is positive
    have warned : (setReceiver l .hunting s).seq.state = .warned := (congrArg Sequencer.state seq).trans state
    have outstanding : (setReceiver l .hunting s).seq.warning = some w := (congrArg Sequencer.warning seq).trans pending
    refine ⟨_, exec_powerOff_of_some dispatches delay_is
      (powerOffEffect_of_warned warned outstanding grace length_is), ?_⟩
    have newest := (appendLog_newest .warningCancelled 1 (enterState .stopping (setReceiver l .hunting s))).1
    have entered := appendLog_seq .warningCancelled 1 (enterState .stopping (setReceiver l .hunting s))
    generalize appendLog .warningCancelled 1 (enterState .stopping (setReceiver l .hunting s)) = dropped at *
    rw [startStopTimer_of_positive positive, mapTimers_seq, (mapTimers_keeps _ dropped).2.2.2.2.2.1, entered]
    exact ⟨rfl, rfl, rfl, rfl, _, newest, rfl, rfl⟩
  case warnedNow =>
    intro w length state pending length_is zero
    have warned : (setReceiver l .hunting s).seq.state = .warned := (congrArg Sequencer.state seq).trans state
    have outstanding : (setReceiver l .hunting s).seq.warning = some w := (congrArg Sequencer.warning seq).trans pending
    refine ⟨_, exec_powerOff_of_some dispatches delay_is
      (powerOffEffect_of_warned warned outstanding grace length_is), ?_⟩
    have cancelled := recent_appendLog .warningCancelled 1 (enterState .stopping (setReceiver l .hunting s))
    have next := (appendLog_newest .warningCancelled 1 (enterState .stopping (setReceiver l .hunting s))).2
    have log : (setReceiver l .hunting s).log = s.log := by simp
    generalize dropped_is : appendLog .warningCancelled 1 (enterState .stopping (setReceiver l .hunting s)) = dropped at *
    have off : startStopTimer length dropped = appendLog .powerOff 0 (enterState .off dropped) := startStopTimer_of_zero zero dropped
    have kept : dropped.ladder = s.ladder ∧ dropped.store = s.store ∧ dropped.settings = s.settings ∧
        dropped.zones = s.zones := by
      rw [← dropped_is]
      simp
    obtain ⟨ladder, store, settings, zones⟩ := kept
    rw [off, appendLog_seq]
    refine ⟨rfl, rfl, rfl, rfl, rfl, rfl, ⟨_, (cancelled.appendLog (s := enterState .off dropped) (by decide) _ _).mem, ?_⟩,
      ⟨_, (appendLog_newest _ _ _).1, ?_, rfl, rfl, rfl⟩, ?_⟩
    · exact ⟨congrArg EventLog.nextSeq log, rfl, rfl, rfl⟩
    · exact next.trans (congrArg (fun x : EventLog => followingSeq x.nextSeq) log)
    · simp [ladder, store, settings, zones]

/-! ### Ready and Defer (R110 to R112) -/

theorem graceExpiry_of_expired {n : Nat} {s : State} (warned : s.seq.state = .warned)
    (out : s.seq.timers.grace = some ⟨n, 0⟩) : graceExpiry s = carryOut s := by
  simp [graceExpiry, warned, out]

theorem defersAvailable_of_some {w : Warning} {s : State} (pending : s.seq.warning = some w)
    (permitted : w.deferPermitted = true) : defersAvailable s = w.defersLeft := by
  simp [defersAvailable, pending, permitted]

/-- A granted Defer: the grace restarted, a defer used, and its record (R112). -/
theorem grantDefer_of_some {w : Warning} {s : State} (pending : s.seq.warning = some w)
    (permitted : w.deferPermitted = true) :
    grantDefer s =
      appendLog .warningDeferred (BitVec.ofNat 16 (w.defersLeft - 1))
        (s.withSeq
          { s.seq with
            warning := some { w with defersLeft := w.defersLeft - 1 }
            timers := { s.seq.timers with grace := startTimer (s.settings.timing.deferStep * 1000) } }) := by
  rw [grantDefer, defersAvailable_of_some pending permitted, pending]
  rfl

theorem deferBody_of_refused {tag : Byte} {s : State}
    (refused : s.seq.state ≠ .warned ∨
      ∀ w, s.seq.warning = some w → w.deferPermitted = false ∨ w.defersLeft = 0) :
    deferBody .host tag [] s = refuse .notNow s := by
  refine if_neg fun ⟨warned, some_left⟩ => ?_
  rcases refused with other | none_left
  · exact other warned
  · unfold defersAvailable at some_left
    split at some_left
    next w pending =>
      rcases none_left w pending with forbidden | used <;> simp [*] at some_left
    next => simp at some_left

end Sys2Proof.Machine
end

section
/-! SUPPORT. What carrying out a warning's action keeps and leaves (R110, R117), and Ready and Defer (R111, R112). -/

namespace Sys2Proof.Machine

/-! ### Frames and records through the ways on and off -/

theorem mem_output_followLevel {f : Frame} {s : State} (h : f ∈ s.host.output) (c : Cause) (condition : Bool) :
    f ∈ (followLevel c condition s).host.output := by
  unfold followLevel
  split
  · exact mem_output_raise h c
  · exact h

theorem mem_output_flush {f : Frame} {s : State} (h : f ∈ s.host.output) : f ∈ (flush s).host.output := by
  have emptied : f ∈ (s.withQueue (flushedQueue s.queue)).host.output := h
  exact mem_output_followLevel (mem_output_followLevel (mem_output_followLevel emptied _ _) _ _) _ _

theorem mem_output_startPowering {f : Frame} {s : State} (h : f ∈ s.host.output) : f ∈ (startPowering s).host.output := by
  have entered : f ∈ (setStage 0 (enterState .powering s)).host.output := h
  have flushed := mem_output_flush (mem_output_appendLog entered .hostStart 0)
  unfold startPowering
  dsimp only
  split <;> exact flushed

theorem mem_output_enterWarming {f : Frame} {s : State} (h : f ∈ s.host.output) : f ∈ (enterWarming s).host.output := by
  have entered : f ∈ (warmingState s).host.output := h
  rw [enterWarming_eq]
  split
  · exact mem_output_startPowering entered
  · exact entered

/-- RESTARTING in the sub-phase of an action, with its timer and its restart record, before RESTART is appended (R75). -/
def restartingState (action : RestartAction) (off : Nat) (source : RestartSource) (s : State) : State :=
  match action with
  | .warm =>
    (enterState .resetPulse s).withSeq
      { (enterState .resetPulse s).seq with
        timers := { SequencerTimers.stopped with pulse := startTimer s.settings.timing.warmPulse }
        restart := some ⟨.warm, none, source, false⟩ }
  | .cold =>
    (enterState .powerDown s).withSeq
      { (enterState .powerDown s).seq with
        timers := { SequencerTimers.stopped with offInterval := startTimer (off * 1000) }
        restart := some ⟨.cold, some off, source, false⟩ }

theorem enterRestarting_eq (action : RestartAction) (off : Nat) (source : RestartSource) (s : State) :
    enterRestarting action off source s =
      appendLog .restart (restartDetail action source) (restartingState action off source s) := by
  cases action <;> rfl

theorem restartingState_keeps (action : RestartAction) (off : Nat) (source : RestartSource) (s : State) :
    (restartingState action off source s).log = s.log ∧ (restartingState action off source s).host = s.host ∧
      (restartingState action off source s).causes = s.causes := by
  cases action <;> exact ⟨rfl, rfl, rfl⟩

theorem mem_output_enterRestarting {f : Frame} {s : State} (h : f ∈ s.host.output) (action : RestartAction) (off : Nat)
    (source : RestartSource) : f ∈ (enterRestarting action off source s).host.output := by
  rw [enterRestarting_eq]
  exact mem_output_appendLog (by rwa [(restartingState_keeps action off source s).2.1]) _ _

theorem mem_output_endThermalWarning {f : Frame} {s : State} (h : f ∈ s.host.output) :
    f ∈ (endThermalWarning s).host.output := by
  unfold endThermalWarning
  split
  · exact h
  · exact mem_output_enterWarming h

theorem mem_output_carryOut {f : Frame} {s : State} (h : f ∈ s.host.output) : f ∈ (carryOut s).host.output := by
  unfold carryOut
  split
  · exact h
  · split
    · exact mem_output_enterRestarting h _ _ _
    · exact mem_output_enterRestarting h _ _ _
    · exact mem_output_endThermalWarning h

theorem Recent.le {a b : Nat} {r : LogRecord} {log : EventLog} (h : Recent a r log) (le : a ≤ b) : Recent b r log := by
  obtain ⟨front, back, spelled, newer⟩ := h
  exact ⟨front, back, spelled, newer.trans le⟩

theorem Recent.enterRestarting {after : Nat} {r : LogRecord} {s : State} (h : Recent after r s.log) (few : after < 31)
    (action : RestartAction) (off : Nat) (source : RestartSource) :
    Recent (after + 1) r (enterRestarting action off source s).log := by
  rw [enterRestarting_eq]
  exact Recent.appendLog (by rwa [(restartingState_keeps action off source s).1]) few _ _

theorem Recent.startPowering {after : Nat} {r : LogRecord} {s : State} (h : Recent after r s.log) (few : after < 31) :
    Recent (after + 1) r (startPowering s).log := by
  rw [startPowering_log]
  exact Recent.appendLog (s := setStage 0 (enterState .powering s)) h few _ _

theorem Recent.enterWarming {after : Nat} {r : LogRecord} {s : State} (h : Recent after r s.log) (few : after < 31) :
    Recent (after + 1) r (enterWarming s).log := by
  have entered : Recent after r (warmingState s).log := h
  rw [enterWarming_eq]
  split
  · exact entered.startPowering few
  · exact entered.le (Nat.le_succ _)

theorem Recent.carryOut {after : Nat} {r : LogRecord} {s : State} (h : Recent after r s.log) (few : after < 31) :
    Recent (after + 1) r (carryOut s).log := by
  unfold Machine.carryOut
  split
  · exact h.le (Nat.le_succ _)
  · split
    · exact h.enterRestarting few _ _ _
    · exact h.enterRestarting few _ _ _
    · unfold endThermalWarning
      split
      · exact h.le (Nat.le_succ _)
      · exact h.enterWarming few

/-! ### A warning's action carried out (R110) -/

theorem carryOut_of_warm {w : Warning} {s : State} (pending : s.seq.warning = some w) (action : w.action = .warm) :
    carryOut s = enterRestarting .warm 0 .ladder s := by
  simp [carryOut, pending, action]

theorem carryOut_of_cold {w : Warning} {off : Nat} {s : State} (pending : s.seq.warning = some w)
    (action : w.action = .cold off) : carryOut s = enterRestarting .cold off .ladder s := by
  simp [carryOut, pending, action]

theorem carryOut_of_off {w : Warning} {s : State} (pending : s.seq.warning = some w) (action : w.action = .off) :
    carryOut s = endThermalWarning s := by
  simp [carryOut, pending, action]

/-! ### Ready and Defer -/

/-- A granted Defer in WARNED: a defer used, the grace restarted with so many ms, and its record (R112). -/
def deferredState (w : Warning) (ms : Nat) (s : State) : State :=
  appendLog .warningDeferred (BitVec.ofNat 16 (w.defersLeft - 1))
    (setReceiver .host .hunting
      { s with
        seq :=
          { s.seq with
            warning := some { w with defersLeft := w.defersLeft - 1 }
            timers := { s.seq.timers with grace := some ⟨ms, ms⟩ } } })

theorem deferredState_seq (w : Warning) (ms : Nat) (s : State) :
    (deferredState w ms s).seq =
      { s.seq with
        warning := some { w with defersLeft := w.defersLeft - 1 }
        timers := { s.seq.timers with grace := some ⟨ms, ms⟩ } } :=
  appendLog_seq _ _ _

/-- The record of a granted Defer is the newest, and the host link holds at most one notice more. -/
theorem deferredState_record (w : Warning) (ms : Nat) {s : State} (warned : s.seq.state = .warned) :
    (∃ r, Recent 0 r (deferredState w ms s).log ∧ r.seq = s.log.nextSeq ∧ r.kind = .warningDeferred ∧
      r.detail = BitVec.ofNat 16 (w.defersLeft - 1) ∧ r.state = .warned) ∧
      (deferredState w ms s).log.nextSeq = followingSeq s.log.nextSeq ∧ (deferredState w ms s).ladder = s.ladder ∧
      (deferredState w ms s).host.output.length ≤ s.host.output.length + 1 :=
  ⟨⟨_, recent_appendLog _ _ _, rfl, rfl, rfl, warned⟩, (appendLog_newest _ _ _).2, by simp [deferredState],
    length_output_appendLog_le _ _ _⟩

theorem deferBody_of_granted (tag : Byte) {w : Warning} {s : State} (warned : s.seq.state = .warned)
    (pending : s.seq.warning = some w) (permitted : w.deferPermitted = true) (some_left : 0 < w.defersLeft) :
    deferBody .host tag [] (setReceiver .host .hunting s) =
      if s.settings.timing.deferStep = 0 then
        (carryOut (sendFrame .host
          ⟨0x8D, tag, 0x00 :: twoBytes s.settings.timing.deferStep ++ [oneByte (w.defersLeft - 1)]⟩
          (deferredState w (s.settings.timing.deferStep * 1000) s)), none)
      else
        (deferredState w (s.settings.timing.deferStep * 1000) s,
          some (0x00 :: twoBytes s.settings.timing.deferStep ++ [oneByte (w.defersLeft - 1)])) := by
  have outstanding : (setReceiver .host .hunting s).seq.warning = some w := pending
  have granted := grantDefer_of_some outstanding permitted
  have available := defersAvailable_of_some outstanding permitted
  have state : (setReceiver .host .hunting s).seq.state = .warned := warned
  rw [deferBody, if_pos ⟨state, by rw [available]; exact some_left⟩]
  dsimp only
  rw [granted, available]
  rfl

/-- Settles O53. -/
theorem readyAndDeferAnswerTheWarning : Obligations.ReadyAndDeferAnswerTheWarning := by
  unfold Obligations.ReadyAndDeferAnswerTheWarning
  refine ⟨?ready, fun n s warned out => congrArg _ (graceExpiry_of_expired warned out), ?readyElsewhere, ?deferred,
    ?deferredNow, ?deferElsewhere⟩
  case ready =>
    intro tag s dispatches warned
    exact next_answer dispatches (if_pos warned)
  case readyElsewhere =>
    intro tag s dispatches other
    exact next_answer dispatches (if_neg other)
  case deferred =>
    intro tag w s dispatches warned pending permitted some_left positive
    exact next_answer dispatches
      ((deferBody_of_granted tag warned pending permitted some_left).trans (if_neg (Nat.pos_iff_ne_zero.1 positive)))
  case deferredNow =>
    intro tag w s dispatches warned pending permitted some_left zero
    have taken := next_deferred (kind := 0x0D) (tag := tag) dispatches
      ((deferBody_of_granted tag warned pending permitted some_left).trans (if_pos zero))
    rw [zero] at taken
    obtain ⟨⟨r, held, number, kind, detail, state⟩, next, ladder, few⟩ := deferredState_record w 0 warned
    have seq := deferredState_seq w 0 s
    refine ⟨_, taken, rfl, ⟨r, ?record, number, kind, detail, state⟩, ?handed, ?warm, ?cold⟩
    case record =>
      refine (Recent.carryOut (after := 0) ?_ (by decide)).mem
      rwa [(sendFrame_keeps _ _ _).2.2.2.2.2.1]
    case handed =>
      intro room
      exact mem_output_carryOut (mem_output_of_room (Nat.lt_of_le_of_lt few (Nat.lt_of_le_of_lt (Nat.succ_le_succ room)
        (by decide))) _)
    all_goals
      obtain ⟨-, -, -, -, -, log', -, -, -, -, seq', ladder', -⟩ := sendFrame_keeps .host
        ⟨0x8D, tag, 0x00 :: twoBytes 0 ++ [oneByte (w.defersLeft - 1)]⟩ (deferredState w 0 s)
      generalize sendFrame .host ⟨0x8D, tag, 0x00 :: twoBytes 0 ++ [oneByte (w.defersLeft - 1)]⟩ (deferredState w 0 s) =
        sent at *
      have outstanding : sent.seq.warning = some { w with defersLeft := w.defersLeft - 1 } := by rw [seq', seq]
      rw [← log'] at next
    case warm =>
      intro action
      obtain ⟨entered, x, newest, number, kind, detail, state, -⟩ := enterRestarting_warm 0 .ladder sent
      rw [carryOut_of_warm outstanding action, entered]
      exact ⟨rfl, rfl, by simp [ladder', ladder], x, newest, number.trans next, kind, detail, state⟩
    case cold =>
      intro off action
      obtain ⟨entered, x, newest, number, kind, detail, state, -⟩ := enterRestarting_cold off .ladder sent
      rw [carryOut_of_cold outstanding action, entered]
      exact ⟨rfl, rfl, rfl, rfl, by simp [ladder', ladder], x, newest, number.trans next, kind, detail, state⟩
  case deferElsewhere =>
    intro tag s dispatches refused
    exact next_answer dispatches (deferBody_of_refused refused)

end Sys2Proof.Machine
end

section
/-! SUPPORT. A warning announced (R108, R109), a failure and the ladder's answer (R74, R97 to R101), and the timers and HPG losses that
are failures (R73, R89, R91). -/

namespace Sys2Proof.Machine

/-! ### Causes through the ways on and off -/

theorem holdsCause_raise_of_held {c : Cause} {s : State} (h : holdsCause s.causes c = true) (d : Cause) :
    holdsCause (raise d s).causes c = true := by
  rw [holdsCause_raise, h, Bool.true_or]

theorem holdsCause_appendLog_of_held {c : Cause} {s : State} (h : holdsCause s.causes c = true) (kind : RecordKind)
    (detail : Half) : holdsCause (appendLog kind detail s).causes c = true := by
  rw [holdsCause_appendLog, h, Bool.true_or]

theorem restartPending_followLevel {s : State} (h : holdsCause s.causes .restartPending = true) {c : Cause}
    (other : c ≠ .restartPending) (condition : Bool) :
    holdsCause (followLevel c condition s).causes .restartPending = true := by
  rw [holdsCause_followLevel, if_neg other, h]

/-- A flush follows the key causes alone. -/
theorem restartPending_flush {s : State} (h : holdsCause s.causes .restartPending = true) :
    holdsCause (flush s).causes .restartPending = true := by
  have emptied : holdsCause (s.withQueue (flushedQueue s.queue)).causes .restartPending = true := h
  exact restartPending_followLevel (restartPending_followLevel (restartPending_followLevel emptied (by decide) _)
    (by decide) _) (by decide) _

theorem restartPending_enterWarming {s : State} (h : holdsCause s.causes .restartPending = true) :
    holdsCause (enterWarming s).causes .restartPending = true := by
  have entered : holdsCause (setStage 0 (enterState .powering (warmingState s))).causes .restartPending = true := by
    simpa [warmingState] using h
  have flushed := restartPending_flush (holdsCause_appendLog_of_held entered .hostStart 0)
  rw [enterWarming_eq]
  split
  · unfold startPowering
    dsimp only
    split <;> exact flushed
  · simpa [warmingState] using h

theorem restartPending_enterRestarting {s : State} (h : holdsCause s.causes .restartPending = true)
    (action : RestartAction) (off : Nat) (source : RestartSource) :
    holdsCause (enterRestarting action off source s).causes .restartPending = true := by
  rw [enterRestarting_eq]
  exact holdsCause_appendLog_of_held (by rwa [(restartingState_keeps action off source s).2.2]) _ _

/-- RESTART_PENDING stays pending while the action is carried out. -/
theorem restartPending_carryOut {s : State} (h : holdsCause s.causes .restartPending = true) :
    holdsCause (carryOut s).causes .restartPending = true := by
  unfold carryOut
  split
  · exact h
  · split
    · exact restartPending_enterRestarting h _ _ _
    · exact restartPending_enterRestarting h _ _ _
    · unfold endThermalWarning
      split
      · exact h
      · exact restartPending_enterWarming h

/-- Once LOG is pending, an append announces nothing more. -/
theorem appendLog_host_of_pending {s : State} (h : holdsCause s.causes .log = true) (kind : RecordKind) (detail : Half) :
    (appendLog kind detail s).host = s.host := by
  have silent : appendLog kind detail s = s.withLog (addRecord (stampRecord kind detail s) s.log) := if_pos h
  rw [silent]
  rfl

theorem holdsCause_log_appendLog (kind : RecordKind) (detail : Half) (s : State) :
    holdsCause (appendLog kind detail s).causes .log = true := by
  rw [holdsCause_appendLog]
  simp

/-! ### A warning announced (R108, R109) -/

/-- The Restart Pending notice of a warning with a grace left, in ms (R109). -/
def restartPendingFrame (w : Warning) (left : Nat) : Frame :=
  ⟨0x41, 0, [oneByte (warningCauseCode w.cause), oneByte (warningActionCode w.action)] ++ twoBytes ((left + 999) / 1000) ++
    [oneByte w.defersLeft, flagByte w.deferPermitted]⟩

/-- WARNED with its record, its notice and its cause, before a grace of 0 is looked at (R108, R109). -/
def announcedState (w : Warning) (s : State) : State :=
  raise .restartPending (sendRestartPending w
    (appendLog .warningIssued (BitVec.ofNat 16 (warningCauseCode w.cause)) s))

theorem sendRestartPending_eq (w : Warning) (s : State) :
    sendRestartPending w s = sendFrame .host (restartPendingFrame w (graceLeft s)) s := rfl

theorem graceLeft_appendLog (kind : RecordKind) (detail : Half) (s : State) :
    graceLeft (appendLog kind detail s) = graceLeft s := by
  rw [graceLeft, appendLog_seq]
  rfl

theorem announcedState_keeps (w : Warning) (s : State) :
    (announcedState w s).seq = s.seq ∧ (announcedState w s).ladder = s.ladder ∧ (announcedState w s).store = s.store ∧
      (announcedState w s).settings = s.settings ∧ (announcedState w s).thermal = s.thermal ∧
      (announcedState w s).log =
        (appendLog .warningIssued (BitVec.ofNat 16 (warningCauseCode w.cause)) s).log := by
  simp [announcedState, sendRestartPending_eq]

theorem announceWarning_eq (w : Warning) (s : State) :
    announceWarning w s = if graceLeft s = 0 then carryOut (announcedState w s) else announcedState w s := by
  have left : graceLeft (announcedState w s) = graceLeft s := by
    rw [graceLeft, (announcedState_keeps w s).1]
    rfl
  rw [← left]
  rfl

/-- A warning that is announced, whether its action follows at once or not (R108, R109). -/
theorem announceWarning_announced {w : Warning} {grace : Nat} {s s₀ : State} (warned : s.seq.state = .warned)
    (left : graceLeft s = grace)
    (room : s₀.host.output.length ≤ 1 → holdsCause s.causes .log = true ∧ s.host.output.length ≤ 3) :
    WarningAnnounced w grace s.log.nextSeq s₀ (announceWarning w s) := by
  obtain ⟨-, -, -, -, -, log⟩ := announcedState_keeps w s
  have record := recent_appendLog .warningIssued (BitVec.ofNat 16 (warningCauseCode w.cause)) s
  rw [← log] at record
  have pending : holdsCause (announcedState w s).causes .restartPending = true := by
    rw [announcedState, holdsCause_raise]
    simp
  have notice : s₀.host.output.length ≤ 1 →
      restartPendingFrame w grace ∈ (announcedState w s).host.output := by
    intro small
    obtain ⟨logged, few⟩ := room small
    have host := appendLog_host_of_pending logged .warningIssued (BitVec.ofNat 16 (warningCauseCode w.cause))
    rw [announcedState, sendRestartPending_eq, graceLeft_appendLog, left]
    exact mem_output_raise (mem_output_of_room (by rw [host]; omega) _) _
  have result : stampRecord .warningIssued (BitVec.ofNat 16 (warningCauseCode w.cause)) s ∈ (announceWarning w s).log.ring ∧
      holdsCause (announceWarning w s).causes .restartPending = true ∧
      (s₀.host.output.length ≤ 1 → restartPendingFrame w grace ∈ (announceWarning w s).host.output) := by
    rw [announceWarning_eq]
    split
    · exact ⟨(record.carryOut (by decide)).mem, restartPending_carryOut pending,
        fun small => mem_output_carryOut (notice small)⟩
    · exact ⟨record.mem, pending, notice⟩
  obtain ⟨mem, pending', notice'⟩ := result
  obtain ⟨cause, action, defersLeft, deferPermitted⟩ := w
  refine ⟨⟨_, mem, rfl, rfl, warned, ?_⟩, pending', fun small => ?_⟩
  · cases cause <;> rfl
  · have held := notice' small
    cases cause <;> cases action <;> exact held

/-! ### Acting on the ladder's answer (R74, R75, R101, R108) -/

theorem lockedOut_recorded (x : State) :
    LockedOutWithRecord x.log.nextSeq (appendLog .lockout 0 (enterState .lockedOut x)) := by
  have seq := appendLog_seq .lockout 0 (enterState .lockedOut x)
  refine ⟨by rw [seq]; rfl, by rw [seq]; rfl, by rw [seq]; rfl, by rw [seq]; rfl,
    _, (appendLog_newest _ _ _).1, rfl, rfl, rfl, rfl, ?_⟩
  simp [stampRecord]

theorem enterRestarting_begun (r : Rung) (x : State) :
    RestartBegun r x.log.nextSeq (enterRestarting r.action r.offInterval .ladder x) := by
  obtain ⟨action, attempts, off, warn, flip⟩ := r
  have ladder : (enterRestarting action off .ladder x).ladder = x.ladder := by simp
  have settings : (enterRestarting action off .ladder x).settings = x.settings := by simp
  cases action with
  | warm =>
    obtain ⟨seq, r, newest, number, kind, detail, state, rung, failures⟩ := enterRestarting_warm off .ladder x
    refine ⟨⟨congrArg Sequencer.state seq, congrArg Sequencer.hpwrEn seq, congrArg Sequencer.hrst seq,
      congrArg Sequencer.restart seq, ?_⟩, r, newest, number, kind, detail,
      state.trans (congrArg Sequencer.state seq).symm, rung.trans (congrArg LadderPosition.rung ladder.symm),
      failures.trans (congrArg LadderPosition.failures ladder.symm)⟩
    dsimp only
    rw [settings]
    exact congrArg Sequencer.timers seq
  | cold =>
    obtain ⟨seq, r, newest, number, kind, detail, state, rung, failures⟩ := enterRestarting_cold off .ladder x
    exact ⟨⟨congrArg Sequencer.state seq, congrArg Sequencer.hpwrEn seq, congrArg Sequencer.hrst seq,
      congrArg Sequencer.restart seq, congrArg Sequencer.timers seq⟩, r, newest, number, kind, detail,
      state.trans (congrArg Sequencer.state seq).symm, rung.trans (congrArg LadderPosition.rung ladder.symm),
      failures.trans (congrArg LadderPosition.failures ladder.symm)⟩

/-- The action of a restart warning is the rung's, from the ladder (R108, R110). -/
theorem carryOut_restartWarning {cause : WarningCause} {r : Rung} {x y : State}
    (pending : x.seq.warning = some (restartWarning cause r y)) :
    carryOut x = enterRestarting r.action r.offInterval .ladder x := by
  obtain ⟨action, attempts, off, warn, flip⟩ := r
  cases action with
  | warm => exact carryOut_of_warm pending rfl
  | cold => exact carryOut_of_cold pending rfl

/-- WARNED entered with a warning record and a grace in ms (R107, R108). -/
def warnedState (w : Warning) (grace : Nat) (s : State) : State :=
  (enterState .warned s).withSeq
    { (enterState .warned s).seq with
      warning := some w
      timers := { SequencerTimers.stopped with grace := startTimer grace } }

theorem enterWarned_eq (w : Warning) (grace : Nat) (s : State) :
    enterWarned w grace s = announceWarning w (warnedState w grace s) := rfl

/-- The host link's queue had room for the notices of a warning, and LOG's own notice is past (R109, R168). -/
def RoomForNotice (s₀ x : State) : Prop :=
  s₀.host.output.length ≤ 1 → holdsCause x.causes .log = true ∧ x.host.output.length ≤ 3

/-- A warning entered: it is announced, and stands with its grace unless that is 0 (R108). -/
theorem enterWarned_announced (w : Warning) (grace : Nat) {s₀ x : State} (room : RoomForNotice s₀ x) :
    WarningAnnounced w grace x.log.nextSeq s₀ (enterWarned w grace x) ∧
      (grace ≠ 0 → (enterWarned w grace x).seq = (warnedState w grace x).seq) ∧
      (grace = 0 → enterWarned w grace x = carryOut (announcedState w (warnedState w grace x))) := by
  have left : graceLeft (warnedState w grace x) = grace := rfl
  rw [enterWarned_eq]
  refine ⟨announceWarning_announced (s := warnedState w grace x) rfl left room, ?_, ?_⟩
  · intro some_left
    rw [announceWarning_eq, left, if_neg some_left]
    exact (announcedState_keeps w _).1
  · intro none_left
    rw [announceWarning_eq, left, if_pos none_left]

theorem announcedState_nextSeq (w : Warning) (s : State) :
    (announcedState w s).log.nextSeq = followingSeq s.log.nextSeq := by
  rw [(announcedState_keeps w s).2.2.2.2.2]
  exact (appendLog_newest _ _ _).2

/-- The ladder's answer ACT is acted on (R74, R75, R108). -/
theorem actOnAnswer_carriedOut {taken : SupervisorState} {cause : WarningCause} {warned : Bool} {r : Rung} {s₀ x : State}
    (settings : x.settings = s₀.settings) (room : warned = true → RoomForNotice s₀ x)
    (when : warned = (decide (taken = .booting) || decide (taken = .running))) :
    RungCarriedOut cause warned r x.log.nextSeq s₀ (actOnAnswer taken cause (x, .act r)) := by
  have same : (actOnAnswer taken cause (x, .act r)).settings = s₀.settings := by
    rw [← settings]
    simp
  subst when
  unfold RungCarriedOut
  rw [same]
  by_cases warns : (decide (taken = .booting) || decide (taken = .running)) = true ∧ r.warn = true
  · have entered : actOnAnswer taken cause (x, .act r) =
        enterWarned (restartWarning cause r x) (x.settings.timing.warningGrace * 1000) x := by
      unfold actOnAnswer
      exact if_pos (by simp [warns.1, warns.2])
    obtain ⟨announced, standing, done⟩ :=
      enterWarned_announced (restartWarning cause r x) (x.settings.timing.warningGrace * 1000) (room warns.1)
    rw [entered, ← settings]
    refine ⟨fun _ => announced, ?_⟩
    rw [if_pos warns]
    split
    next positive =>
      rw [standing (by omega)]
      exact ⟨rfl, rfl, rfl⟩
    next zero =>
      have none_left : x.settings.timing.warningGrace * 1000 = 0 := by
        rw [Nat.eq_zero_of_not_pos fun positive => zero ⟨warns.1, warns.2, positive⟩]
      have pending : (announcedState (restartWarning cause r x)
          (warnedState (restartWarning cause r x) (x.settings.timing.warningGrace * 1000) x)).seq.warning =
            some (restartWarning cause r x) := by
        rw [(announcedState_keeps _ _).1]
        rfl
      have begun := enterRestarting_begun r (announcedState (restartWarning cause r x)
          (warnedState (restartWarning cause r x) (x.settings.timing.warningGrace * 1000) x))
      rw [announcedState_nextSeq] at begun
      rw [done none_left, carryOut_restartWarning pending]
      exact begun
  · have entered : actOnAnswer taken cause (x, .act r) = enterRestarting r.action r.offInterval .ladder x := by
      unfold actOnAnswer
      refine if_neg fun both => warns ?_
      rw [Bool.and_eq_true] at both
      exact ⟨both.2, both.1⟩
    rw [entered, if_neg (fun all => warns ⟨all.1, all.2.1⟩), if_neg warns]
    exact ⟨fun both => absurd both warns, enterRestarting_begun r x⟩

/-! ### A failure (R74, R97 to R101) -/

theorem Recent.announceWarning {after : Nat} {r : LogRecord} {s : State} (h : Recent after r s.log) (few : after < 30)
    (w : Warning) : Recent (after + 2) r (announceWarning w s).log := by
  have issued := h.appendLog (Nat.lt_succ_of_lt few) .warningIssued (BitVec.ofNat 16 (warningCauseCode w.cause))
  rw [← (announcedState_keeps w s).2.2.2.2.2] at issued
  rw [announceWarning_eq]
  split
  · exact issued.carryOut (Nat.succ_lt_succ few)
  · exact issued.le (Nat.le_succ _)

theorem Recent.actOnAnswer {after : Nat} {r : LogRecord} {x : State} (h : Recent after r x.log) (few : after < 30)
    (taken : SupervisorState) (cause : WarningCause) (answer : LadderAnswer) :
    Recent (after + 2) r (actOnAnswer taken cause (x, answer)).log := by
  unfold Machine.actOnAnswer
  cases answer with
  | lockout =>
    have entered : Recent after r (enterState .lockedOut x).log := h
    exact (entered.appendLog (Nat.lt_succ_of_lt few) _ _).le (Nat.le_succ _)
  | act rung =>
    dsimp only
    split
    · rw [enterWarned_eq]
      have entered : Recent after r
        (warnedState (restartWarning cause rung x) (x.settings.timing.warningGrace * 1000) x).log := h
      exact entered.announceWarning few _
    · exact (h.enterRestarting (Nat.lt_succ_of_lt few) _ _ _).le (Nat.le_succ _)

theorem actOnAnswer_contents (taken : SupervisorState) (cause : WarningCause) (x : State) (answer : LadderAnswer) :
    (actOnAnswer taken cause (x, answer)).ladder = x.ladder ∧ (actOnAnswer taken cause (x, answer)).store = x.store ∧
      (actOnAnswer taken cause (x, answer)).settings = x.settings := by
  simp

/-- Two states that a failure is answered alike in: the ladder, the store, the numbering and the state are the same, and
for a failure that is warned of the host link's queue is. -/
structure FailsAlike (warned : Bool) (s₀ s : State) : Prop where
  settings : s.settings = s₀.settings
  ladder : s.ladder = s₀.ladder
  nextSeq : s.log.nextSeq = s₀.log.nextSeq
  store : s.store = s₀.store
  state : s.seq.state = s₀.seq.state
  host : warned = true → s.host = s₀.host

/-- A failure's record appended and the timers of the state stopped, before the ladder counts (R74). -/
def failedState (kind : RecordKind) (detail : Half) (s : State) : State :=
  mapTimers (fun _ => SequencerTimers.stopped) (appendLog kind detail s)

theorem takeFailure_eq (kind : RecordKind) (detail : Half) (cause : WarningCause) (s : State) :
    takeFailure kind detail cause s = actOnAnswer s.seq.state cause (ladderFailure (failedState kind detail s)) := rfl

theorem failedState_contents (kind : RecordKind) (detail : Half) (s : State) :
    (failedState kind detail s).settings = s.settings ∧ (failedState kind detail s).ladder = s.ladder ∧
      (failedState kind detail s).store = s.store ∧ (failedState kind detail s).seq.state = s.seq.state ∧
      (failedState kind detail s).log.nextSeq = followingSeq s.log.nextSeq ∧
      holdsCause (failedState kind detail s).causes .log = true ∧
      (failedState kind detail s).host.output.length ≤ s.host.output.length + 1 := by
  refine ⟨by simp [failedState], by simp [failedState], by simp [failedState], by simp [failedState],
    (appendLog_newest kind detail s).2, holdsCause_log_appendLog kind detail s, length_output_appendLog_le kind detail s⟩

/-- The slot toggled and the flip counted, before SLOT_FLIP is appended (R99). -/
def toggledState (s : State) : State :=
  s.withStore { s.store with slot := !s.store.slot, flips := bump s.store.flips }

/-- What a flip adds to the log and leaves of the rest, with LOG pending already (R99). -/
theorem flipSlot_frame {s : State} (logged : holdsCause s.causes .log = true) :
    (flipSlot s).settings = s.settings ∧ (flipSlot s).log.nextSeq = followingSeq s.log.nextSeq ∧
      holdsCause (flipSlot s).causes .log = true ∧ (flipSlot s).host = s.host := by
  refine ⟨by simp, ?_, ?_, ?_⟩
  · rw [flipSlot_log]
    exact (appendLog_newest _ _ _).2
  · exact holdsCause_log_appendLog _ _ _
  · exact appendLog_host_of_pending (s := toggledState s) logged .slotFlip (if !s.store.slot then 1 else 0)

theorem Recent.flipSlot {after : Nat} {r : LogRecord} {s : State} (h : Recent after r s.log) (few : after < 31) :
    Recent (after + 1) r (flipSlot s).log := by
  rw [flipSlot_log]
  exact Recent.appendLog (s := toggledState s) h few _ _

/-- A flip of y, as it stands in a later t, toggles the slot on the way from an s that holds y's store. -/
theorem flipSlot_toggled_later {y s t : State} (store : y.store = s.store) (state : y.seq.state = s.seq.state)
    (store' : t.store = (flipSlot y).store) (ladder : t.ladder = y.ladder)
    (kept : ∀ r, Recent 0 r (flipSlot y).log → r ∈ t.log.ring) : SlotToggled y.log.nextSeq s t := by
  obtain ⟨contents, -⟩ := flipSlot_toggled y
  obtain ⟨slot, -, -, -⟩ := flipSlot_contents y
  have record : Recent 0 (stampRecord .slotFlip (if y.store.slot then 0 else 1) (toggledState y)) (flipSlot y).log := by
    rw [flipSlot_log]
    exact recent_appendLog _ _ (toggledState y)
  refine ⟨by rwa [store', ← store], _, kept _ record, rfl, rfl, ?_, state, ?_, ?_, ?_⟩
  · rw [store', slot]
    cases y.store.slot <;> rfl
  · rw [ladder]
    rfl
  · rw [ladder]
    rfl
  · rw [store', slot]
    rfl

/-- What leaving a rung leaves of a state with LOG pending (R97, R99). -/
theorem leaveRung_frame (r : Rung) {y : State} (logged : holdsCause y.causes .log = true) :
    (leaveRung r y).settings = y.settings ∧
      (leaveRung r y).log.nextSeq = (if r.flip then followingSeq y.log.nextSeq else y.log.nextSeq) ∧
      holdsCause (leaveRung r y).causes .log = true ∧ (leaveRung r y).host = y.host ∧
      (leaveRung r y).ladder = y.ladder := by
  obtain ⟨settings, next, pending, host⟩ := flipSlot_frame logged
  unfold leaveRung
  split
  · exact ⟨settings, next, pending, host, (flipSlot_contents y).2.2.1⟩
  · exact ⟨rfl, rfl, logged, rfl, rfl⟩

theorem Recent.leaveRung {after : Nat} {x : LogRecord} {y : State} (h : Recent after x y.log) (few : after < 31)
    (r : Rung) : Recent (after + 1) x (leaveRung r y).log := by
  unfold Machine.leaveRung
  split
  · exact h.flipSlot few
  · exact h.le (Nat.le_succ _)

/-- A rung left by y, as it stands once the ladder's answer has been acted on. -/
theorem leaveRung_left (r : Rung) {y s : State} (store : y.store = s.store) (state : y.seq.state = s.seq.state)
    (taken : SupervisorState) (cause : WarningCause) (answer : LadderAnswer) :
    RungLeft r.flip y.log.nextSeq s (actOnAnswer taken cause (leaveRung r y, answer)) := by
  obtain ⟨ladder', store', -⟩ := actOnAnswer_contents taken cause (leaveRung r y) answer
  unfold RungLeft
  split
  next flip =>
    have left : leaveRung r y = flipSlot y := if_pos flip
    rw [left] at ladder' store' ⊢
    exact flipSlot_toggled_later store state store' (ladder'.trans (flipSlot_contents y).2.2.1)
      fun x record => (record.actOnAnswer (by decide) taken cause answer).mem
  next stays =>
    have left : leaveRung r y = y := if_neg stays
    rw [left] at store' ⊢
    exact store'.trans store

/-! The ladder's three answers (R97, R98). -/

theorem ladderFailure_of_left {r : Rung} {f : State} (rung : f.settings.ladder[f.ladder.rung]? = some r)
    (left : f.ladder.failures < r.attempts) :
    ladderFailure f = (f.withLadder ⟨f.ladder.rung, f.ladder.failures + 1⟩, .act r) := by
  unfold ladderFailure
  rw [rung]
  exact if_pos left

theorem ladderFailure_of_next {r next : Rung} {f : State} (rung : f.settings.ladder[f.ladder.rung]? = some r)
    (used : r.attempts ≤ f.ladder.failures) (following : f.settings.ladder[f.ladder.rung + 1]? = some next) :
    ladderFailure f = (leaveRung r (f.withLadder ⟨f.ladder.rung + 1, 1⟩), .act next) := by
  unfold ladderFailure
  rw [rung]
  refine (if_neg (Nat.not_lt.2 used)).trans ?_
  rw [following]

theorem ladderFailure_of_last {r : Rung} {f : State} (rung : f.settings.ladder[f.ladder.rung]? = some r)
    (used : r.attempts ≤ f.ladder.failures) (last : f.settings.ladder[f.ladder.rung + 1]? = none) :
    ladderFailure f = (leaveRung r f, .lockout) := by
  unfold ladderFailure
  rw [rung]
  refine (if_neg (Nat.not_lt.2 used)).trans ?_
  rw [last]

/-- A failure is answered as R74 and R97 to R101 say, also when it is taken in a state that only fails alike. -/
theorem takeFailure_answered (kind : RecordKind) (detail : Half) (cause : WarningCause) {warned : Bool} {s₀ s : State}
    (when : warned = (decide (s.seq.state = .booting) || decide (s.seq.state = .running)))
    (alike : FailsAlike warned s₀ s) : FailureAnswered cause warned s₀ (takeFailure kind detail cause s) := by
  obtain ⟨settings, ladder, store, state, next, logged, few⟩ := failedState_contents kind detail s
  rw [alike.settings] at settings
  rw [alike.ladder] at ladder
  rw [alike.store] at store
  rw [alike.state] at state
  rw [alike.nextSeq] at next
  have room : warned = true → s₀.host.output.length ≤ 1 → (failedState kind detail s).host.output.length ≤ 3 := by
    intro warns small
    rw [alike.host warns] at few
    omega
  rw [takeFailure_eq]
  generalize failedState kind detail s = f at *
  refine ⟨?settings, fun r rung => ?_⟩
  case settings => rw [← settings]; simp
  rw [← settings, ← ladder] at rung
  refine ⟨fun left => ?left, fun used following next' => ?next, fun used last => ?last⟩
  case left =>
    rw [← ladder] at left
    rw [ladderFailure_of_left rung left, ← next]
    obtain ⟨ladder', store', -⟩ := actOnAnswer_contents s.seq.state cause
      (f.withLadder ⟨f.ladder.rung, f.ladder.failures + 1⟩) (.act r)
    exact ⟨ladder'.trans (by rw [← ladder]; rfl), store'.trans store,
      actOnAnswer_carriedOut (x := f.withLadder ⟨f.ladder.rung, f.ladder.failures + 1⟩) settings
        (fun warns small => ⟨logged, room warns small⟩) when⟩
  case next =>
    rw [← settings, ← ladder] at next'
    rw [← ladder] at used
    rw [ladderFailure_of_next rung used next', ← next]
    obtain ⟨settingsLeft, nextLeft, loggedLeft, hostLeft, ladderLeft⟩ :=
      leaveRung_frame r (y := f.withLadder ⟨f.ladder.rung + 1, 1⟩) logged
    obtain ⟨ladder', -, -⟩ := actOnAnswer_contents s.seq.state cause
      (leaveRung r (f.withLadder ⟨f.ladder.rung + 1, 1⟩)) (.act following)
    have carried := actOnAnswer_carriedOut (cause := cause) (r := following) (settingsLeft.trans settings)
      (fun warns small => ⟨loggedLeft, by rw [hostLeft]; exact room warns small⟩) when
    rw [nextLeft] at carried
    exact ⟨ladder'.trans (ladderLeft.trans (by rw [← ladder]; rfl)),
      leaveRung_left (y := f.withLadder ⟨f.ladder.rung + 1, 1⟩) r store state _ _ _, carried⟩
  case last =>
    rw [← settings, ← ladder] at last
    rw [← ladder] at used
    rw [ladderFailure_of_last rung used last, ← next]
    obtain ⟨-, nextLeft, -, -, ladderLeft⟩ := leaveRung_frame r logged
    obtain ⟨ladder', -, -⟩ := actOnAnswer_contents s.seq.state cause (leaveRung r f) .lockout
    have locked := lockedOut_recorded (leaveRung r f)
    rw [nextLeft] at locked
    exact ⟨ladder'.trans (ladderLeft.trans ladder), leaveRung_left r store state _ _ _, locked⟩

/-- The failure's own record is in the log afterwards (R74). -/
theorem takeFailure_recorded (kind : RecordKind) (detail : Half) (cause : WarningCause) (s : State) :
    stampRecord kind detail s ∈ (takeFailure kind detail cause s).log.ring := by
  have record : Recent 0 (stampRecord kind detail s) (failedState kind detail s).log := recent_appendLog kind detail s
  have acted {x : State} (h : Recent 1 (stampRecord kind detail s) x.log) (answer : LadderAnswer) :
      stampRecord kind detail s ∈ (actOnAnswer s.seq.state cause (x, answer)).log.ring :=
    (h.actOnAnswer (by decide) s.seq.state cause answer).mem
  rw [takeFailure_eq]
  generalize failedState kind detail s = f at *
  have counted (p : LadderPosition) : Recent 0 (stampRecord kind detail s) (f.withLadder p).log := record
  unfold ladderFailure
  split
  · exact acted (record.le (by decide)) _
  · split
    · exact acted ((counted _).le (by decide)) _
    · split
      · exact acted ((counted _).leaveRung (by decide) _) _
      · exact acted (record.leaveRung (by decide) _) _

theorem startPowering_hpg (s : State) : (startPowering s).seq.hpg = s.seq.hpg := by
  rw [startPowering_seq]
  split <;> rfl

theorem enterRestarting_hpg (action : RestartAction) (off : Nat) (source : RestartSource) (s : State) :
    (enterRestarting action off source s).seq.hpg = s.seq.hpg := by
  rw [enterRestarting_eq, appendLog_seq]
  cases action <;> rfl

theorem carryOut_hpg (s : State) : (carryOut s).seq.hpg = s.seq.hpg := by
  unfold carryOut
  split
  · rfl
  · split
    · exact enterRestarting_hpg _ _ _ _
    · exact enterRestarting_hpg _ _ _ _
    · unfold endThermalWarning
      split
      · rfl
      · rw [enterWarming_eq]
        split
        · exact startPowering_hpg _
        · rfl

/-- The level of HPG is not changed by a failure (R65). -/
theorem takeFailure_hpg (kind : RecordKind) (detail : Half) (cause : WarningCause) (s : State) :
    (takeFailure kind detail cause s).seq.hpg = s.seq.hpg := by
  have failed : (failedState kind detail s).seq.hpg = s.seq.hpg := by simp [failedState]
  have acted (x : State) (answer : LadderAnswer) :
      (actOnAnswer s.seq.state cause (x, answer)).seq.hpg = x.seq.hpg := by
    unfold actOnAnswer
    cases answer with
    | lockout => simp
    | act rung =>
      dsimp only
      split
      · rw [enterWarned_eq, announceWarning_eq]
        split
        · rw [carryOut_hpg, (announcedState_keeps _ _).1]
          rfl
        · rw [(announcedState_keeps _ _).1]
          rfl
      · exact enterRestarting_hpg _ _ _ _
  have left (rung : Rung) (y : State) : (leaveRung rung y).seq.hpg = y.seq.hpg := by
    unfold leaveRung
    split
    · rw [(flipSlot_contents y).2.2.2]
    · rfl
  rw [takeFailure_eq, ← failed]
  generalize failedState kind detail s = f
  unfold ladderFailure
  split
  · exact acted _ _
  · split
    · exact acted _ _
    · split
      · exact (acted _ _).trans (left _ _)
      · exact (acted _ _).trans (left _ _)

/-! ### HPG, the timeouts and the other expiries -/

theorem startRunTimeout_not_expired {s : State} (positive : 0 < s.settings.timing.runTimeout) :
    expired (startRunTimeout s).seq.timers.run = false :=
  decide_eq_false (by
    show s.settings.timing.runTimeout * 1000 ≠ 0
    omega)

/-- Settles O46. -/
theorem powerGoodRisesAndFalls : Obligations.PowerGoodRisesAndFalls := by
  unfold Obligations.PowerGoodRisesAndFalls
  refine ⟨?rise, ?riseElsewhere, ?present, ?absent, ?off, ?stopping, ?warned, ?failure⟩
  case rise =>
    intro s absent powering idle
    have taken : hpgRise s = enterResetHold (setPowerGood true s) := by
      rw [hpgRise, if_neg (by simp [absent]), if_pos (by simp [powering, idle])]
    exact ⟨enterResetHold (setPowerGood true s), congrArg Host.Outcome.next taken, rfl, rfl, rfl, rfl, rfl, rfl⟩
  case riseElsewhere =>
    intro s absent elsewhere
    have taken : hpgRise s = setPowerGood true s := by
      rw [hpgRise, if_neg (by simp [absent]), if_neg]
      simp only [Bool.and_eq_true, decide_eq_true_eq, Option.isNone_iff_eq_none]
      rintro ⟨idle, powering⟩
      exact elsewhere.elim (fun other => other powering) (fun busy => by simp [idle] at busy)
    exact congrArg Host.Outcome.next taken
  case present => exact fun s present => congrArg _ (if_pos present)
  case absent => exact fun s absent => congrArg _ (if_neg (by simp [absent]))
  case off =>
    intro s present off
    have taken : hpgFall s = setPowerGood false s := by
      rw [hpgFall, if_pos present, if_neg]
      simp only [Bool.and_eq_true, Option.isNone_iff_eq_none]
      rintro ⟨idle, powered⟩
      exact off.elim (fun dark => by simp [powered] at dark) (fun busy => by simp [idle] at busy)
    exact congrArg Host.Outcome.next taken
  all_goals
    intro s present powered idle
    have lost : hpgFall s = powerGoodLoss (setPowerGood false s) := by
      rw [hpgFall, if_pos present, if_pos (by simp [powered, idle])]
  case stopping =>
    intro stopping
    have taken : powerGoodLoss (setPowerGood false s) = enterOff 1 (setPowerGood false s) := by
      rw [powerGoodLoss, show (setPowerGood false s).seq.state = .stopping from stopping]
    exact congrArg Host.Outcome.next (lost.trans taken)
  case warned =>
    intro warned
    have taken : powerGoodLoss (setPowerGood false s) = carryOut (appendLog .powerFault 2 (setPowerGood false s)) := by
      rw [powerGoodLoss, show (setPowerGood false s).seq.state = .warned from warned]
    exact congrArg Host.Outcome.next (lost.trans taken)
  case failure =>
    intro running
    have taken : powerGoodLoss (setPowerGood false s) = takeFailure .powerFault 1 .powerFault (setPowerGood false s) := by
      have same : (setPowerGood false s).seq.state = s.seq.state := rfl
      rw [powerGoodLoss, same]
      rcases running with state | state | state | state <;> rw [state] <;> rfl
    refine ⟨_, congrArg Host.Outcome.next (lost.trans taken), takeFailure_hpg _ _ _ _,
      ⟨_, takeFailure_recorded _ _ _ _, rfl, rfl, rfl, rfl, rfl, rfl⟩,
      takeFailure_answered _ _ _ (Bool.decide_or _ _) ⟨rfl, rfl, rfl, rfl, rfl, fun _ => rfl⟩⟩

/-- Settles O47. -/
theorem timeoutsAreFailures : Obligations.TimeoutsAreFailures := by
  unfold Obligations.TimeoutsAreFailures
  refine ⟨?boot, ?run, ?hpg, ?forestalled⟩
  case boot =>
    intro n s booting out
    have taken : bootWindowExpiry s = takeFailure .checkinTimeout 0 .checkinTimeout s := if_pos (by simp [booting, out])
    exact ⟨_, congrArg Host.Outcome.next taken, ⟨_, takeFailure_recorded _ _ _ _, rfl, rfl, rfl, booting, rfl, rfl⟩,
      takeFailure_answered _ _ _ (by simp [booting]) ⟨rfl, rfl, rfl, rfl, rfl, fun _ => rfl⟩⟩
  case run =>
    intro n s running out
    have taken : runTimeoutExpiry s = takeFailure .checkinTimeout 1 .checkinTimeout s := if_pos (by simp [running, out])
    exact ⟨_, congrArg Host.Outcome.next taken, ⟨_, takeFailure_recorded _ _ _ _, rfl, rfl, rfl, running, rfl, rfl⟩,
      takeFailure_answered _ _ _ (by simp [running]) ⟨rfl, rfl, rfl, rfl, rfl, fun _ => rfl⟩⟩
  case hpg =>
    intro n s powering out
    have taken : hpgTimeout s = takeFailure .powerFault 0 .powerFault s := if_pos (by simp [powering, out])
    exact ⟨_, congrArg Host.Outcome.next taken, ⟨_, takeFailure_recorded _ _ _ _, rfl, rfl, rfl, powering, rfl, rfl⟩,
      takeFailure_answered _ _ _ (by simp [powering]) ⟨rfl, rfl, rfl, rfl, rfl, fun _ => rfl⟩⟩
  case forestalled =>
    intro tag stage s r some_stage known running positive
    have taken : takeCheckIn stage.toNat (setReceiver .host .hunting s) =
        startRunTimeout (setStage stage.toNat (setReceiver .host .hunting s)) :=
      (takeCheckIn_running (s := setReceiver .host .hunting s) running).trans (if_neg (by omega))
    refine ⟨_, (exec_checkIn_host r known).trans (congrArg Host.Outcome.next taken), congrArg _ (if_neg ?_), rfl, rfl⟩
    rw [startRunTimeout_not_expired (s := setStage stage.toNat (setReceiver .host .hunting s)) positive, Bool.and_false]
    exact Bool.false_ne_true

/-- Settles O48. -/
theorem sequencerTimersExpire : Obligations.SequencerTimersExpire := by
  unfold Obligations.SequencerTimersExpire
  refine ⟨?hold, ?pulse, ?pulseLoss, ?interval, ?powerOff, ?stability, ?graceWarm, ?graceCold, ?graceOff, ?none⟩
  case hold =>
    intro n s state out
    have taken : resetHoldExpiry s = enterBooting s := if_pos (by simp [state, out])
    exact ⟨enterBooting s, congrArg Host.Outcome.next taken, rfl, rfl, rfl, rfl, rfl⟩
  case pulse =>
    intro n s state out present
    have taken : pulseTimerExpiry s = setStage 0 (enterBooting s) :=
      (if_pos (by simp [state, out])).trans (if_pos present)
    exact ⟨setStage 0 (enterBooting s), congrArg Host.Outcome.next taken, rfl, rfl, rfl, rfl, rfl⟩
  case pulseLoss =>
    intro n s state out absent
    have taken : pulseTimerExpiry s = takeFailure .powerFault 1 .powerFault s :=
      (if_pos (by simp [state, out])).trans (if_neg (by simp [absent]))
    exact ⟨_, congrArg Host.Outcome.next taken, ⟨_, takeFailure_recorded _ _ _ _, rfl, rfl, rfl, state⟩,
      takeFailure_answered _ _ _ (by simp [state]) ⟨rfl, rfl, rfl, rfl, rfl, fun _ => rfl⟩⟩
  case interval =>
    intro n r s state out record
    have taken : offIntervalExpiry s = if offRequested s then enterOff 3 s else enterWarming s :=
      if_pos (by simp [state, out])
    have requested : offRequested s = r.offRequested := by rw [offRequested, record]
    rw [requested] at taken
    exact congrArg Host.Outcome.next taken
  case powerOff => exact fun n s state out => congrArg _ (if_pos (by simp [state, out]))
  case stability => exact fun n s state out => congrArg _ (if_pos (by simp [state, out]))
  case graceWarm =>
    intro n w s state out pending action
    have taken := (graceExpiry_of_expired state out).trans (carryOut_of_warm pending action)
    obtain ⟨seq, r, newest, -, kind, detail, shown, -⟩ := enterRestarting_warm 0 .ladder s
    exact ⟨_, congrArg Host.Outcome.next taken, congrArg Sequencer.state seq, congrArg Sequencer.hrst seq,
      congrArg Sequencer.warning seq, congrArg (fun x => x.timers.pulse) seq, ⟨r, newest, kind, detail, shown⟩, by simp⟩
  case graceCold =>
    intro n w off s state out pending action
    have taken := (graceExpiry_of_expired state out).trans (carryOut_of_cold pending action)
    obtain ⟨seq, r, newest, -, kind, detail, shown, -⟩ := enterRestarting_cold off .ladder s
    exact ⟨_, congrArg Host.Outcome.next taken, congrArg Sequencer.state seq, congrArg Sequencer.hpwrEn seq,
      congrArg Sequencer.warning seq, congrArg (fun x => x.timers.offInterval) seq, ⟨r, newest, kind, detail, shown⟩,
      by simp⟩
  case graceOff =>
    exact fun n w s state out pending action =>
      congrArg _ ((graceExpiry_of_expired state out).trans (carryOut_of_off pending action))
  case none =>
    intro s
    have blocked {st : SupervisorState} {timer : Option Timer} (h : s.seq.state ≠ st ∨ expired timer = false) :
        ¬ (decide (s.seq.state = st) && expired timer) = true := by
      rw [Bool.and_eq_true, decide_eq_true_eq]
      rintro ⟨state, out⟩
      exact h.elim (fun other => other state) (fun left => by rw [left] at out; exact Bool.false_ne_true out)
    exact ⟨fun h => congrArg _ (if_neg (blocked h)), fun h => congrArg _ (if_neg (blocked h)),
      fun h => congrArg _ (if_neg (blocked h)), fun h => congrArg _ (if_neg (blocked h)),
      fun h => congrArg _ (if_neg (blocked h)), fun h => congrArg _ (if_neg (blocked h)),
      fun h => congrArg _ (if_neg (blocked h)), fun h => congrArg _ (if_neg (blocked h)),
      fun h => congrArg _ (if_neg (blocked h)), expired_iff⟩

end Sys2Proof.Machine
end

section
/-! SUPPORT. The hottest of some readings, and the fan and the filter watch (R48 to R54). -/

namespace Sys2Proof.Machine

/-! ### The readings of a mask -/

theorem mem_maskReadings {s : State} {mask : Byte} {t : Int} :
    t ∈ maskReadings s mask ↔ ∃ c : Channel, mask.getLsbD c.val = true ∧ reading s c = some t := by
  simp [maskReadings, maskChannels, inMask]

theorem hottest_eq_some_iff {l : List Int} {t : Int} : hottest l = some t ↔ t ∈ l ∧ ∀ u ∈ l, u ≤ t := by
  have same : hottest l = l.max? := by cases l <;> rfl
  rw [same, List.max?_eq_some_iff]

theorem hottest_eq_none_iff {l : List Int} : hottest l = none ↔ l = [] := by
  cases l <;> simp [hottest]

/-- The hottest reading of a mask is the one that no reading of the mask exceeds. -/
theorem hottest_maskReadings_iff {s : State} {mask : Byte} {t : Int} :
    hottest (maskReadings s mask) = some t ↔
      (∃ c : Channel, mask.getLsbD c.val = true ∧ reading s c = some t) ∧
        ∀ (c : Channel) (u : Int), mask.getLsbD c.val = true → reading s c = some u → u ≤ t := by
  rw [hottest_eq_some_iff, mem_maskReadings]
  refine and_congr_right fun _ => ⟨fun h c u on read => h u (mem_maskReadings.2 ⟨c, on, read⟩), fun h u mem => ?_⟩
  obtain ⟨c, on, read⟩ := mem_maskReadings.1 mem
  exact h c u on read

theorem reading_congr {s t : State} (meas : t.meas = s.meas) : reading t = reading s := by
  funext c
  rw [reading_eq, reading_eq, meas]

/-! ### The fan duty (R49) -/

theorem curveDuty_of_none {s : State} (none_valid : s.meas.fault = true ∨
    ∀ c : Channel, s.settings.fan.mask.getLsbD c.val = true → reading s c = none) : curveDuty s = 1000 := by
  unfold curveDuty
  split
  · rfl
  next ok =>
    have empty : hottest (maskReadings s s.settings.fan.mask) = none := by
      refine hottest_eq_none_iff.2 (List.eq_nil_iff_forall_not_mem.2 fun t mem => ?_)
      obtain ⟨c, on, read⟩ := mem_maskReadings.1 mem
      rw [(none_valid.resolve_left ok) c on] at read
      cases read
    rw [empty]

theorem curveDuty_of_highest {s : State} {highest : Int} (ok : s.meas.fault = false)
    (found : hottest (maskReadings s s.settings.fan.mask) = some highest) :
    curveDuty s = curveValue s.settings.fan.curve highest := by
  rw [curveDuty, if_neg (by simp [ok]), found]

theorem fanDutyOf_congr {s t : State} (meas : t.meas = s.meas) (settings : t.settings = s.settings)
    (powered : t.seq.hpwrEn = s.seq.hpwrEn) : fanDutyOf t = fanDutyOf s := by
  have duty : curveDuty t = curveDuty s := by
    unfold curveDuty maskReadings
    rw [reading_congr meas, meas, settings]
  rw [fanDutyOf, fanDutyOf, duty, settings, powered]

/-! ### The fan's tests (R51, R52) -/

theorem fanTest_of_ok {s : State} (ok : s.thermal.fanFault = false) : fanTest s = stallTest s := if_neg (by simp [ok])

theorem fanTest_of_fault {s : State} (fault : s.thermal.fanFault = true) : fanTest s = recoveryTest s := if_pos fault

/-- What the tests leave of the measurement, and which blocks they do not touch. -/
theorem fanTest_keeps (s : State) :
    (fanTest s).thermal.speed = s.thermal.speed ∧ (fanTest s).thermal.tach = s.thermal.tach ∧
      (fanTest s).thermal.fanTimer = s.thermal.fanTimer ∧ (fanTest s).meas = s.meas ∧
      (fanTest s).settings = s.settings ∧ (fanTest s).seq = s.seq := by
  unfold fanTest recoveryTest stallTest enterFanFault leaveFanFault
  split
  · split
    · split <;> simp
    · simp
  · split
    · split <;> simp
    · simp

/-- A fan period expiry: the measurement, the tests, and the duty anew (R48, R49). -/
theorem fanExpiry_eq (s : State) :
    fanExpiry s =
      (fanTest (measureFan s)).withThermal { (fanTest (measureFan s)).thermal with fanDuty := fanDutyOf s } := by
  obtain ⟨-, -, -, meas, settings, seq⟩ := fanTest_keeps (measureFan s)
  have duty : fanDutyOf (fanTest (measureFan s)) = fanDutyOf s :=
    fanDutyOf_congr meas settings (congrArg Sequencer.hpwrEn seq)
  rw [← duty]
  rfl

/-- The stall test of the period just ended, while the fan is OK (R51). -/
theorem fanExpiry_of_ok {s : State} (ok : s.thermal.fanFault = false) :
    fanExpiry s =
      (stallTest (measureFan s)).withThermal { (stallTest (measureFan s)).thermal with fanDuty := fanDutyOf s } := by
  rw [fanExpiry_eq, fanTest_of_ok (s := measureFan s) ok]

/-- The recovery test of the period just ended, while the fan is in FAULT (R52). -/
theorem fanExpiry_of_fault {s : State} (fault : s.thermal.fanFault = true) :
    fanExpiry s =
      (recoveryTest (measureFan s)).withThermal
        { (recoveryTest (measureFan s)).thermal with fanDuty := fanDutyOf s } := by
  rw [fanExpiry_eq, fanTest_of_fault (s := measureFan s) fault]

theorem speedOf_detail (pulses : Nat) : (BitVec.ofNat 16 (speedOf pulses)).toNat = speedOf pulses := by
  rw [BitVec.toNat_ofNat]
  refine Nat.mod_eq_of_lt ?_
  unfold speedOf
  omega

/-- Settles O41. -/
theorem fanPeriodsMeasureAndJudge : Obligations.FanPeriodsMeasureAndJudge := by
  unfold Obligations.FanPeriodsMeasureAndJudge
  refine ⟨fun s running => congrArg _ (if_pos running), fun s => curveDuty_of_none, ?highest, ?period⟩
  case highest =>
    intro c highest s ok on read above
    exact curveDuty_of_highest ok (hottest_maskReadings_iff.2 ⟨⟨c, on, read⟩, above⟩)
  case period =>
    rintro speed s running rfl
    have taken : fanPeriodExpiry s = fanExpiry s := if_pos running
    obtain ⟨speed, tach, timer, -⟩ := fanTest_keeps (measureFan s)
    have shown := fanExpiry_eq s
    refine ⟨fanExpiry s, congrArg Host.Outcome.next taken, by rw [shown]; exact speed, by rw [shown]; exact tach,
      by rw [shown]; exact timer, by rw [shown]; rfl, ?turning, ?stalling, ?stalled, ?still, ?recovering, ?recovered⟩
    case turning =>
      intro ok turns
      have test : stallTest (measureFan s) =
          (measureFan s).withThermal { (measureFan s).thermal with stall := 0 } := if_neg turns
      rw [fanExpiry_of_ok ok, test]
      exact ⟨rfl, rfl, ok⟩
    case stalling =>
      intro ok driven slow few
      have test : stallTest (measureFan s) =
          (measureFan s).withThermal { (measureFan s).thermal with stall := s.thermal.stall + 1 } :=
        (if_pos ⟨driven, slow⟩).trans (if_neg (show ¬ 3 ≤ s.thermal.stall + 1 by omega))
      rw [fanExpiry_of_ok ok, test]
      exact ⟨rfl, rfl, ok⟩
    case stalled =>
      intro ok driven slow enough
      have test : stallTest (measureFan s) = enterFanFault (measureFan s) :=
        (if_pos ⟨driven, slow⟩).trans (if_pos (show 3 ≤ s.thermal.stall + 1 by omega))
      have result := fanExpiry_of_ok ok
      rw [test] at result
      have thermal : (enterFanFault (measureFan s)).thermal =
          { (measureFan s).thermal with fanFault := true, stall := 0, recovery := 0 } := by simp [enterFanFault]
      have cause : holdsCause (enterFanFault (measureFan s)).causes .fan = true := by
        rw [enterFanFault, holdsCause_raise]
        simp
      have record : ∃ r, (enterFanFault (measureFan s)).log.ring.getLast? = some r ∧ r.kind = .fanFault ∧
          r.detail = BitVec.ofNat 16 (speedOf s.thermal.tach) := by
        rw [enterFanFault, (raise_keeps _ _).2.2.2.2.2.1]
        exact ⟨_, (appendLog_newest _ _ _).1, rfl, rfl⟩
      obtain ⟨r, newest, kind, detail⟩ := record
      have row : fanFault s = fanExpiry s := by
        unfold fanFault
        rw [taken]
        exact if_pos (by rw [result, ok]; show (!false && _) = true; rw [thermal]; rfl)
      refine ⟨?_, ?_, ?_, ?_, ⟨r, ?_, kind, ?_⟩, congrArg Host.Outcome.next row⟩
      · rw [result]; exact congrArg Thermal.fanFault thermal
      · rw [result]; exact congrArg Thermal.stall thermal
      · rw [result]; exact congrArg Thermal.recovery thermal
      · rw [result]; exact cause
      · rw [result]; exact newest
      · rw [detail]; exact speedOf_detail _
    case still =>
      intro fault slow
      have test : recoveryTest (measureFan s) =
          (measureFan s).withThermal { (measureFan s).thermal with recovery := 0 } := if_neg (Nat.not_le.2 slow)
      rw [fanExpiry_of_fault fault, test]
      exact ⟨rfl, rfl, fault⟩
    case recovering =>
      intro fault fast few
      have test : recoveryTest (measureFan s) =
          (measureFan s).withThermal { (measureFan s).thermal with recovery := s.thermal.recovery + 1 } :=
        (if_pos fast).trans (if_neg (show ¬ 3 ≤ s.thermal.recovery + 1 by omega))
      rw [fanExpiry_of_fault fault, test]
      exact ⟨rfl, rfl, fault⟩
    case recovered =>
      intro fault fast enough
      have test : recoveryTest (measureFan s) = leaveFanFault (measureFan s) :=
        (if_pos fast).trans (if_pos (show 3 ≤ s.thermal.recovery + 1 by omega))
      have result := fanExpiry_of_fault fault
      rw [test] at result
      have thermal : (leaveFanFault (measureFan s)).thermal =
          { (measureFan s).thermal with fanFault := false, stall := 0, recovery := 0 } := by simp [leaveFanFault]
      have record : ∃ r, (leaveFanFault (measureFan s)).log.ring.getLast? = some r ∧ r.kind = .fanOk ∧
          r.detail = BitVec.ofNat 16 (speedOf s.thermal.tach) :=
        ⟨_, (appendLog_newest _ _ _).1, rfl, rfl⟩
      obtain ⟨r, newest, kind, detail⟩ := record
      have row : fanOk s = fanExpiry s := by
        unfold fanOk
        rw [taken]
        exact if_pos (by rw [result, fault]; show (true && !_) = true; rw [thermal]; rfl)
      refine ⟨?_, ?_, ?_, ⟨r, ?_, kind, ?_⟩, congrArg Host.Outcome.next row⟩
      · rw [result]; exact congrArg Thermal.fanFault thermal
      · rw [result]; exact congrArg Thermal.stall thermal
      · rw [result]; exact congrArg Thermal.recovery thermal
      · rw [result]; exact newest
      · rw [detail]; exact speedOf_detail _

/-! ### The filter watch (R53, R54) -/

theorem minuteStep_of_set {s : State} (set : s.thermal.filterSet = true) :
    minuteStep s = s.withThermal { s.thermal with minuteTimer := startTimer Config.minute } :=
  if_pos set

theorem minuteStep_of_below {s : State} (clear : s.thermal.filterSet = false)
    (below : watchStep s < s.settings.limits.serviceCount) :
    minuteStep s = s.withThermal { s.thermal with minuteTimer := startTimer Config.minute, watch := watchStep s } :=
  (if_neg (by simp [clear])).trans (if_neg (Nat.not_le.2 below))

theorem minuteStep_of_reached {s : State} (clear : s.thermal.filterSet = false)
    (reached : s.settings.limits.serviceCount ≤ watchStep s) :
    minuteStep s =
      enterFilterService
        (s.withThermal { s.thermal with minuteTimer := startTimer Config.minute, watch := watchStep s }) :=
  (if_neg (by simp [clear])).trans (if_pos reached)

/-- Settles O42. -/
theorem filterWatchCountsStrainedMinutes : Obligations.FilterWatchCountsStrainedMinutes := by
  unfold Obligations.FilterWatchCountsStrainedMinutes
  intro count s running counted
  have step : watchStep s = count := by
    rw [counted]
    unfold watchStep strained
    cases reading s s.settings.limits.board <;> cases reading s s.settings.limits.inlet <;> simp
  have taken : minuteExpiry s = minuteStep s := if_pos running
  refine ⟨fun set => ?_, fun clear below => ?_, fun clear reached => ?_⟩
  · exact congrArg Host.Outcome.next (taken.trans (minuteStep_of_set set))
  · rw [← step] at below ⊢
    exact congrArg Host.Outcome.next (taken.trans (minuteStep_of_below clear below))
  · rw [← step] at reached ⊢
    have result := taken.trans (minuteStep_of_reached clear reached)
    have row : filterService s = minuteExpiry s := if_pos (by rw [result, clear]; simp [enterFilterService])
    exact ⟨_, rfl, congrArg Host.Outcome.next result, congrArg Host.Outcome.next (row.trans result)⟩

end Sys2Proof.Machine
end

section
/-! SUPPORT. The overheat monitor: its tests and timers (R56, R58), the trip with its shutdown demand (R57, R81, R115,
R116), and the resume (R58, R82). -/

namespace Sys2Proof.Machine

/-! ### Hot and cool (R56, R58) -/

theorem monitorHot_iff (s : State) :
    monitorHot s = true ↔
      ∃ (c : Channel) (t : Int), s.settings.limits.overheatMask.getLsbD c.val = true ∧ reading s c = some t ∧
        s.settings.limits.tripTemperature ≤ t := by
  simp only [monitorHot, List.any_eq_true, mem_maskReadings, decide_eq_true_eq]
  constructor
  · rintro ⟨t, ⟨c, on, read⟩, hot⟩
    exact ⟨c, t, on, read, hot⟩
  · rintro ⟨c, t, on, read, hot⟩
    exact ⟨t, ⟨c, on, read⟩, hot⟩

theorem monitorCool_iff (s : State) :
    monitorCool s = true ↔
      (∃ c : Channel, s.settings.limits.overheatMask.getLsbD c.val = true) ∧
        ∀ c : Channel, s.settings.limits.overheatMask.getLsbD c.val = true →
          ∃ t, reading s c = some t ∧ t ≤ s.settings.limits.resumeTemperature := by
  have mem (c : Channel) : c ∈ maskChannels s.settings.limits.overheatMask ↔
      s.settings.limits.overheatMask.getLsbD c.val = true := by
    simp [maskChannels, inMask]
  unfold monitorCool
  dsimp only
  rw [Bool.and_eq_true, List.all_eq_true, Bool.not_eq_true', List.isEmpty_eq_false_iff_exists_mem]
  refine and_congr ⟨fun ⟨c, in_mask⟩ => ⟨c, (mem c).1 in_mask⟩, fun ⟨c, on⟩ => ⟨c, (mem c).2 on⟩⟩
    (forall_congr' fun c => (imp_congr_left (mem c)).trans (imp_congr_right fun _ => ?_))
  cases reading s c <;> simp

/-- A monitor that reads anything has a highest temperature, which the records show (R57, R58). -/
theorem hottestDetail_of_reading {s : State} {c : Channel} {u : Int}
    (on : s.settings.limits.overheatMask.getLsbD c.val = true) (read : reading s c = some u) :
    ∃ t, HighestInMask s t ∧ hottestDetail s = BitVec.ofInt 16 t := by
  cases found : hottest (maskReadings s s.settings.limits.overheatMask) with
  | none =>
    have mem := mem_maskReadings.2 ⟨c, on, read⟩
    rw [hottest_eq_none_iff.1 found] at mem
    exact absurd mem (List.not_mem_nil)
  | some t => exact ⟨t, hottest_maskReadings_iff.1 found, by rw [hottestDetail, found]⟩

/-! ### A shutdown demand while TRIPPED (R81, R115, R116) -/

/-- What a shutdown demand changes of a state: the sequencer, the records and causes, the host link, and of the Thermal
Controller the warm timer and the fan duty; no cause is withdrawn. -/
structure Demanded (y t : State) : Prop where
  only : t = { y with thermal := t.thermal, seq := t.seq, log := t.log, causes := t.causes, host := t.host }
  thermal : t.thermal = { y.thermal with warmTimer := t.thermal.warmTimer, fanDuty := t.thermal.fanDuty }
  causes : ∀ c, holdsCause y.causes c = true → holdsCause t.causes c = true

theorem Demanded.refl (y : State) : Demanded y y := ⟨rfl, rfl, fun _ => id⟩

theorem Demanded.trans {y u t : State} (h : Demanded y u) (h' : Demanded u t) : Demanded y t where
  only := h'.only.trans (by rw [h.only])
  thermal := h'.thermal.trans (by rw [h.thermal])
  causes c held := h'.causes c (h.causes c held)

theorem Demanded.enterState (st : SupervisorState) (y : State) : Demanded y (enterState st y) :=
  ⟨rfl, rfl, fun _ => id⟩

theorem Demanded.withSeq (x : Sequencer) (y : State) : Demanded y (y.withSeq x) := ⟨rfl, rfl, fun _ => id⟩

theorem Demanded.raise (c : Cause) (y : State) : Demanded y (raise c y) where
  only := by
    refine (raise_only c y).trans ?_
    rw [(raise_keeps c y).2.2.2.2.2.1, (raise_keeps c y).2.2.2.2.2.2.2.2.2.1]
    simp
  thermal := by simp
  causes _ held := holdsCause_raise_of_held held c

theorem Demanded.appendLog (kind : RecordKind) (detail : Half) (y : State) : Demanded y (appendLog kind detail y) :=
  Demanded.trans (u := y.withLog (addRecord (stampRecord kind detail y) y.log)) ⟨rfl, rfl, fun _ => id⟩ (Demanded.raise .log _)

theorem Demanded.sendHost (f : Frame) (y : State) : Demanded y (sendFrame .host f y) := by
  unfold sendFrame
  split <;> exact ⟨rfl, rfl, fun _ => id⟩

theorem Demanded.announcedState (w : Warning) (y : State) : Demanded y (announcedState w y) :=
  ((Demanded.appendLog _ _ y).trans (Demanded.sendHost _ _)).trans (Demanded.raise _ _)

/-- A thermal warning announced while TRIPPED: with a grace of 0 the computer is off at once, in COOLING (R117). -/
theorem announceWarning_thermal {x : State} (pending : x.seq.warning = some thermalWarning)
    (tripped : x.thermal.tripped = true) :
    announceWarning thermalWarning x =
      if graceLeft x = 0 then enterState .cooling (announcedState thermalWarning x)
      else announcedState thermalWarning x := by
  obtain ⟨seq, -, -, -, thermal, -⟩ := announcedState_keeps thermalWarning x
  have carried : carryOut (announcedState thermalWarning x) =
      enterState .cooling (announcedState thermalWarning x) :=
    (carryOut_of_off (w := thermalWarning) (by rw [seq, pending]) rfl).trans (if_pos (by rw [thermal, tripped]))
  rw [announceWarning_eq, carried]

theorem Demanded.announceThermal {x : State} (pending : x.seq.warning = some thermalWarning)
    (tripped : x.thermal.tripped = true) : Demanded x (announceWarning thermalWarning x) := by
  rw [announceWarning_thermal pending tripped]
  split
  · exact (Demanded.announcedState _ x).trans (Demanded.enterState _ _)
  · exact Demanded.announcedState _ x

/-- The thermal warning stands, or has been carried out (R115 to R117). -/
theorem announceWarning_warned {x s₀ : State} {grace : Nat} (warned : x.seq.state = .warned)
    (pending : x.seq.warning = some thermalWarning) (running : x.seq.timers.grace = some ⟨grace, grace⟩)
    (tripped : x.thermal.tripped = true) (room : RoomForNotice s₀ x) :
    ThermallyWarned grace x.log.nextSeq s₀ (announceWarning thermalWarning x) := by
  have left : graceLeft x = grace := by rw [graceLeft, running]
  obtain ⟨seq, -⟩ := announcedState_keeps thermalWarning x
  refine ⟨announceWarning_announced warned left room, ?_⟩
  rw [announceWarning_thermal pending tripped, left]
  split
  · exact ⟨rfl, rfl, rfl, rfl, rfl, rfl⟩
  · rw [seq]
    exact ⟨warned, pending, running⟩

/-- The state in which the thermal replacement of a restart warning is announced (R116). -/
def replacedState (grace : Nat) (y : State) : State :=
  y.withSeq { y.seq with warning := some thermalWarning, timers := { y.seq.timers with grace := startTimer grace } }

theorem replaceWarning_eq (y : State) :
    replaceWarning y =
      announceWarning thermalWarning
        (replacedState (min (graceLeft y) (y.settings.timing.thermalGrace * 1000)) y) := rfl

theorem shutdownDemand_demanded {y : State} (tripped : y.thermal.tripped = true) : Demanded y (shutdownDemand y) := by
  unfold shutdownDemand
  split
  · exact (Demanded.trans (u := warnedState thermalWarning _ y) ⟨rfl, rfl, fun _ => id⟩
      (Demanded.announceThermal rfl tripped))
  · split
    · exact Demanded.refl y
    · exact (Demanded.withSeq _ y).trans (Demanded.announceThermal rfl tripped)
  · exact Demanded.enterState _ y
  · exact Demanded.enterState _ y
  · exact Demanded.enterState _ y
  · exact Demanded.enterState _ y
  · split
    · exact (Demanded.enterState _ y).trans (Demanded.appendLog _ _ _)
    · exact Demanded.enterState _ y
  · exact (Demanded.enterState _ y).trans (Demanded.appendLog _ _ _)
  all_goals exact Demanded.refl y

theorem coolingOff_enterState (y : State) : CoolingOff (enterState .cooling y) := ⟨rfl, rfl, rfl, rfl, rfl, rfl⟩

theorem demandOff_enterOff (y : State) : DemandOff (enterOff 2 y) := by
  have seq := appendLog_seq .powerOff 2 (enterState .off y)
  exact ⟨congrArg Sequencer.state seq, congrArg Sequencer.hpwrEn seq, congrArg Sequencer.hrst seq,
    congrArg Sequencer.warning seq, congrArg Sequencer.restart seq, congrArg Sequencer.timers seq,
    _, (appendLog_newest _ _ _).1, rfl, rfl, rfl⟩

/-- A shutdown demand is answered as R81 says, state by state. -/
theorem shutdownDemand_answered {s y : State} (seq : y.seq = s.seq) (settings : y.settings = s.settings)
    (next : y.log.nextSeq = followingSeq s.log.nextSeq) (tripped : y.thermal.tripped = true)
    (room : RoomForNotice s y) : DemandAnswered s (shutdownDemand y) := by
  unfold DemandAnswered shutdownDemand
  rw [← next, ← seq, ← settings]
  generalize found : y.seq.state = st
  cases st with
  | running =>
    exact announceWarning_warned (x := warnedState thermalWarning (y.settings.timing.thermalGrace * 1000) y)
      rfl rfl rfl tripped room
  | warned =>
    intro w pending
    have thermal : warnedThermal y = decide (w.cause = .thermal) := by rw [warnedThermal, pending]
    refine ⟨fun cause => ?_, fun cause x running => ?_⟩
    · dsimp only
      rw [if_pos (by rw [thermal, cause]; rfl)]
    · have left : graceLeft y = x.left := by rw [graceLeft, running]
      dsimp only
      rw [if_neg (by rw [thermal]; simpa using cause), replaceWarning_eq, left]
      exact announceWarning_warned
        (x := replacedState (min x.left (y.settings.timing.thermalGrace * 1000)) y) found rfl rfl tripped room
  | powerDown =>
    intro r pending
    have requested : offRequested y = r.offRequested := by rw [offRequested, pending]
    dsimp only
    rw [requested]
    cases r.offRequested
    · exact coolingOff_enterState y
    · exact demandOff_enterOff y
  | stopping => exact demandOff_enterOff y
  | powering => exact coolingOff_enterState y
  | resetHold => exact coolingOff_enterState y
  | booting => exact coolingOff_enterState y
  | resetPulse => exact coolingOff_enterState y
  | off => rfl
  | warming => rfl
  | cooling => rfl
  | lockedOut => rfl

theorem Recent.shutdownDemand {after : Nat} {r : LogRecord} {y : State} (h : Recent after r y.log) (few : after < 30) :
    Recent (after + 2) r (shutdownDemand y).log := by
  have off : Recent (after + 2) r (enterOff 2 y).log := by
    have entered : Recent after r (Machine.enterState .off y).log := h
    exact (entered.appendLog (Nat.lt_succ_of_lt few) _ _).le (Nat.le_succ _)
  have stays : Recent (after + 2) r y.log := h.le (Nat.le_add_right ..)
  unfold Machine.shutdownDemand
  split
  · rw [enterWarned_eq]
    have entered : Recent after r (warnedState thermalWarning (y.settings.timing.thermalGrace * 1000) y).log := h
    exact entered.announceWarning few _
  · split
    · exact stays
    · rw [replaceWarning_eq]
      have entered : Recent after r
        (replacedState (min (graceLeft y) (y.settings.timing.thermalGrace * 1000)) y).log := h
      exact entered.announceWarning few _
  · exact stays
  · exact stays
  · exact stays
  · exact stays
  · split
    · exact off
    · exact stays
  · exact off
  all_goals exact stays

/-! ### The checks (R56, R58) -/

/-- The check timer restarted, before the monitor's test (R56, R58). -/
def checkingState (s : State) : State := s.withThermal { s.thermal with checkTimer := startTimer Config.checkPeriod }

theorem overheatCheck_of_clear {s : State} (running : s.thermal.checkTimer.isSome = true)
    (clear : s.thermal.tripped = false) : overheatCheck s = checkClear (checkingState s) :=
  (if_pos running).trans (if_neg (by simp [clear]))

theorem overheatCheck_of_tripped {s : State} (running : s.thermal.checkTimer.isSome = true)
    (tripped : s.thermal.tripped = true) : overheatCheck s = checkTripped (checkingState s) :=
  (if_pos running).trans (if_pos tripped)

/-- A check's timer has reached its length: at once with a hold of 0, else after the last 100 ms (R56, R58). -/
theorem countCheckTimer_due {timer : Option Counter} {hold : Nat}
    (due : timer = none ∧ hold = 0 ∨ ∃ elapsed length, timer = some ⟨elapsed, length⟩ ∧ length ≤ elapsed + 100) :
    (countCheckTimer timer hold).length ≤ (countCheckTimer timer hold).elapsed := by
  rcases due with ⟨rfl, zero⟩ | ⟨elapsed, length, rfl, reached⟩
  · exact Nat.le_of_eq (by rw [zero]; rfl)
  · exact reached

theorem checkClear_of_due {s : State} (hot : monitorHot s = true)
    (due : (countCheckTimer s.thermal.tripTimer s.settings.limits.tripHold).length ≤
      (countCheckTimer s.thermal.tripTimer s.settings.limits.tripHold).elapsed) : checkClear s = trip s :=
  (if_pos hot).trans (if_pos due)

theorem checkClear_of_counting {s : State} {c : Counter} (hot : monitorHot s = true)
    (counted : countCheckTimer s.thermal.tripTimer s.settings.limits.tripHold = c) (before : c.elapsed < c.length) :
    checkClear s = s.withThermal { s.thermal with tripTimer := some c } := by
  subst counted
  exact (if_pos hot).trans (if_neg (Nat.not_le.2 before))

theorem checkTripped_of_due {s : State} (cool : monitorCool s = true)
    (due : (countCheckTimer s.thermal.resumeTimer s.settings.limits.resumeHold).length ≤
      (countCheckTimer s.thermal.resumeTimer s.settings.limits.resumeHold).elapsed) : checkTripped s = clearTrip s :=
  (if_pos cool).trans (if_pos due)

theorem checkTripped_of_counting {s : State} {c : Counter} (cool : monitorCool s = true)
    (counted : countCheckTimer s.thermal.resumeTimer s.settings.limits.resumeHold = c) (before : c.elapsed < c.length) :
    checkTripped s = s.withThermal { s.thermal with resumeTimer := some c } := by
  subst counted
  exact (if_pos cool).trans (if_neg (Nat.not_le.2 before))

/-! ### The trip (R57) -/

/-- The heaters cut, the gate zones BLOCKING, the status TRIPPED and start permitted withdrawn (R32, R45, R57). -/
def blockedState (s : State) : State :=
  let cut := s.withZones (Vector.ofFn fun z => blockZone s.settings.zones[z].gateFlag (cutZone s.zones[z]))
  cut.withThermal
    { cut.thermal with tripped := true, tripTimer := none, resumeTimer := none, startPermitted := false }

/-- The tripped monitor with its record and its cause, before the shutdown demand (R57). -/
def trippedState (s : State) : State :=
  raise .thermal (appendLog .thermalTrip (hottestDetail s) (blockedState s))

theorem trip_eq (s : State) : trip s = shutdownDemand (trippedState s) := rfl

theorem length_output_raise_le (c : Cause) (s : State) :
    (raise c s).host.output.length ≤ s.host.output.length + 1 := by
  unfold raise
  split
  · exact Nat.le_succ _
  · split
    · exact length_output_sendFrame_le _ _
    · exact Nat.le_succ _

theorem trippedState_demanded (s : State) : Demanded (blockedState s) (trippedState s) :=
  (Demanded.appendLog _ _ _).trans (Demanded.raise _ _)

theorem trippedState_keeps (s : State) :
    (trippedState s).seq = s.seq ∧ (trippedState s).settings = s.settings ∧
      (trippedState s).log.nextSeq = followingSeq s.log.nextSeq ∧ (trippedState s).thermal.tripped = true ∧
      holdsCause (trippedState s).causes .thermal = true ∧ RoomForNotice s (trippedState s) ∧
      Recent 0 (stampRecord .thermalTrip (hottestDetail s) (blockedState s)) (trippedState s).log := by
  have logged := holdsCause_log_appendLog .thermalTrip (hottestDetail s) (blockedState s)
  have few : (appendLog .thermalTrip (hottestDetail s) (blockedState s)).host.output.length ≤ s.host.output.length + 1 :=
    length_output_appendLog_le .thermalTrip (hottestDetail s) (blockedState s)
  have few' := length_output_raise_le .thermal (appendLog .thermalTrip (hottestDetail s) (blockedState s))
  have log : (trippedState s).log = (appendLog .thermalTrip (hottestDetail s) (blockedState s)).log :=
    (raise_keeps _ _).2.2.2.2.2.1
  refine ⟨by simp [trippedState, blockedState], by simp [trippedState, blockedState], ?_,
    by simp [trippedState, blockedState], ?_, fun small => ⟨holdsCause_raise_of_held logged _, ?_⟩, ?_⟩
  · rw [log]
    exact (appendLog_newest .thermalTrip (hottestDetail s) (blockedState s)).2
  · rw [trippedState, holdsCause_raise]
    simp
  · exact few'.trans (by omega)
  · rw [log]
    exact recent_appendLog _ _ _

/-- What the trip and its shutdown demand leave of each zone (R32, R45). -/
theorem blockedState_zone (s : State) (z : Zone) :
    (blockedState s).zones[z] = blockZone s.settings.zones[z].gateFlag (cutZone s.zones[z]) :=
  Vector.getElem_ofFn _

theorem heaterOn_of_cut {s : State} {z : Zone} (cut : s.zones[z].grantedDuty = 0) : heaterOn s z = false := by
  unfold heaterOn
  rw [cut]
  split <;> rfl

theorem trip_demanded (s : State) : Demanded (blockedState s) (trip s) :=
  (trippedState_demanded s).trans (shutdownDemand_demanded (trippedState_keeps s).2.2.2.1)

/-! ### The resume (R58, R82) -/

/-- The monitor back to CLEAR with its record, before the resume (R58). -/
def resumedState (s : State) : State :=
  appendLog .thermalResume (hottestDetail s)
    (s.withThermal { s.thermal with tripped := false, tripTimer := none, resumeTimer := none })

theorem clearTrip_eq (s : State) :
    clearTrip s = if s.seq.state = .cooling then enterWarming (resumedState s) else resumedState s := by
  have seq : (resumedState s).seq.state = s.seq.state := by simp [resumedState]
  have shown : clearTrip s = resumeHost (resumedState s) := rfl
  rw [shown, resumeHost, seq]
  split
  next cooling => rw [if_pos cooling]
  next other => rw [if_neg other]

theorem resumedState_keeps (s : State) :
    (resumedState s).seq = s.seq ∧
      (resumedState s).thermal = { s.thermal with tripped := false, tripTimer := none, resumeTimer := none } ∧
      (resumedState s).zones = s.zones ∧ (resumedState s).ladder = s.ladder ∧ (resumedState s).settings = s.settings := by
  simp [resumedState]

/-- WARMING, and the start that may follow, touch the warm timer and the fan duty alone (R46, R50, R69). -/
theorem enterWarming_thermal (s : State) :
    ∃ timer duty, (enterWarming s).thermal = { s.thermal with warmTimer := timer, fanDuty := duty } := by
  rw [enterWarming_eq]
  split
  · rw [startPowering_thermal]
    exact ⟨_, _, rfl⟩
  · exact ⟨_, _, rfl⟩

/-- Settles O44. -/
theorem overheatMonitorTripsAndResumes : Obligations.OverheatMonitorTripsAndResumes := by
  unfold Obligations.OverheatMonitorTripsAndResumes
  refine ⟨⟨monitorHot_iff, monitorCool_iff⟩, ⟨?calm, ?first, ?further, ?trip⟩, ?warm, ?firstCool, ?furtherCool, ?resume⟩
  case calm =>
    intro s running clear calm
    exact congrArg Host.Outcome.next ((overheatCheck_of_clear running clear).trans
      (if_neg (show ¬ monitorHot (checkingState s) = true by rw [show monitorHot (checkingState s) = false from calm]; decide)))
  case first =>
    intro s running clear hot stopped hold
    have counted : countCheckTimer s.thermal.tripTimer s.settings.limits.tripHold =
        ⟨0, s.settings.limits.tripHold * 1000⟩ := by rw [stopped]; rfl
    exact congrArg Host.Outcome.next ((overheatCheck_of_clear running clear).trans
      (checkClear_of_counting (s := checkingState s) hot counted (show 0 < s.settings.limits.tripHold * 1000 by omega)))
  case further =>
    intro elapsed length s running clear hot counting before
    have counted : countCheckTimer s.thermal.tripTimer s.settings.limits.tripHold = ⟨elapsed + 100, length⟩ := by
      rw [counting]; rfl
    exact congrArg Host.Outcome.next ((overheatCheck_of_clear running clear).trans
      (checkClear_of_counting (s := checkingState s) hot counted before))
  case warm =>
    intro s running tripped warm
    exact congrArg Host.Outcome.next ((overheatCheck_of_tripped running tripped).trans
      (if_neg (show ¬ monitorCool (checkingState s) = true by rw [show monitorCool (checkingState s) = false from warm]; decide)))
  case firstCool =>
    intro s running tripped cool stopped hold
    have counted : countCheckTimer s.thermal.resumeTimer s.settings.limits.resumeHold =
        ⟨0, s.settings.limits.resumeHold * 1000⟩ := by rw [stopped]; rfl
    exact congrArg Host.Outcome.next ((overheatCheck_of_tripped running tripped).trans
      (checkTripped_of_counting (s := checkingState s) cool counted
        (show 0 < s.settings.limits.resumeHold * 1000 by omega)))
  case furtherCool =>
    intro elapsed length s running tripped cool counting before
    have counted : countCheckTimer s.thermal.resumeTimer s.settings.limits.resumeHold = ⟨elapsed + 100, length⟩ := by
      rw [counting]; rfl
    exact congrArg Host.Outcome.next ((overheatCheck_of_tripped running tripped).trans
      (checkTripped_of_counting (s := checkingState s) cool counted before))
  case trip =>
    intro s running clear hot due
    have taken : overheatCheck s = trip (checkingState s) :=
      (overheatCheck_of_clear running clear).trans
        (checkClear_of_due (s := checkingState s) hot (countCheckTimer_due due))
    obtain ⟨seq, settings, next, tripped, thermal, room, record⟩ := trippedState_keeps (checkingState s)
    obtain ⟨c, u, on, read, -⟩ := (monitorHot_iff s).1 hot
    obtain ⟨temperature, highest, detail⟩ := hottestDetail_of_reading on read
    have answered := shutdownDemand_answered (s := s) seq settings next tripped room
    have recorded := record.shutdownDemand (by decide)
    have demanded := trip_demanded (checkingState s)
    have cause := (shutdownDemand_demanded tripped).causes .thermal thermal
    rw [← trip_eq] at answered recorded cause
    have zones : (trip (checkingState s)).zones = (blockedState (checkingState s)).zones :=
      by rw [demanded.only]
    have zone (z : Zone) : (trip (checkingState s)).zones[z] =
        blockZone s.settings.zones[z].gateFlag (cutZone s.zones[z]) := by
      rw [zones]
      exact blockedState_zone (checkingState s) z
    have thermal' := demanded.thermal
    have row : thermalTrip s = overheatCheck s := if_pos (by rw [taken, clear, thermal']; rfl)
    refine ⟨trip (checkingState s), congrArg Host.Outcome.next taken, congrArg Host.Outcome.next (row.trans taken),
      by rw [thermal']; rfl, by rw [thermal']; rfl, by rw [thermal']; rfl, by rw [thermal']; rfl,
      by rw [thermal']; rfl, cause, fun z => ?_, ⟨_, recorded.mem, rfl, rfl, rfl, temperature, highest, detail⟩,
      answered, demanded.only.trans (by rw [zones]; rfl)⟩
    have cut := zone z
    have off : heaterOn (trip (checkingState s)) z = false := heaterOn_of_cut (by
      rw [cut]
      cases s.settings.zones[z].gateFlag <;> rfl)
    cases flag : s.settings.zones[z].gateFlag <;> rw [flag] at cut
    · exact ⟨by rw [cut]; rfl, by rw [cut]; rfl, by rw [cut]; rfl, by rw [cut]; rfl, off, by rw [cut]; rfl,
        fun impossible => absurd impossible Bool.false_ne_true, fun _ => by rw [cut]; rfl⟩
    · exact ⟨by rw [cut]; rfl, by rw [cut]; rfl, by rw [cut]; rfl, by rw [cut]; rfl, off, by rw [cut]; rfl,
        fun _ => ⟨by rw [cut]; rfl, by rw [cut]; rfl⟩, fun impossible => absurd impossible.symm Bool.false_ne_true⟩
  case resume =>
    intro s running tripped cool due
    have taken : overheatCheck s = clearTrip (checkingState s) :=
      (overheatCheck_of_tripped running tripped).trans
        (checkTripped_of_due (s := checkingState s) cool (countCheckTimer_due due))
    obtain ⟨⟨c, on⟩, all_cool⟩ := (monitorCool_iff s).1 cool
    obtain ⟨u, read, -⟩ := all_cool c on
    obtain ⟨temperature, highest, detail⟩ := hottestDetail_of_reading on read
    have record : Recent 0 (stampRecord .thermalResume (hottestDetail (checkingState s))
        ((checkingState s).withThermal
          { (checkingState s).thermal with tripped := false, tripTimer := none, resumeTimer := none }))
        (resumedState (checkingState s)).log := recent_appendLog _ _ _
    obtain ⟨seq, thermal, zones, ladder, settings⟩ := resumedState_keeps (checkingState s)
    have shown := clearTrip_eq (checkingState s)
    have row : thermalResume s = overheatCheck s := by
      refine if_pos ?_
      rw [taken, tripped, shown]
      split
      · obtain ⟨timer, duty, warming⟩ := enterWarming_thermal (resumedState (checkingState s))
        rw [warming, thermal]
        rfl
      · rw [thermal]
        rfl
    by_cases cooling : s.seq.state = .cooling
    · rw [shown, if_pos (show (checkingState s).seq.state = .cooling from cooling)] at taken
      obtain ⟨timer, duty, warming⟩ := enterWarming_thermal (resumedState (checkingState s))
      have state := enterWarming_state (resumedState (checkingState s))
      rw [thermal, seq] at state
      have recorded := (record.enterWarming (by decide)).mem
      refine ⟨_, congrArg Host.Outcome.next taken, congrArg Host.Outcome.next (row.trans taken), by rw [warming, thermal],
        by rw [warming, thermal], by rw [warming, thermal],
        ⟨_, recorded, rfl, rfl, rfl, temperature, highest, detail⟩, fun _ => state,
        fun other => absurd cooling other, ?_, ?_, ?_⟩
      · exact (enterWarming_keeps _).2.2.2.2.2.2.2.1.trans zones
      · exact (enterWarming_keeps _).2.2.2.2.2.2.2.2.1.trans ladder
      · exact (enterWarming_keeps _).2.2.2.2.2.2.2.2.2.2.2.1.trans settings
    · rw [shown, if_neg (show ¬ (checkingState s).seq.state = .cooling from cooling)] at taken
      exact ⟨_, congrArg Host.Outcome.next taken, congrArg Host.Outcome.next (row.trans taken), by rw [thermal],
        by rw [thermal], by rw [thermal], ⟨_, record.mem, rfl, rfl, rfl, temperature, highest, detail⟩,
        fun yes => absurd yes cooling, fun _ => seq, zones, ladder, settings⟩

end Sys2Proof.Machine
end

section
/-! SUPPORT. Curves (R21), the grant order and the grant walk (R27, R28), and the allocation (R22 to R30). -/

namespace Sys2Proof.Machine

/-! ### Curves (R21) -/

theorem ascending_iff_isChain (curve : List Point) :
    ascending curve = true ↔ List.IsChain (fun p q : Point => p.temperature < q.temperature) curve := by
  induction curve with
  | nil => simp [ascending]
  | cons p rest ih =>
    cases rest with
    | nil => simp [ascending]
    | cons q rest => rw [ascending, Bool.and_eq_true, decide_eq_true_eq, ih, List.isChain_cons_cons]

theorem ascending_iff_neighbours (curve : List Point) :
    ascending curve = true ↔
      ∀ (front back : List Point) (p q : Point), curve = front ++ p :: q :: back → p.temperature < q.temperature := by
  rw [ascending_iff_isChain, List.isChain_iff_forall_rel_of_append_cons_cons]
  exact ⟨fun h front back p q spelled => h spelled, fun h p q front back spelled => h front back p q spelled⟩

/-- At a point's own temperature a curve has the point's value (R21). -/
theorem curveAfter_self {p : Point} {rest : List Point}
    (above : ∀ q back, rest = q :: back → p.temperature < q.temperature) : curveAfter p p.temperature rest = p.value := by
  cases rest with
  | nil => rfl
  | cons q back => simp [curveAfter, above q back rfl, interpolate]

/-- Up to and beyond a point, the earlier points of a curve do not matter (R21). -/
theorem curveAfter_append (o p : Point) (front rest : List Point) {t : Int} (reached : p.temperature ≤ t)
    (above : ∀ q ∈ front, q.temperature ≤ t) : curveAfter o t (front ++ p :: rest) = curveAfter p t rest := by
  induction front generalizing o with
  | nil => exact if_neg (Int.not_lt.2 reached)
  | cons q front ih =>
    have passed : curveAfter o t (q :: front ++ p :: rest) = curveAfter q t (front ++ p :: rest) :=
      if_neg (Int.not_lt.2 (above q (List.mem_cons_self ..)))
    rw [passed, ih q fun x mem => above x (List.mem_cons_of_mem _ mem)]

/-- From a point of an ascending curve on, the curve's value is that after the point (R21). -/
theorem curveValue_append {front rest : List Point} {p : Point} {t : Int}
    (sorted : ascending (front ++ p :: rest) = true) (reached : p.temperature ≤ t) :
    curveValue (front ++ p :: rest) t = curveAfter p t rest := by
  have trans : IsTrans Point fun p q => p.temperature < q.temperature := ⟨fun _ _ _ => Int.lt_trans⟩
  have ordered := List.isChain_iff_pairwise.1 ((ascending_iff_isChain _).1 sorted)
  obtain ⟨-, later, before⟩ := List.pairwise_append.1 ordered
  have below (q : Point) (mem : q ∈ front) : q.temperature ≤ t :=
    Int.le_trans (Int.le_of_lt (before q mem p (List.mem_cons_self ..))) reached
  cases front with
  | nil =>
    by_cases at_point : t ≤ p.temperature
    · obtain rfl : t = p.temperature := Int.le_antisymm at_point reached
      rw [curveAfter_self fun q back spelled => (List.pairwise_cons.1 later).1 q (by simp [spelled])]
      exact if_pos (Int.le_refl _)
    · exact if_neg at_point
  | cons o front =>
    have past : ¬ t ≤ o.temperature :=
      Int.not_le.2 (Int.lt_of_lt_of_le (before o (List.mem_cons_self ..) p (List.mem_cons_self ..)) reached)
    have after : curveValue (o :: front ++ p :: rest) t = curveAfter o t (front ++ p :: rest) := if_neg past
    rw [after, curveAfter_append o p front rest reached fun q mem => below q (List.mem_cons_of_mem _ mem)]

/-! ### The grant order (R27) -/

/-- One zone comes before another in the grant order: by current priority, lowest first, and by index among equals. -/
def GrantedBefore (priority : Zone → Nat) (y z : Zone) : Prop :=
  priority y < priority z ∨ priority y = priority z ∧ y < z

theorem GrantedBefore.asymm {priority : Zone → Nat} {y z : Zone} (first : GrantedBefore priority y z) :
    ¬ GrantedBefore priority z y := by
  rcases first with less | ⟨same, index⟩
  · rintro (less' | ⟨same, -⟩) <;> omega
  · rintro (less | ⟨-, index'⟩)
    · omega
    · exact absurd index' (lt_asymm index)

theorem insertZone_sorted {priority : Zone → Nat} {z : Zone} {order : List Zone}
    (sorted : order.Pairwise (GrantedBefore priority)) (earlier : ∀ y ∈ order, y < z) :
    (insertZone priority z order).Pairwise (GrantedBefore priority) := by
  induction order with
  | nil => exact List.pairwise_singleton _ _
  | cons y rest ih =>
    obtain ⟨first, sorted'⟩ := List.pairwise_cons.1 sorted
    unfold insertZone
    split
    next lower =>
      refine List.pairwise_cons.2 ⟨fun w mem => ?_, sorted⟩
      rcases List.mem_cons.1 mem with rfl | inside
      · exact Or.inl lower
      · rcases first w inside with less | ⟨same, -⟩
        · exact Or.inl (Nat.lt_trans lower less)
        · exact Or.inl (by omega)
    next higher =>
      refine List.pairwise_cons.2 ⟨fun w mem => ?_, ih sorted' fun x mem => earlier x (List.mem_cons_of_mem _ mem)⟩
      rcases List.mem_cons.1 ((insertZone_perm priority z rest).mem_iff.1 mem) with rfl | inside
      · have index := earlier y (List.mem_cons_self ..)
        rcases Nat.lt_or_eq_of_le (Nat.not_lt.1 higher) with less | same
        · exact Or.inl less
        · exact Or.inr ⟨same, index⟩
      · exact first w inside

theorem foldl_insertZone_sorted {priority : Zone → Nat} (zones order : List Zone)
    (sorted : order.Pairwise (GrantedBefore priority)) (ascending : zones.Pairwise (· < ·))
    (earlier : ∀ y ∈ order, ∀ z ∈ zones, y < z) :
    (zones.foldl (fun order z => insertZone priority z order) order).Pairwise (GrantedBefore priority) := by
  induction zones generalizing order with
  | nil => exact sorted
  | cons z rest ih =>
    obtain ⟨first, ascending'⟩ := List.pairwise_cons.1 ascending
    refine ih _ (insertZone_sorted sorted fun y mem => earlier y mem z (List.mem_cons_self ..)) ascending'
      fun y mem x later => ?_
    rcases List.mem_cons.1 ((insertZone_perm priority z order).mem_iff.1 mem) with rfl | inside
    · exact first x later
    · exact earlier y inside x (List.mem_cons_of_mem _ later)

theorem grantOrder_sorted (priority : Zone → Nat) : (grantOrder priority).Pairwise (GrantedBefore priority) :=
  foldl_insertZone_sorted (List.finRange 4) [] List.Pairwise.nil (by decide) (fun _ mem => absurd mem List.not_mem_nil)

/-! ### The grant walk (R28) -/

theorem grantOf_grantWalk_le_power (demand : Zone → Nat) (order : List Zone) (power : Nat) (z : Zone) :
    grantOf (grantWalk demand order power) z ≤ power := by
  induction order generalizing power with
  | nil => exact Nat.zero_le _
  | cons x rest ih =>
    rw [grantOf_grantWalk_cons]
    split
    · exact Nat.min_le_right _ _
    · exact Nat.le_trans (ih _) (Nat.sub_le _ _)

/-- A zone of the walk is granted anything only when the zones before it are served in full (R28). -/
theorem grantWalk_serves (demand : Zone → Nat) (order : List Zone) (distinct : order.Nodup) (power : Nat) :
    order.Pairwise fun y z => 0 < grantOf (grantWalk demand order power) z →
      grantOf (grantWalk demand order power) y = demand y := by
  induction order generalizing power with
  | nil => exact List.Pairwise.nil
  | cons x rest ih =>
    obtain ⟨fresh, distinct'⟩ := List.nodup_cons.1 distinct
    have later {z : Zone} (mem : z ∈ rest) : grantOf (grantWalk demand (x :: rest) power) z =
        grantOf (grantWalk demand rest (power - min (demand x) power)) z := by
      rw [grantOf_grantWalk_cons, if_neg (ne_of_mem_of_not_mem mem fresh).symm]
    refine List.pairwise_cons.2 ⟨fun z mem granted => ?_, (ih distinct' (power - min (demand x) power)).imp_of_mem fun {y z} iny inz served => ?_⟩
    · have left := grantOf_grantWalk_le_power demand rest (power - min (demand x) power) z
      rw [later mem] at granted
      rw [grantOf_grantWalk_cons, if_pos rfl]
      omega
    · rw [later iny, later inz]
      exact served

/-- Two relations along a list: where the first orders it strictly, it implies the second. -/
theorem pairwise_implies {order : List Zone} {R S : Zone → Zone → Prop} (sorted : order.Pairwise R)
    (along : order.Pairwise S) (strict : ∀ y z, R y z → ¬ R z y) {y z : Zone} (iny : y ∈ order) (inz : z ∈ order)
    (before : R y z) : S y z := by
  have both := sorted.and along
  have symmetric : Std.Symm fun a b => (R a b → S a b) ∧ (R b a → S b a) := ⟨fun _ _ h => ⟨h.2, h.1⟩⟩
  refine (List.Pairwise.forall_of_forall (R := fun a b => (R a b → S a b) ∧ (R b a → S b a)) (fun x _ => ?_)
    (both.imp fun {a b} h => ⟨fun _ => h.2, fun back => absurd back (strict a b h.1)⟩) iny inz).1 before
  exact ⟨fun self => absurd self (strict x x self), fun self => absurd self (strict x x self)⟩

theorem mem_grantOrder (priority : Zone → Nat) (z : Zone) : z ∈ grantOrder priority := by
  rw [(grantOrder_perm priority).mem_iff]
  revert z
  decide

/-- Every zone before one that is granted anything is served in full (R27, R28). -/
theorem grantedPowerOf_serves {s : State} {y z : Zone} (before : GrantedBefore (fun x => s.zones[x].priority) y z)
    (granted : 0 < grantedPowerOf s z) : grantedPowerOf s y = demandPowerOf s y := by
  have distinct := (grantOrder_perm fun x => s.zones[x].priority).nodup_iff.mpr (by decide)
  refine pairwise_implies (grantOrder_sorted _) (grantWalk_serves (demandPowerOf s) _ distinct (selectedBudget s))
    (fun a b first => first.asymm) (mem_grantOrder _ y) (mem_grantOrder _ z) before granted

/-- The grants use up the selected budget when the demand does (R28). -/
theorem sum_grantedPowerOf (s : State) :
    grantedPowerOf s 0 + grantedPowerOf s 1 + grantedPowerOf s 2 + grantedPowerOf s 3 =
      min (selectedBudget s) (demandPowerOf s 0 + demandPowerOf s 1 + demandPowerOf s 2 + demandPowerOf s 3) := by
  have perm := grantOrder_perm fun y => s.zones[y].priority
  have handedOut := sum_grantOf_grantWalk (demandPowerOf s) _ (perm.nodup_iff.mpr (by decide)) (selectedBudget s)
  have total := (perm.map (grantedPowerOf s)).sum_eq
  have demanded := (perm.map (demandPowerOf s)).sum_eq
  rw [demanded] at handedOut
  have granted : ((grantOrder fun y => s.zones[y].priority).map (grantedPowerOf s)).sum = _ := handedOut
  rw [total] at granted
  simp only [List.map_cons, List.map_nil, List.sum_cons, List.sum_nil] at granted
  omega

theorem grantedPowerOf_le_demand (s : State) (z : Zone) : grantedPowerOf s z ≤ demandPowerOf s z := by
  unfold grantedPowerOf
  generalize selectedBudget s = power
  induction grantOrder (fun y => s.zones[y].priority) generalizing power with
  | nil => exact Nat.zero_le _
  | cons x rest ih =>
    rw [grantOf_grantWalk_cons]
    split
    next same => rw [same]; exact Nat.min_le_left _ _
    next => exact ih _

/-! ### The zones after an expiry of the allocation timer (R22) -/

/-- The allocation timer restarted, before the allocation (R22). -/
def rearmedState (s : State) : State :=
  s.withThermal { s.thermal with allocationTimer := startTimer Config.allocationPeriod }

/-- A zone after the expiry: allocated, then its gate evaluated (R22). -/
theorem allocationExpiry_zone (s : State) (z : Zone) :
    (allocationExpiry s).zones[z] = gateZone (allocate (rearmedState s)) z := by
  have zones : (allocationExpiry s).zones = Vector.ofFn (gateZone (allocate (rearmedState s))) :=
    (reportStart_keeps _ _).2.2.2.2.2.2.2.1
  rw [zones]
  exact Vector.getElem_ofFn _

theorem allocate_zone (s : State) (z : Zone) : (allocate s).zones[z] = allocatedZone s z :=
  Vector.getElem_ofFn _

/-- What the expiry leaves in a zone's allocation fields (R24 to R30). -/
theorem allocationExpiry_allocated (s : State) (z : Zone) :
    (allocationExpiry s).zones[z].demandDuty = demandDutyOf s z ∧
      (allocationExpiry s).zones[z].demandPower = demandPowerOf s z ∧
      (allocationExpiry s).zones[z].grantedPower = grantedPowerOf s z ∧
      (allocationExpiry s).zones[z].grantedDuty = grantedDutyOf (grantedPowerOf s z) s.settings.zones[z].rated ∧
      (allocationExpiry s).zones[z].priority =
        agedPriority (grantedPowerOf s z) (demandPowerOf s z) s.zones[z].priority s.settings.zones[z].initialPriority ∧
      (allocationExpiry s).zones[z].frame = s.zones[z].frame := by
  obtain ⟨grantedDuty, demandDuty, frame, demandPower, grantedPower, priority⟩ :=
    gateZone_keeps (allocate (rearmedState s)) z
  rw [allocationExpiry_zone, grantedDuty, demandDuty, frame, demandPower, grantedPower, priority, allocate_zone]
  exact ⟨rfl, rfl, rfl, rfl, rfl, rfl⟩

/-- Settles O34. -/
theorem allocationSharesTheBudget : Obligations.AllocationSharesTheBudget := by
  unfold Obligations.AllocationSharesTheBudget
  refine ⟨?expiry, ascending_iff_neighbours, fun p rest t below => if_pos below,
    fun front p t sorted reached => curveValue_append sorted reached, ?between⟩
  case expiry =>
    rintro budget s running rfl
    refine ⟨allocationExpiry s, exec_allocationPeriodExpiry_of_running running, fun z => ?zone, ?sum, ?order⟩
    case zone =>
      obtain ⟨demandDuty, demandPower, grantedPower, grantedDuty, priority, frame⟩ := allocationExpiry_allocated s z
      rw [demandDuty, demandPower, grantedPower, grantedDuty, priority, frame]
      refine ⟨?_, rfl, grantedPowerOf_le_demand s z, rfl, rfl, rfl⟩
      by_cases cut : s.meas.fault = true ∨ s.thermal.tripped = true ∨ s.settings.zones[z].rated = 0
      · rw [if_pos cut]
        exact if_pos (by simpa [or_assoc] using cut)
      · rw [if_neg cut]
        refine (if_neg (by simpa [or_assoc] using cut)).trans ?_
        cases reading s s.settings.zones[z].sensor <;> rfl
    case sum =>
      have demand (z : Zone) := (allocationExpiry_allocated s z).2.1
      have grant (z : Zone) := (allocationExpiry_allocated s z).2.2.1
      have total := sum_grantedPowerOf s
      simp only [← demand, ← grant] at total
      exact total
    case order =>
      intro y z before granted
      obtain ⟨-, demand, grant, -⟩ := allocationExpiry_allocated s y
      obtain ⟨-, -, grant', -⟩ := allocationExpiry_allocated s z
      rw [grant'] at granted
      rw [grant, demand]
      exact grantedPowerOf_serves before granted
  case between =>
    intro front back p q t sorted reached below
    rw [curveValue_append sorted reached]
    exact if_pos below

end Sys2Proof.Machine
end

section
/-! SUPPORT. The gate evaluation (R41 to R45) and the drive frames (R31). -/

namespace Sys2Proof.Machine

/-! ### The step of one zone's gate (R41 to R43) -/

/-- A gate zone that is not warm is BLOCKING; its timer goes to 0 unless it was BLOCKING already (R42). -/
theorem gateStep_cold (hold : Nat) (y : ZoneState) :
    (gateStep false hold (flaggedZone y)).gate = .blocking ∧
      (y.gate ≠ .blocking ∨ y.lastFlag = false → (gateStep false hold (flaggedZone y)).gateTimer = 0) ∧
      (y.gate = .blocking → y.lastFlag = true → (gateStep false hold (flaggedZone y)).gateTimer = y.gateTimer) := by
  cases flag : y.lastFlag with
  | false =>
    rw [flaggedZone_of_new y flag]
    exact ⟨rfl, fun _ => rfl, fun _ impossible => absurd impossible Bool.false_ne_true⟩
  | true =>
    rw [flaggedZone_of_flagged y flag]
    cases gate : y.gate <;> simp [gateStep, gate]

/-- A warm gate zone starts to count from BLOCKING, or when newly flagged; with a hold of 0 it is released at once (R42, R43). -/
theorem gateStep_starting {hold : Nat} {y : ZoneState} (starts : y.gate = .blocking ∨ y.lastFlag = false) :
    (gateStep true hold (flaggedZone y)).gateTimer = 0 ∧ (gateStep true hold (flaggedZone y)).gateLength = hold ∧
      (gateStep true hold (flaggedZone y)).gate = (if hold = 0 then .released else .counting) := by
  have blocking : (flaggedZone y).gate = .blocking := by
    cases flag : y.lastFlag with
    | false => rw [flaggedZone_of_new y flag]
    | true => rw [flaggedZone_of_flagged y flag]; exact starts.resolve_right (by simp [flag])
  have step : gateStep true hold (flaggedZone y) =
      releaseIfReached { flaggedZone y with gate := .counting, gateTimer := 0, gateLength := hold } := by
    unfold gateStep
    rw [blocking]
  rw [step]
  unfold releaseIfReached
  dsimp only
  split
  next zero => exact ⟨rfl, rfl, (if_pos (Nat.le_zero.1 zero)).symm⟩
  next positive => exact ⟨rfl, rfl, (if_neg fun zero => positive (Nat.le_of_eq zero)).symm⟩

/-- A warm COUNTING zone advances by 250 ms and is released at its length (R42, R43). -/
theorem gateStep_counting {hold : Nat} {y : ZoneState} (flag : y.lastFlag = true) (counting : y.gate = .counting) :
    (gateStep true hold (flaggedZone y)).gateTimer = y.gateTimer + 250 ∧
      (gateStep true hold (flaggedZone y)).gateLength = y.gateLength ∧
      (gateStep true hold (flaggedZone y)).gate =
        (if y.gateLength ≤ y.gateTimer + 250 then .released else .counting) := by
  have step : gateStep true hold (flaggedZone y) =
      releaseIfReached { y with gateTimer := y.gateTimer + Config.allocationPeriod } := by
    rw [flaggedZone_of_flagged y flag]
    unfold gateStep
    rw [counting]
  rw [step]
  unfold releaseIfReached
  by_cases reached : y.gateLength ≤ y.gateTimer + 250
  · rw [if_pos reached, if_pos reached]
    exact ⟨rfl, rfl, rfl⟩
  · rw [if_neg reached, if_neg reached]
    exact ⟨rfl, rfl, counting⟩

/-- A warm RELEASED zone stays as it is (R42). -/
theorem gateStep_released {hold : Nat} {y : ZoneState} (flag : y.lastFlag = true) (released : y.gate = .released) :
    gateStep true hold (flaggedZone y) = y := by
  rw [flaggedZone_of_flagged y flag]
  unfold gateStep
  rw [released]

theorem flaggedZone_lastFlag (y : ZoneState) : (flaggedZone y).lastFlag = true := by
  cases flag : y.lastFlag with
  | false => rw [flaggedZone_of_new y flag]
  | true => rw [flaggedZone_of_flagged y flag, flag]

/-- A gate zone that comes to the evaluation not RELEASED leaves it RELEASED only when its count ends there (R43). -/
theorem gateStep_releases_iff (warm : Bool) (hold : Nat) (y : ZoneState) :
    (flaggedZone y).gate ≠ .released ∧ (gateStep warm hold (flaggedZone y)).gate = .released ↔
      warm = true ∧ ((y.lastFlag = true ∧ y.gate = .counting ∧ y.gateLength ≤ y.gateTimer + 250) ∨
        ((y.gate = .blocking ∨ y.lastFlag = false) ∧ hold = 0)) := by
  cases warm with
  | false =>
    rw [(gateStep_cold hold y).1]
    simp
  | true =>
    by_cases starts : y.gate = .blocking ∨ y.lastFlag = false
    · have notReleased : (flaggedZone y).gate ≠ .released := by
        cases flag : y.lastFlag with
        | false => rw [flaggedZone_of_new y flag]; exact GateStatus.noConfusion
        | true => rw [flaggedZone_of_flagged y flag, starts.resolve_right (by simp [flag])]; decide
      have notCounting : ¬ (y.lastFlag = true ∧ y.gate = .counting ∧ y.gateLength ≤ y.gateTimer + 250) := by
        rintro ⟨flag, counting, -⟩
        rcases starts with gate | unflagged
        · exact absurd (gate.symm.trans counting) (by decide)
        · exact absurd (unflagged.symm.trans flag) Bool.false_ne_true
      rw [(gateStep_starting starts).2.2]
      by_cases zero : hold = 0 <;> simp [zero, notReleased, notCounting, starts]
    · obtain ⟨open_gate, flagged⟩ := not_or.1 starts
      have flag : y.lastFlag = true := by simpa using flagged
      rw [flaggedZone_of_flagged y flag]
      cases gate : y.gate with
      | blocking => exact absurd gate open_gate
      | counting =>
        have result := (gateStep_counting (hold := hold) flag gate).2.2
        rw [flaggedZone_of_flagged y flag] at result
        rw [result]
        by_cases reached : y.gateLength ≤ y.gateTimer + 250 <;> simp [reached, flag]
      | released => simp [flag]

/-! ### The gate after an expiry -/

/-- A zone after the expiry, by its gate: the allocation of the same expiry keeps the gate's fields (R22, R41). -/
theorem allocationExpiry_gate (s : State) (z : Zone) :
    ∃ y : ZoneState, y.gate = s.zones[z].gate ∧ y.gateTimer = s.zones[z].gateTimer ∧
      y.gateLength = s.zones[z].gateLength ∧ y.lastFlag = s.zones[z].lastFlag ∧
      (s.settings.zones[z].gateFlag = true → (allocationExpiry s).zones[z] =
        gateStep (zoneWarm s z) (s.settings.limits.gateHold * 1000) (flaggedZone y)) ∧
      (s.settings.zones[z].gateFlag = false → (allocationExpiry s).zones[z] =
        { y with lastFlag := false, gate := .released, gateTimer := 0 }) := by
  have zone := allocationExpiry_zone s z
  rw [gateZone, allocate_zone] at zone
  exact ⟨allocatedZone (rearmedState s) z, rfl, rfl, rfl, rfl, fun flag => zone.trans (if_pos flag),
    fun flag => zone.trans (if_neg (by rw [show (allocate (rearmedState s)).settings.zones[z].gateFlag = false from flag]
                                       exact Bool.false_ne_true))⟩

theorem zoneWarm_iff (s : State) (z : Zone) :
    zoneWarm s z = true ↔
      s.thermal.tripped = false ∧ s.meas.channels[s.settings.zones[z].sensor].reason = .valid ∧
        ∃ temperature : Int, s.meas.channels[s.settings.zones[z].sensor].temperature = some temperature ∧
          s.settings.zones[z].release ≤ temperature := by
  unfold zoneWarm
  cases read : reading s s.settings.zones[z].sensor with
  | none =>
    refine ⟨fun impossible => absurd impossible Bool.false_ne_true, ?_⟩
    rintro ⟨-, valid, temperature, found, -⟩
    rw [(reading_iff s _ temperature).2 ⟨valid, found⟩] at read
    cases read
  | some t =>
    obtain ⟨valid, found⟩ := (reading_iff s _ t).1 read
    simp only [Bool.and_eq_true, decide_eq_true_eq, Bool.not_eq_true', valid, found, Option.some.injEq, true_and]
    constructor
    · rintro ⟨warm, clear⟩
      exact ⟨clear, t, rfl, warm⟩
    · rintro ⟨clear, _, rfl, warm⟩
      exact ⟨warm, clear⟩

theorem allReleased_eq (zones : Vector ZoneState 4) :
    allReleased zones = decide (∀ z : Zone, zones[z].gate = .released) := by
  rw [allReleased, Bool.eq_iff_iff, List.all_eq_true, decide_eq_true_eq]
  simp

theorem reportStart_permitted (permitted : Bool) (s : State) :
    (reportStart permitted s).thermal.startPermitted = permitted := by
  unfold reportStart
  dsimp only
  split
  · rw [startPowering_thermal]
    rfl
  · rfl

theorem reportStart_of_given {s : State} (warming : s.seq.state = .warming) (blocked : s.thermal.startPermitted = false) :
    reportStart true s = startPowering (s.withThermal { s.thermal with startPermitted := true }) :=
  if_pos (by simp [warming, blocked])

theorem reportStart_of_not_given {permitted : Bool} {s : State}
    (other : s.seq.state ≠ .warming ∨ s.thermal.startPermitted = true ∨ permitted = false) :
    reportStart permitted s = s.withThermal { s.thermal with startPermitted := permitted } :=
  if_neg (by
    simp only [Bool.and_eq_true, Bool.not_eq_true', decide_eq_true_eq]
    rintro ⟨⟨given, blocked⟩, warming⟩
    rcases other with elsewhere | before | refused
    · exact elsewhere warming
    · exact absurd (blocked.symm.trans before) Bool.false_ne_true
    · exact absurd (refused.symm.trans given) Bool.false_ne_true)

theorem reportStart_allocationTimer (permitted : Bool) (s : State) :
    (reportStart permitted s).thermal.allocationTimer = s.thermal.allocationTimer := by
  unfold reportStart
  dsimp only
  split
  · rw [startPowering_thermal]
    rfl
  · rfl

/-- The zones with their gates evaluated, before start permitted is reported (R44). -/
def gatedState (s : State) : State :=
  (allocate (rearmedState s)).withZones (Vector.ofFn (gateZone (allocate (rearmedState s))))

theorem allocationExpiry_eq (s : State) :
    allocationExpiry s = reportStart (allReleased (allocationExpiry s).zones) (gatedState s) := by
  have zones : (allocationExpiry s).zones = Vector.ofFn (gateZone (allocate (rearmedState s))) :=
    (reportStart_keeps _ _).2.2.2.2.2.2.2.1
  rw [zones]
  rfl

/-- GATE_RELEASE is the expiry when the zone's count ends at it (R43; log entry 6). -/
theorem gateReleases_iff_ends (s : State) (z : Zone) :
    gateReleases s z = true ↔ s.settings.zones[z].gateFlag = true ∧ zoneWarm s z = true ∧
      ((s.zones[z].lastFlag = true ∧ s.zones[z].gate = .counting ∧ s.zones[z].gateLength ≤ s.zones[z].gateTimer + 250) ∨
        ((s.zones[z].gate = .blocking ∨ s.zones[z].lastFlag = false) ∧ s.settings.limits.gateHold = 0)) := by
  rw [gateReleases_iff]
  refine and_congr_right fun flag => ?_
  have evaluated : gateZone s z =
      gateStep (zoneWarm s z) (s.settings.limits.gateHold * 1000) (flaggedZone s.zones[z]) := if_pos flag
  rw [evaluated, gateStep_releases_iff, Nat.mul_eq_zero, or_iff_left (by decide : ¬ 1000 = 0)]

/-- Settles O35. -/
theorem gateEvaluationPermitsTheStart : Obligations.GateEvaluationPermitsTheStart := by
  unfold Obligations.GateEvaluationPermitsTheStart
  refine ⟨zoneWarm_iff, ?expiry, ?release, ?none⟩
  case expiry =>
    intro s running
    have permitted : (allocationExpiry s).thermal.startPermitted = allReleased (allocationExpiry s).zones :=
      (congrArg (fun t => t.thermal.startPermitted) (allocationExpiry_eq s)).trans (reportStart_permitted _ _)
    refine ⟨allocationExpiry s, exec_allocationPeriodExpiry_of_running running, ?timer, fun z => ?lastFlag,
      fun z flag => ?unflagged, fun z flag warm => ?cold, fun z flag warm starts => ?starting,
      fun z flag last warm counting => ?counting, fun z flag last warm released => ?released,
      permitted.trans (allReleased_eq _), ?given, ?frame⟩
    case timer =>
      exact (congrArg (fun t => t.thermal.allocationTimer) (allocationExpiry_eq s)).trans
        (reportStart_allocationTimer _ _)
    case given =>
      intro warming blocked given
      have started : allocationExpiry s =
          startPowering ((gatedState s).withThermal { (gatedState s).thermal with startPermitted := true }) := by
        refine (allocationExpiry_eq s).trans ?_
        rw [← permitted, given]
        exact reportStart_of_given (s := gatedState s) warming blocked
      obtain ⟨state, powered, -⟩ :=
        startPowering_state ((gatedState s).withThermal { (gatedState s).thermal with startPermitted := true })
      rw [started]
      exact ⟨state, powered⟩
    case frame =>
      intro other
      have reported := allocationExpiry_eq s
      rw [← permitted, reportStart_of_not_given (s := gatedState s) other] at reported
      have zones : (allocationExpiry s).zones = (gatedState s).zones := by rw [reported]; rfl
      rw [zones]
      exact reported
    all_goals obtain ⟨y, gate, timer, length, last', gated, ungated⟩ := allocationExpiry_gate s z
    case lastFlag =>
      cases flag : s.settings.zones[z].gateFlag with
      | true => rw [gated flag, (gateStep_keeps _ _ _).2.2.2.2.2.2, flaggedZone_lastFlag]
      | false => rw [ungated flag]
    case unflagged =>
      rw [ungated flag]
      exact ⟨rfl, rfl⟩
    case cold =>
      rw [gated flag, warm, ← gate, ← timer, ← last']
      exact gateStep_cold _ y
    case starting =>
      rw [← gate, ← last'] at starts
      obtain ⟨zero, held, state⟩ := gateStep_starting (hold := s.settings.limits.gateHold * 1000) starts
      rw [gated flag, warm]
      refine ⟨zero, held, state.trans ?_⟩
      simp
    case counting =>
      rw [← gate] at counting
      rw [← last'] at last
      rw [gated flag, warm, ← timer, ← length]
      exact gateStep_counting last counting
    case released =>
      rw [← gate] at released
      rw [← last'] at last
      rw [gated flag, warm, ← timer, ← length, gateStep_released last released]
      exact ⟨released, rfl, rfl⟩
  case release =>
    intro z s running flag warm ends
    have releases := (gateReleases_iff_ends s z).2 ⟨flag, warm, ends⟩
    have taken : gateRelease z s = allocationExpiry s := if_pos (by rw [running, releases]; rfl)
    refine ⟨_, congrArg Host.Outcome.next taken, exec_allocationPeriodExpiry_of_running running, ?_⟩
    obtain ⟨y, gate, timer, length, last, gated, -⟩ := allocationExpiry_gate s z
    rw [gated flag]
    rw [← gate, ← timer, ← length, ← last] at ends
    refine ((gateStep_releases_iff _ _ y).2 ⟨warm, ends.imp id fun zero => ⟨zero.1, by rw [zero.2]⟩⟩).2
  case none =>
    intro z s elsewhere
    refine congrArg Host.Outcome.next (if_neg ?_)
    rw [Bool.and_eq_true, gateReleases_iff_ends]
    rintro ⟨running, flag, warm, ends⟩
    rcases elsewhere with stopped | unflagged | cold | ⟨last, released⟩ | ⟨last, counting, before⟩ | ⟨starts, hold⟩
    · rw [stopped] at running
      exact absurd running Bool.false_ne_true
    · exact absurd (unflagged.symm.trans flag) Bool.false_ne_true
    · exact absurd (cold.symm.trans warm) Bool.false_ne_true
    · rcases ends with ⟨-, counting, -⟩ | ⟨starts, -⟩
      · exact absurd (released.symm.trans counting) (by decide)
      · exact starts.elim (fun blocking => absurd (released.symm.trans blocking) (by decide))
          (fun new => absurd (new.symm.trans last) Bool.false_ne_true)
    · rcases ends with ⟨-, -, reached⟩ | ⟨starts, -⟩
      · exact absurd before (Nat.not_lt.2 reached)
      · exact starts.elim (fun blocking => absurd (counting.symm.trans blocking) (by decide))
          (fun new => absurd (new.symm.trans last) Bool.false_ne_true)
    · rcases ends with ⟨last, counting, -⟩ | ⟨-, zero⟩
      · exact starts.elim (fun blocking => absurd (counting.symm.trans blocking) (by decide))
          (fun new => absurd (new.symm.trans last) Bool.false_ne_true)
      · exact absurd zero (Nat.pos_iff_ne_zero.1 hold)

/-! ### The drive frames (R31) -/

theorem timeBaseTick_zone (s : State) (z : Zone) : (timeBaseTick s).zones[z] = tickZone s.zones[z] := by
  rw [timeBaseTick]
  exact mapEach_getElem _ _ _

theorem heaterOn_of_frame {s : State} {z : Zone} {elapsed : Nat} (frame : s.zones[z].frame = some elapsed) :
    heaterOn s z = decide (elapsed < s.zones[z].grantedDuty) := by
  rw [heaterOn, frame]

theorem heaterOn_of_none {s : State} {z : Zone} (frame : s.zones[z].frame = none) : heaterOn s z = false := by
  rw [heaterOn, frame]

/-- So many ms into a frame, the zone's frame stands at that time, in 0.1 ms, and its grant is the one in force (R31). -/
theorem ticks_zone {s : State} {z : Zone} (begun : s.zones[z].frame = some 0) {ms : Nat} (within : ms ≤ 99) :
    (timeBaseTick^[ms] s).zones[z] = { s.zones[z] with frame := some (10 * ms) } := by
  induction ms with
  | zero => rw [Function.iterate_zero_apply, Nat.mul_zero, ← begun]
  | succ ms ih =>
    rw [Function.iterate_succ_apply', timeBaseTick_zone, ih (by omega)]
    have next : nextMillisecond (10 * ms) = 10 * (ms + 1) := by
      unfold nextMillisecond
      omega
    rw [← next]
    rfl

theorem driveOnTimeEnd_of_frame {s : State} {z : Zone} {elapsed : Nat} (frame : s.zones[z].frame = some elapsed) :
    driveOnTimeEnd z s =
      if s.zones[z].grantedDuty < 1000 ∧ endsWithin s.zones[z].grantedDuty elapsed = true then
        s.withZones (put s.zones z { s.zones[z] with frame := some s.zones[z].grantedDuty })
      else s := by
  rw [driveOnTimeEnd, frame]

/-- Settles O36. -/
theorem driveFramesFollowTheGrant : Obligations.DriveFramesFollowTheGrant := by
  unfold Obligations.DriveFramesFollowTheGrant
  refine ⟨fun z elapsed s => heaterOn_of_frame, fun z s => heaterOn_of_none, ?start, ?resetting, ?tick, ?ends, ?stays, ?full⟩
  case start =>
    intro z s idle
    have taken : driveFrameStart z s = s.withZones (put s.zones z { s.zones[z] with frame := some 0 }) :=
      if_pos (by simp [idle])
    have zone : (s.withZones (put s.zones z { s.zones[z] with frame := some 0 })).zones[z] =
        { s.zones[z] with frame := some 0 } := put_getElem_self _ _ _
    have begun : (s.withZones (put s.zones z { s.zones[z] with frame := some 0 })).zones[z].frame = some 0 := by
      rw [zone]
    refine ⟨_, congrArg Host.Outcome.next taken, ?_, rfl, fun ms within => ?_⟩
    · rw [heaterOn_of_frame begun, zone]
    · have later := ticks_zone begun within
      rw [heaterOn_of_frame (elapsed := 10 * ms) (by rw [later]), later, zone]
  case resetting =>
    intro z s busy
    exact congrArg Host.Outcome.next (if_neg (by rw [Option.isNone_iff_eq_none, ← Option.not_isSome_iff_eq_none]
                                                 exact not_not.2 busy))
  case tick =>
    intro s
    refine ⟨rfl, fun z elapsed frame => ?_, fun z frame => ?_⟩
    · rw [timeBaseTick_zone, tickZone, frame]
      rfl
    · rw [timeBaseTick_zone, tickZone, frame, Option.map_none, ← frame]
  case ends =>
    intro z elapsed s frame part from_now within
    have taken := (driveOnTimeEnd_of_frame frame).trans (if_pos ⟨part, decide_eq_true ⟨from_now, within⟩⟩)
    have zone : (s.withZones (put s.zones z { s.zones[z] with frame := some s.zones[z].grantedDuty })).zones[z] =
        { s.zones[z] with frame := some s.zones[z].grantedDuty } := put_getElem_self _ _ _
    refine ⟨_, congrArg Host.Outcome.next taken, ?_, rfl⟩
    rw [heaterOn_of_frame (elapsed := s.zones[z].grantedDuty) (by rw [zone]), zone]
    exact decide_eq_false (Nat.lt_irrefl _)
  case stays =>
    intro z s other
    refine congrArg Host.Outcome.next ?_
    cases frame : s.zones[z].frame with
    | none => rw [driveOnTimeEnd, frame]
    | some elapsed =>
      refine (driveOnTimeEnd_of_frame frame).trans (if_neg ?_)
      rintro ⟨part, ends⟩
      obtain ⟨from_now, within⟩ := of_decide_eq_true ends
      rcases other elapsed frame with full | past | before <;> omega
  case full =>
    intro z elapsed s frame within duty
    rw [heaterOn_of_frame frame]
    exact decide_eq_true (by omega)

end Sys2Proof.Machine
end

section
/-! SUPPORT. The fields of the Set requests: what is read back from the bytes of a field, in range or not, and the replies of
applied requests (R177); with it Set Zone, Set Heater Curve, Set Fan and Set Thermal Limits (R34 to R37, R59 to R61). -/

namespace Sys2Proof.Machine

/-! ### Fields -/

theorem halves_append (h : Half) : (h >>> 8).truncate 8 ++ h.truncate 8 = h :=
  BitVec.eq_of_toNat_eq (readHalf_of_halves h)

theorem readSigned_of_halves (h : Half) : readSigned ((h >>> 8).truncate 8) (h.truncate 8) = h.toInt := by
  rw [readSigned, halves_append]

theorem half_ofNat_toNat {n : Nat} (small : n < 65536) : (BitVec.ofNat 16 n).toNat = n := by
  rw [BitVec.toNat_ofNat]
  exact Nat.mod_eq_of_lt small

theorem half_ofInt_toInt {t : Int} (low : -32768 ≤ t) (high : t < 32768) : (BitVec.ofInt 16 t).toInt = t := by
  rw [BitVec.toInt_ofInt]
  exact Int.bmod_eq_of_le (by norm_num; omega) (by norm_num; omega)

theorem clampNat_zero (high n : Nat) : clampNat 0 high n = min n high := Nat.zero_max _

theorem flagByte_decide_flagByte (b : Bool) : decide (flagByte b ≠ 0) = b := by
  cases b <;> rfl

/-! ### Key points -/

/-- The bytes of key points as they are received (R36). -/
def pointHalves (points : List (Half × Half)) : List Byte := points.flatMap fun p => halfBytes p.1 ++ halfBytes p.2

/-- The key points brought into range (R36, R132). -/
def clampedPoints (low high : Nat) (points : List (Half × Half)) : List Point :=
  points.map fun p => ⟨clampInt (-550) 1250 p.1.toInt, clampNat low high p.2.toNat⟩

theorem pointHalves_length (points : List (Half × Half)) : (pointHalves points).length = 4 * points.length := by
  induction points with
  | nil => rfl
  | cons p rest ih =>
    have rest_length : (pointHalves (p :: rest)).length = 4 + (pointHalves rest).length := by
      simp only [pointHalves, List.flatMap_cons, List.length_append]
      rfl
    rw [rest_length, ih, List.length_cons]
    omega

theorem readPoints_pointHalves (low high : Nat) (points : List (Half × Half)) :
    (readPoints (pointHalves points)).map (clampPoint low high) = clampedPoints low high points := by
  induction points with
  | nil => rfl
  | cons p rest ih =>
    have head : readPoints (pointHalves (p :: rest)) = ⟨p.1.toInt, p.2.toNat⟩ :: readPoints (pointHalves rest) := by
      rw [← readSigned_of_halves, ← readHalf_of_halves]
      rfl
    rw [head, List.map_cons, ih]
    rfl

/-- The fields of the points of a curve. -/
def curveHalves (curve : List Point) : List (Half × Half) :=
  curve.map fun p => (BitVec.ofInt 16 p.temperature, BitVec.ofNat 16 p.value)

theorem pointHalves_curveHalves (curve : List Point) : pointHalves (curveHalves curve) = curve.flatMap pointBytes := by
  rw [pointHalves, curveHalves, List.flatMap_map]
  rfl

/-- The points of a curve in range read back as they are (R36). -/
theorem clampedPoints_curveHalves {n low high : Nat} (small : high < 65536) {curve : List Point}
    (inRange : CurveInRange n low high curve) : clampedPoints low high (curveHalves curve) = curve := by
  obtain ⟨-, -, -, points⟩ := inRange
  rw [clampedPoints, curveHalves, List.map_map]
  refine (List.map_congr_left fun p mem => ?_).trans (List.map_id curve)
  obtain ⟨⟨cold, hot⟩, low', high'⟩ := points p mem
  rw [Function.comp_apply, half_ofInt_toInt (by omega) (by omega), half_ofNat_toNat (by omega),
    clampInt_of_mem cold hot, clampNat_of_mem low' high']
  rfl

theorem clampedPoints_length (low high : Nat) (points : List (Half × Half)) :
    (clampedPoints low high points).length = points.length := List.length_map _

theorem curveHalves_length (curve : List Point) : (curveHalves curve).length = curve.length := List.length_map _

/-! ### The reply of an applied request (R177) -/

/-- A request whose fields are applied is answered with them, CLAMPED when they are not the bytes received. -/
theorem next_applied {l : Link} {kind tag : Byte} {body : State → State × Option (List Byte)} {received applied : List Byte}
    {s t : State} (h : Dispatches l s)
    (b : body (setReceiver l .hunting s) = (setReceiver l .hunting t,
      some (statusByte (appliedStatus received applied) :: applied))) :
    (.next (answer l kind tag body s) : Host.Outcome State Fault Refusal) =
      .next (sendFrame l ⟨kind + 0x80, tag, (if applied = received then 0x00 else 0x01) :: applied⟩
        (setReceiver l .hunting t)) := by
  rw [statusByte_appliedStatus] at b
  exact next_answer h b

/-! ### Set Zone (R34, R35) -/

/-- The fields of a Set Zone request as they are received. -/
structure ZoneFields where
  zone : Zone
  sensor : Channel
  rated : Half
  clamp : Half
  priority : Byte
  gate : Byte
  release : Half

def ZoneFields.bytes (f : ZoneFields) : List Byte :=
  [oneByte f.zone.val, oneByte f.sensor.val] ++ halfBytes f.rated ++ halfBytes f.clamp ++ [f.priority, f.gate] ++
    halfBytes f.release

/-- The setting fields that they become, with a curve. -/
def ZoneFields.clamped (f : ZoneFields) (curve : List Point) : ZoneSettings :=
  ⟨f.sensor, clampNat 0 2000 f.rated.toNat, clampNat 0 1000 f.clamp.toNat, clampNat 0 15 f.priority.toNat,
    decide (f.gate ≠ 0), clampInt (-400) 600 f.release.toInt, curve⟩

/-- The state after an applied Set Zone (R35). -/
def zoneApplied (z : Zone) (x : ZoneSettings) (s : State) : State :=
  { s with
    settings := { s.settings with zones := put s.settings.zones z x }
    zones :=
      if x.initialPriority = s.settings.zones[z].initialPriority then s.zones
      else put s.zones z { s.zones[z] with priority := x.initialPriority } }

theorem applyZone_eq (l : Link) (z : Zone) (x : ZoneSettings) (s : State) :
    applyZone z x (setReceiver l .hunting s) =
      setReceiver l .hunting (zoneApplied z { x with curve := s.settings.zones[z].curve } s) := by
  unfold applyZone zoneApplied
  cases l <;>
  · dsimp only
    by_cases same : x.initialPriority = s.settings.zones[z].initialPriority
    · rw [if_pos same]
      exact if_pos same
    · rw [if_neg same]
      exact if_neg same

theorem setZoneBody_bytes (f : ZoneFields) (s : State) :
    setZoneBody f.bytes s =
      (applyZone f.zone (f.clamped []) s,
        some (statusByte (appliedStatus f.bytes (zonePayload f.zone (f.clamped []))) ::
          zonePayload f.zone (f.clamped []))) := by
  simp only [ZoneFields.bytes, ZoneFields.clamped, halfBytes, List.cons_append, List.nil_append, setZoneBody,
    readIndex_of_fin (by decide : 4 ≤ 256), readIndex_of_fin (by decide : 8 ≤ 256), readHalf_of_halves,
    readSigned_of_halves]

theorem exec_setZone_bytes {l : Link} {tag : Byte} {s : State} (h : Dispatches l s) (f : ZoneFields) :
    exec (.setZone l tag f.bytes) s =
      .next (sendFrame l
        ⟨0x92, tag, (if zonePayload f.zone (f.clamped []) = f.bytes then 0x00 else 0x01) ::
          zonePayload f.zone (f.clamped [])⟩
        (setReceiver l .hunting (zoneApplied f.zone (f.clamped s.settings.zones[f.zone].curve) s))) :=
  next_applied h ((setZoneBody_bytes f _).trans (by rw [applyZone_eq]; rfl))

/-- The fields of zone settings in range. -/
def ZoneFields.of (z : Zone) (x : ZoneSettings) : ZoneFields :=
  ⟨z, x.sensor, BitVec.ofNat 16 x.rated, BitVec.ofNat 16 x.clamp, oneByte x.initialPriority, flagByte x.gateFlag,
    BitVec.ofInt 16 x.release⟩

theorem ZoneFields.clamped_of {x : ZoneSettings} (inRange : ZoneInRange x) (z : Zone) (curve : List Point) :
    (ZoneFields.of z x).clamped curve = { x with curve := curve } := by
  obtain ⟨rated, clamp, priority, cold, hot⟩ := inRange
  have gate : decide ((ZoneFields.of z x).gate ≠ 0) = x.gateFlag := flagByte_decide_flagByte _
  rw [ZoneFields.clamped, gate]
  simp only [ZoneFields.of]
  rw [half_ofNat_toNat (by omega), half_ofNat_toNat (by omega), oneByte_toNat (by omega),
    half_ofInt_toInt (by omega) (by omega), clampNat_of_mem (Nat.zero_le _) rated, clampNat_of_mem (Nat.zero_le _) clamp,
    clampNat_of_mem (Nat.zero_le _) priority, clampInt_of_mem cold hot]

/-! ### Set Heater Curve (R36, R37) -/

/-- The state after an applied Set Heater Curve (R37). -/
def curveApplied (z : Zone) (curve : List Point) (s : State) : State :=
  { s with
    settings :=
      { s.settings with zones := put s.settings.zones z { s.settings.zones[z] with curve := curve } } }

/-- The bytes of a Set Heater Curve request. -/
def curveBytes (z : Zone) (points : List (Half × Half)) : List Byte :=
  [oneByte z.val, oneByte points.length] ++ pointHalves points

theorem setHeaterCurveBody_bytes {z : Zone} {points : List (Half × Half)} (some_point : 1 ≤ points.length)
    (few : points.length ≤ 8) (sorted : ascending (clampedPoints 0 1000 points) = true) (s : State) :
    setHeaterCurveBody (curveBytes z points) s =
      (s.withSettings
          { s.settings with
            zones := put s.settings.zones z { s.settings.zones[z] with curve := clampedPoints 0 1000 points } },
        some (statusByte (appliedStatus (curveBytes z points) (curvePayload z (clampedPoints 0 1000 points))) ::
          curvePayload z (clampedPoints 0 1000 points))) := by
  have count := oneByte_toNat (n := points.length) (by omega)
  have length := pointHalves_length points
  simp only [curveBytes, List.cons_append, List.nil_append, setHeaterCurveBody, readIndex_of_fin (by decide : 4 ≤ 256),
    count, readPoints_pointHalves]
  rw [if_neg (by omega), if_neg (by omega), if_pos sorted]

theorem exec_setHeaterCurve_bytes {l : Link} {tag : Byte} {s : State} (h : Dispatches l s) {z : Zone}
    {points : List (Half × Half)} (some_point : 1 ≤ points.length) (few : points.length ≤ 8)
    (sorted : ascending (clampedPoints 0 1000 points) = true) :
    exec (.setHeaterCurve l tag (curveBytes z points)) s =
      .next (sendFrame l
        ⟨0x93, tag, (if curvePayload z (clampedPoints 0 1000 points) = curveBytes z points then 0x00 else 0x01) ::
          curvePayload z (clampedPoints 0 1000 points)⟩
        (setReceiver l .hunting (curveApplied z (clampedPoints 0 1000 points) s))) :=
  next_applied h ((setHeaterCurveBody_bytes some_point few sorted _).trans (by cases l <;> rfl))

theorem curveBytes_curveHalves (z : Zone) (curve : List Point) :
    curveBytes z (curveHalves curve) = curvePayload z curve := by
  rw [curveBytes, curvePayload, pointHalves_curveHalves, curveHalves_length]

/-! ### Set Fan (R59) -/

/-- The fields of a Set Fan request as they are received. -/
structure FanFields where
  mask : Byte
  minimum : Half
  stall : Half
  points : List (Half × Half)

def FanFields.bytes (f : FanFields) : List Byte :=
  f.mask :: halfBytes f.minimum ++ halfBytes f.stall ++ [oneByte f.points.length] ++ pointHalves f.points

def FanFields.clamped (f : FanFields) : FanSettings :=
  ⟨f.mask, clampNat 0 1000 f.minimum.toNat, clampNat 0 10000 f.stall.toNat, clampedPoints 0 1000 f.points⟩

/-- The state after an applied Set Fan (R50, R59). -/
def fanApplied (x : FanSettings) (s : State) : State :=
  { s with
    settings := { s.settings with fan := x }
    thermal :=
      { s.thermal with
        fanDuty := if s.seq.hpwrEn then max s.thermal.fanDuty x.minimum else s.thermal.fanDuty } }

theorem setFanBody_bytes {f : FanFields} (some_point : 1 ≤ f.points.length) (few : f.points.length ≤ 4)
    (sorted : ascending f.clamped.curve = true) (s : State) :
    setFanBody f.bytes s =
      (applyFan f.clamped s,
        some (statusByte (appliedStatus f.bytes (fanPayload f.clamped)) :: fanPayload f.clamped)) := by
  have count := oneByte_toNat (n := f.points.length) (by omega)
  have length := pointHalves_length f.points
  rw [FanFields.clamped] at sorted
  simp only [FanFields.bytes, FanFields.clamped, halfBytes, List.cons_append, List.nil_append, setFanBody, count,
    readHalf_of_halves, readPoints_pointHalves]
  rw [if_neg (by omega), if_neg (by omega), if_pos sorted]

theorem exec_setFan_bytes {l : Link} {tag : Byte} {s : State} (h : Dispatches l s) {f : FanFields}
    (some_point : 1 ≤ f.points.length) (few : f.points.length ≤ 4) (sorted : ascending f.clamped.curve = true) :
    exec (.setFan l tag f.bytes) s =
      .next (sendFrame l
        ⟨0x95, tag, (if fanPayload f.clamped = f.bytes then 0x00 else 0x01) :: fanPayload f.clamped⟩
        (setReceiver l .hunting (fanApplied f.clamped s))) :=
  next_applied h ((setFanBody_bytes some_point few sorted _).trans (by cases l <;> rfl))

/-- The fields of fan settings in range. -/
def FanFields.of (x : FanSettings) : FanFields :=
  ⟨x.mask, BitVec.ofNat 16 x.minimum, BitVec.ofNat 16 x.stallSpeed, curveHalves x.curve⟩

theorem FanFields.clamped_of {x : FanSettings} (inRange : FanInRange x) : (FanFields.of x).clamped = x := by
  obtain ⟨minimum, stall, curve⟩ := inRange
  simp only [FanFields.clamped, FanFields.of]
  rw [half_ofNat_toNat (by omega), half_ofNat_toNat (by omega), clampNat_of_mem (Nat.zero_le _) minimum,
    clampNat_of_mem (Nat.zero_le _) stall, clampedPoints_curveHalves (by decide) curve]

theorem FanFields.bytes_of (x : FanSettings) : (FanFields.of x).bytes = fanPayload x := by
  simp only [FanFields.bytes, FanFields.of, pointHalves_curveHalves, curveHalves_length]
  rfl

/-! ### Set Thermal Limits (R60, R61) -/

/-- The fields of a Set Thermal Limits request as they are received. -/
structure LimitFields where
  mask : Byte
  trip : Half
  tripHold : Byte
  resume : Half
  resumeHold : Half
  gateHold : Half
  warm : Byte
  action : Byte
  duty : Half
  rise : Half
  count : Half
  board : Channel
  inlet : Channel
  enable : Byte

def LimitFields.bytes (f : LimitFields) : List Byte :=
  f.mask :: halfBytes f.trip ++ [f.tripHold] ++ halfBytes f.resume ++ halfBytes f.resumeHold ++ halfBytes f.gateHold ++
    [f.warm, f.action] ++ halfBytes f.duty ++ halfBytes f.rise ++ halfBytes f.count ++
    [oneByte f.board.val, oneByte f.inlet.val, f.enable]

def LimitFields.clamped (f : LimitFields) : LimitSettings where
  overheatMask := f.mask
  tripTemperature := clampInt (-550) 1250 f.trip.toInt
  tripHold := clampNat 0 60 f.tripHold.toNat
  resumeTemperature := clampInt (-550) 1250 f.resume.toInt
  resumeHold := clampNat 0 600 f.resumeHold.toNat
  gateHold := clampNat 0 600 f.gateHold.toNat
  warmTimeout := clampNat 0 240 f.warm.toNat
  warmStart := decide (f.action ≠ 0)
  highDuty := clampNat 0 1000 f.duty.toNat
  rise := clampNat 0 1000 f.rise.toNat
  serviceCount := clampNat 1 10000 f.count.toNat
  board := f.board
  inlet := f.inlet

theorem setLimitsBody_bytes {f : LimitFields} (apart : f.clamped.resumeTemperature < f.clamped.tripTemperature)
    (s : State) :
    setLimitsBody f.bytes s =
      (s.withSettings { s.settings with limits := f.clamped, channelEnable := f.enable },
        some (statusByte (appliedStatus f.bytes (limitsPayload f.clamped f.enable)) ::
          limitsPayload f.clamped f.enable)) := by
  simp only [LimitFields.clamped] at apart
  simp only [LimitFields.bytes, LimitFields.clamped, halfBytes, List.cons_append, List.nil_append, setLimitsBody,
    readIndex_of_fin (by decide : 8 ≤ 256), readHalf_of_halves, readSigned_of_halves]
  rw [if_neg (Int.not_le.2 apart)]

theorem exec_setThermalLimits_bytes {l : Link} {tag : Byte} {s : State} (h : Dispatches l s) {f : LimitFields}
    (apart : f.clamped.resumeTemperature < f.clamped.tripTemperature) :
    exec (.setThermalLimits l tag f.bytes) s =
      .next (sendFrame l
        ⟨0x96, tag, (if limitsPayload f.clamped f.enable = f.bytes then 0x00 else 0x01) ::
          limitsPayload f.clamped f.enable⟩
        (setReceiver l .hunting
          { s with settings := { s.settings with limits := f.clamped, channelEnable := f.enable } })) :=
  next_applied h ((setLimitsBody_bytes apart _).trans (by cases l <;> rfl))

/-- The fields of thermal limits in range. -/
def LimitFields.of (x : LimitSettings) (enable : Byte) : LimitFields :=
  ⟨x.overheatMask, BitVec.ofInt 16 x.tripTemperature, oneByte x.tripHold, BitVec.ofInt 16 x.resumeTemperature,
    BitVec.ofNat 16 x.resumeHold, BitVec.ofNat 16 x.gateHold, oneByte x.warmTimeout, flagByte x.warmStart,
    BitVec.ofNat 16 x.highDuty, BitVec.ofNat 16 x.rise, BitVec.ofNat 16 x.serviceCount, x.board, x.inlet, enable⟩

theorem LimitFields.clamped_of {x : LimitSettings} (inRange : LimitsInRange x) (enable : Byte) :
    (LimitFields.of x enable).clamped = x := by
  obtain ⟨⟨tripLow, tripHigh⟩, tripHold, ⟨resumeLow, resumeHigh⟩, -, resumeHold, gateHold, warm, duty, rise, countLow,
    countHigh⟩ := inRange
  have action : decide ((LimitFields.of x enable).action ≠ 0) = x.warmStart := flagByte_decide_flagByte _
  rw [LimitFields.clamped, action]
  simp only [LimitFields.of]
  rw [half_ofInt_toInt (by omega) (by omega), half_ofInt_toInt (by omega) (by omega), oneByte_toNat (by omega),
    oneByte_toNat (by omega), half_ofNat_toNat (by omega), half_ofNat_toNat (by omega), half_ofNat_toNat (by omega),
    half_ofNat_toNat (by omega), half_ofNat_toNat (by omega), clampInt_of_mem tripLow tripHigh,
    clampInt_of_mem resumeLow resumeHigh, clampNat_of_mem (Nat.zero_le _) tripHold,
    clampNat_of_mem (Nat.zero_le _) resumeHold, clampNat_of_mem (Nat.zero_le _) gateHold,
    clampNat_of_mem (Nat.zero_le _) warm, clampNat_of_mem (Nat.zero_le _) duty, clampNat_of_mem (Nat.zero_le _) rise,
    clampNat_of_mem countLow countHigh]

/-- Settles O37: each request is applied field by field; values in range are their own fields. -/
theorem climateSettingsInRangeAreApplied : Obligations.ClimateSettingsInRangeAreApplied := by
  unfold Obligations.ClimateSettingsInRangeAreApplied
  refine ⟨⟨?zone, ?curve, ?fan, ?limits⟩, ?zoneBytes, ?curveBytes, ?fanBytes, ?limitBytes⟩
  case zone =>
    intro l tag z x s dispatches inRange
    have taken := exec_setZone_bytes (tag := tag) dispatches (ZoneFields.of z x)
    have same : zonePayload z { x with curve := [] } = (ZoneFields.of z x).bytes := rfl
    have zone : (ZoneFields.of z x).zone = z := rfl
    rw [ZoneFields.clamped_of inRange, ZoneFields.clamped_of inRange] at taken
    simp only [zone, if_pos same] at taken
    exact taken
  case curve =>
    intro l tag z curve s dispatches inRange
    have ⟨some_point, few, sorted, _⟩ := inRange
    have same := clampedPoints_curveHalves (by decide) inRange
    have taken := exec_setHeaterCurve_bytes (z := z) (tag := tag) (points := curveHalves curve) dispatches
      (by rwa [curveHalves_length]) (by rwa [curveHalves_length]) (by rwa [same])
    rw [same, curveBytes_curveHalves, if_pos rfl] at taken
    exact taken
  case fan =>
    intro l tag x s dispatches inRange
    have ⟨_, _, some_point, few, sorted, _⟩ := inRange
    have taken := exec_setFan_bytes (tag := tag) (f := FanFields.of x) dispatches
      (some_point.trans_eq (curveHalves_length _).symm) ((curveHalves_length _).trans_le few)
      (by rwa [FanFields.clamped_of inRange])
    rw [FanFields.clamped_of inRange, FanFields.bytes_of, if_pos rfl] at taken
    exact taken
  case limits =>
    intro l tag enable x s dispatches inRange
    have taken := exec_setThermalLimits_bytes (tag := tag) (f := LimitFields.of x enable) dispatches
      (by rw [LimitFields.clamped_of inRange]; exact inRange.2.2.2.1)
    have same : limitsPayload x enable = (LimitFields.of x enable).bytes := rfl
    have kept : (LimitFields.of x enable).enable = enable := rfl
    rw [LimitFields.clamped_of inRange, kept, if_pos same] at taken
    exact taken
  case zoneBytes =>
    intro l tag priority gate z c rated clamp release x received applied s dispatches x_is received_is applied_is
    have clamped : x = (ZoneFields.mk z c rated clamp priority gate release).clamped s.settings.zones[z].curve := by
      rw [x_is, ZoneFields.clamped, clampNat_zero, clampNat_zero, clampNat_zero]
      rfl
    have written : applied = zonePayload z x := by
      rw [applied_is, zonePayload, x_is, flagByte_decide_ne_zero]
      rfl
    subst received_is
    have taken := exec_setZone_bytes (tag := tag) dispatches (ZoneFields.mk z c rated clamp priority gate release)
    rw [← clamped] at taken
    have same : zonePayload z ((ZoneFields.mk z c rated clamp priority gate release).clamped []) = applied := by
      rw [written, clamped]
      rfl
    rw [same] at taken
    exact taken
  case curveBytes =>
    intro l tag z points curve received applied s dispatches some_point few curve_is sorted received_is applied_is
    have clamped : curve = clampedPoints 0 1000 points := by
      rw [curve_is, clampedPoints]
      simp only [clampNat_zero]
      rfl
    have written : applied = curvePayload z (clampedPoints 0 1000 points) := by
      rw [applied_is, clamped, curvePayload, clampedPoints_length]
      rfl
    subst received_is
    rw [clamped] at sorted ⊢
    have taken := exec_setHeaterCurve_bytes (z := z) (tag := tag) dispatches some_point few sorted
    rw [← written] at taken
    exact taken
  case fanBytes =>
    intro l tag mask minimum stall points x received applied s dispatches some_point few x_is sorted received_is applied_is
    have clamped : x = (FanFields.mk mask minimum stall points).clamped := by
      rw [x_is, FanFields.clamped, clampedPoints]
      simp only [clampNat_zero]
      rfl
    have written : applied = fanPayload (FanFields.mk mask minimum stall points).clamped := by
      rw [applied_is, clamped, fanPayload, FanFields.clamped, clampedPoints_length]
      rfl
    subst received_is
    rw [clamped] at sorted ⊢
    have taken := exec_setFan_bytes (f := FanFields.mk mask minimum stall points) (tag := tag) dispatches some_point few
      sorted
    rw [← written] at taken
    exact taken
  case limitBytes =>
    intro l tag mask tripHold warm action enable trip resume resumeHold gateHold duty rise count board inlet x received
      applied s dispatches x_is apart received_is applied_is
    have clamped : x = (LimitFields.mk mask trip tripHold resume resumeHold gateHold warm action duty rise count board
        inlet enable).clamped := by
      rw [x_is, LimitFields.clamped]
      simp only [clampNat_zero]
      rfl
    have written : applied = limitsPayload (LimitFields.mk mask trip tripHold resume resumeHold gateHold warm action duty
        rise count board inlet enable).clamped enable := by
      rw [applied_is, clamped, limitsPayload]
      simp only [LimitFields.clamped, flagByte_decide_ne_zero]
      rfl
    subst received_is
    rw [clamped] at apart ⊢
    have taken := exec_setThermalLimits_bytes (f := LimitFields.mk mask trip tripHold resume resumeHold gateHold warm
      action duty rise count board inlet enable) (tag := tag) dispatches apart
    rw [← written] at taken
    exact taken

end Sys2Proof.Machine
end

section
/-! SUPPORT. Set Ladder (R103), Set Keypad, Set Key Entries and Set Chord (R132 to R134, R148, R149). -/

namespace Sys2Proof.Machine

/-! ### Rungs (R103) -/

/-- The fields of a rung as they are received. -/
abbrev RungFields := Byte × Byte × Half × Byte

def rungFieldBytes (g : RungFields) : List Byte := [g.1, g.2.1] ++ halfBytes g.2.2.1 ++ [g.2.2.2]

def clampedRung (g : RungFields) : Rung :=
  ⟨if g.1 = 0 then .warm else .cold, clampNat 1 7 g.2.1.toNat, clampNat 1 3600 g.2.2.1.toNat, g.2.2.2.getLsbD 0,
    g.2.2.2.getLsbD 1⟩

/-- The bytes of a Set Ladder request. -/
def ladderBytes (given : List RungFields) : List Byte := oneByte given.length :: given.flatMap rungFieldBytes

theorem readRungs_bytes (given : List RungFields) : readRungs (given.flatMap rungFieldBytes) = given.map clampedRung := by
  induction given with
  | nil => rfl
  | cons g rest ih =>
    have head : readRungs ((g :: rest).flatMap rungFieldBytes) =
        clampedRung g :: readRungs (rest.flatMap rungFieldBytes) := by
      rw [clampedRung, ← readHalf_of_halves]
      rfl
    rw [head, ih, List.map_cons]

theorem rungFieldBytes_length (given : List RungFields) : (given.flatMap rungFieldBytes).length = 5 * given.length := by
  induction given with
  | nil => rfl
  | cons g rest ih =>
    have rest_length : ((g :: rest).flatMap rungFieldBytes).length = 5 + (rest.flatMap rungFieldBytes).length := by
      simp only [List.flatMap_cons, List.length_append]
      rfl
    rw [rest_length, ih, List.length_cons]
    omega

theorem setLadderBody_bytes {given : List RungFields} (some_rung : 1 ≤ given.length) (few : given.length ≤ 6)
    (s : State) :
    setLadderBody (ladderBytes given) s =
      if actionInHand s.seq.state then refuse .notNow s
      else
        (ladderReset (s.withSettings { s.settings with ladder := given.map clampedRung }),
          some (statusByte (appliedStatus (ladderBytes given) (ladderPayload (given.map clampedRung))) ::
            ladderPayload (given.map clampedRung))) := by
  have count := oneByte_toNat (n := given.length) (by omega)
  have length := rungFieldBytes_length given
  simp only [ladderBytes, setLadderBody, count, readRungs_bytes]
  rw [if_neg (by omega), if_neg (by omega)]

theorem exec_setLadder_bytes {l : Link} {tag : Byte} {s : State} (h : Dispatches l s) {given : List RungFields}
    (some_rung : 1 ≤ given.length) (few : given.length ≤ 6) :
    (actionInHand s.seq.state = false →
      exec (.setLadder l tag (ladderBytes given)) s =
        .next (sendFrame l
          ⟨0x9B, tag, (if ladderPayload (given.map clampedRung) = ladderBytes given then 0x00 else 0x01) ::
            ladderPayload (given.map clampedRung)⟩
          (setReceiver l .hunting
            { s with settings := { s.settings with ladder := given.map clampedRung }, ladder := ⟨0, 0⟩ }))) ∧
      (actionInHand s.seq.state = true →
        exec (.setLadder l tag (ladderBytes given)) s =
          .next (sendFrame l ⟨0x9B, tag, [0x14]⟩ (setReceiver l .hunting s))) := by
  have seq : (setReceiver l .hunting s).seq = s.seq := setReceiver_seq l .hunting s
  refine ⟨fun free => next_applied h ?_, fun taken => next_answer h ?_⟩
  · rw [setLadderBody_bytes some_rung few, if_neg (by simp [free])]
    cases l <;> rfl
  · rw [setLadderBody_bytes some_rung few, if_pos (by rw [seq, taken])]
    rfl

/-- The fields of a rung in range. -/
def rungFields (r : Rung) : RungFields :=
  (match r.action with
    | .warm => 0
    | .cold => 1,
    oneByte r.attempts, BitVec.ofNat 16 r.offInterval, flagByte r.warn ||| (flagByte r.flip <<< 1))

theorem flagBytes_getLsbD (a b : Bool) :
    (flagByte a ||| (flagByte b <<< 1)).getLsbD 0 = a ∧ (flagByte a ||| (flagByte b <<< 1)).getLsbD 1 = b := by
  cases a <;> cases b <;> decide

theorem clampedRung_rungFields {r : Rung} (inRange : RungInRange r) : clampedRung (rungFields r) = r := by
  obtain ⟨action, attempts, off, warn, flip⟩ := r
  obtain ⟨attempts_low, attempts_high, off_low, off_high⟩ := inRange
  dsimp only at *
  have flags := flagBytes_getLsbD warn flip
  simp only [clampedRung, rungFields]
  rw [oneByte_toNat (by omega), half_ofNat_toNat (by omega), clampNat_of_mem attempts_low attempts_high,
    clampNat_of_mem off_low off_high, flags.1, flags.2]
  cases action <;> rfl

theorem ladderBytes_rungFields (rungs : List Rung) : ladderBytes (rungs.map rungFields) = ladderPayload rungs := by
  rw [ladderBytes, ladderPayload, List.length_map, List.flatMap_map]
  rfl

theorem flagByte_pair (a b : Bool) :
    flagByte a ||| (flagByte b <<< 1) = oneByte ((if a then 1 else 0) + if b then 2 else 0) := by
  cases a <;> cases b <;> rfl

theorem rungBytes_eq (r : Rung) :
    rungBytes r =
      ([match r.action with
        | .warm => 0
        | .cold => 1, oneByte r.attempts] : List Byte) ++ twoBytes r.offInterval ++
        [oneByte ((if r.warn then 1 else 0) + if r.flip then 2 else 0)] := by
  obtain ⟨action, attempts, off, warn, flip⟩ := r
  cases action <;> simp only [rungBytes, flagByte_pair]

theorem actionInHand_iff (st : SupervisorState) :
    actionInHand st = true ↔ st = .warned ∨ st = .resetPulse ∨ st = .powerDown := decide_eq_true_iff

/-- Settles O54. -/
theorem setLadderReturnsToTheFirstRung : Obligations.SetLadderReturnsToTheFirstRung := by
  unfold Obligations.SetLadderReturnsToTheFirstRung
  have idle {st : SupervisorState} (warned : st ≠ .warned) (pulse : st ≠ .resetPulse) (down : st ≠ .powerDown) :
      actionInHand st = false := by
    rw [← Bool.not_eq_true, actionInHand_iff]
    rintro (yes | yes | yes)
    · exact warned yes
    · exact pulse yes
    · exact down yes
  have same {rungs : List Rung} (inRange : LadderInRange rungs) : (rungs.map rungFields).map clampedRung = rungs := by
    rw [List.map_map]
    exact (List.map_congr_left fun r mem => clampedRung_rungFields (inRange.2.2 r mem)).trans (List.map_id rungs)
  refine ⟨?inRange, ?notNow, ?bytes⟩
  case inRange =>
    intro l tag rungs s dispatches inRange warned pulse down
    have taken := (exec_setLadder_bytes (tag := tag) dispatches (given := rungs.map rungFields)
      (inRange.1.trans_eq (List.length_map _).symm) ((List.length_map _).trans_le inRange.2.1)).1 (idle warned pulse down)
    rw [same inRange, ladderBytes_rungFields, if_pos rfl] at taken
    exact taken
  case notNow =>
    intro l tag rungs s dispatches inRange state
    have taken := (exec_setLadder_bytes (tag := tag) dispatches (given := rungs.map rungFields)
      (inRange.1.trans_eq (List.length_map _).symm) ((List.length_map _).trans_le inRange.2.1)).2
        ((actionInHand_iff _).2 state)
    rw [ladderBytes_rungFields] at taken
    exact taken
  case bytes =>
    intro l tag given rungs received applied s dispatches some_rung few rungs_is received_is applied_is
    obtain ⟨taken, refused⟩ := exec_setLadder_bytes (tag := tag) dispatches some_rung few
    have clamped : rungs = given.map clampedRung := rungs_is
    have written : applied = ladderPayload (given.map clampedRung) := by
      rw [applied_is, clamped, ladderPayload, List.length_map]
      exact congrArg _ (List.flatMap_congr fun r _ => (rungBytes_eq r).symm)
    have sent : received = ladderBytes given := received_is
    rw [sent, written, clamped]
    exact ⟨fun warned pulse down => taken (idle warned pulse down), fun state => refused ((actionInHand_iff _).2 state)⟩

/-! ### Set Keypad (R132, R133) -/

/-- The fields of a Set Keypad request as they are received. -/
structure KeypadFields where
  settle : Half
  delay : Half
  interval : Half
  stuck : Half
  channel : Channel
  points : List (Half × Half)

def KeypadFields.bytes (f : KeypadFields) : List Byte :=
  halfBytes f.settle ++ halfBytes f.delay ++ halfBytes f.interval ++ halfBytes f.stuck ++
    [oneByte f.channel.val, oneByte f.points.length] ++ pointHalves f.points

def KeypadFields.clamped (f : KeypadFields) : KeypadSettings :=
  ⟨clampNat 20 500 f.settle.toNat, clampNat 100 2000 f.delay.toNat, clampNat 20 1000 f.interval.toNat,
    clampNat 0 600 f.stuck.toNat, f.channel, clampedPoints 2 100 f.points⟩

/-- The state after an applied Set Keypad: N is computed anew (R124, R133). -/
def keypadApplied (x : KeypadSettings) (s : State) : State :=
  { s with
    settings := { s.settings with keypad := x }
    keypad :=
      { s.keypad with
        debounceTime := debounceTimeOf x.curve (reading s x.channel)
        debounceCount := debounceCountOf (debounceTimeOf x.curve (reading s x.channel)) x.settle } }

theorem setKeypadBody_bytes {f : KeypadFields} (some_point : 1 ≤ f.points.length) (few : f.points.length ≤ 4)
    (sorted : ascending f.clamped.curve = true) (s : State) :
    setKeypadBody f.bytes s =
      (recomputeDebounce (s.withSettings { s.settings with keypad := f.clamped }),
        some (statusByte (appliedStatus f.bytes (keypadPayload f.clamped)) :: keypadPayload f.clamped)) := by
  have count := oneByte_toNat (n := f.points.length) (by omega)
  have length := pointHalves_length f.points
  rw [KeypadFields.clamped] at sorted
  simp only [KeypadFields.bytes, KeypadFields.clamped, halfBytes, List.cons_append, List.nil_append, setKeypadBody, count,
    readIndex_of_fin (by decide : 8 ≤ 256), readHalf_of_halves, readPoints_pointHalves]
  rw [if_neg (by omega), if_neg (by omega), if_pos sorted]

theorem exec_setKeypad_bytes {l : Link} {tag : Byte} {s : State} (h : Dispatches l s) {f : KeypadFields}
    (some_point : 1 ≤ f.points.length) (few : f.points.length ≤ 4) (sorted : ascending f.clamped.curve = true) :
    exec (.setKeypad l tag f.bytes) s =
      .next (sendFrame l
        ⟨0x98, tag, (if keypadPayload f.clamped = f.bytes then 0x00 else 0x01) :: keypadPayload f.clamped⟩
        (setReceiver l .hunting (keypadApplied f.clamped s))) :=
  next_applied h ((setKeypadBody_bytes some_point few sorted _).trans (by cases l <;> rfl))

/-- The fields of keypad settings in range. -/
def KeypadFields.of (x : KeypadSettings) : KeypadFields :=
  ⟨BitVec.ofNat 16 x.settle, BitVec.ofNat 16 x.repeatDelay, BitVec.ofNat 16 x.repeatInterval,
    BitVec.ofNat 16 x.stuckTime, x.channel, curveHalves x.curve⟩

theorem KeypadFields.clamped_of {x : KeypadSettings} (inRange : KeypadInRange x) : (KeypadFields.of x).clamped = x := by
  obtain ⟨settle, settle', delay, delay', interval, interval', stuck, curve⟩ := inRange
  simp only [KeypadFields.clamped, KeypadFields.of]
  rw [half_ofNat_toNat (by omega), half_ofNat_toNat (by omega), half_ofNat_toNat (by omega),
    half_ofNat_toNat (by omega), clampNat_of_mem settle settle', clampNat_of_mem delay delay',
    clampNat_of_mem interval interval', clampNat_of_mem (Nat.zero_le _) stuck,
    clampedPoints_curveHalves (by decide) curve]

theorem KeypadFields.bytes_of (x : KeypadSettings) : (KeypadFields.of x).bytes = keypadPayload x := by
  simp only [KeypadFields.bytes, KeypadFields.of, pointHalves_curveHalves, curveHalves_length]
  rfl

/-! ### Set Key Entries (R134) -/

/-- The bytes of a Set Key Entries request. -/
def keyBytes (first : Nat) (given : List (Byte × Byte)) : List Byte :=
  [oneByte first, oneByte given.length] ++ given.flatMap fun g => [g.1, g.2]

def takenEntry (g : Byte × Byte) : KeyEntry := ⟨g.1, g.2.getLsbD 0, g.2.getLsbD 1⟩

theorem readKeyEntries_bytes (given : List (Byte × Byte)) :
    readKeyEntries (given.flatMap fun g => [g.1, g.2]) = given.map takenEntry := by
  induction given with
  | nil => rfl
  | cons g rest ih => exact congrArg (takenEntry g :: ·) ih

theorem keyFieldBytes_length (given : List (Byte × Byte)) :
    (given.flatMap fun g => [g.1, g.2]).length = 2 * given.length := by
  induction given with
  | nil => rfl
  | cons g rest ih =>
    simp only [List.flatMap_cons, List.length_append, List.length_cons, ih]
    simp only [List.length_nil]
    omega

/-- The two flag bits of a key entry's second byte are kept, the others cleared (R134). -/
theorem flagBits_eq_and (b : Byte) : flagByte (b.getLsbD 0) ||| (flagByte (b.getLsbD 1) <<< 1) = b &&& 3 := by
  revert b
  decide

theorem takenEntry_bytes (g : Byte × Byte) : keyEntryBytes (takenEntry g) = [g.1, g.2 &&& 3] :=
  congrArg (fun b => [g.1, b]) (flagBits_eq_and g.2)

theorem takenEntry_keyEntryBytes (k : KeyEntry) :
    takenEntry (k.code, flagByte k.enabled ||| (flagByte k.repeats <<< 1)) = k := by
  rw [takenEntry, (flagBytes_getLsbD k.enabled k.repeats).1, (flagBytes_getLsbD k.enabled k.repeats).2]

/-- The key table after a run of entries is replaced (R134). -/
theorem replaceKeys_getElem (first : Nat) (entries : List KeyEntry) (keys : Vector KeyEntry 48) (p : Position) :
    (replaceKeys first entries keys)[p] =
      if first ≤ p.val ∧ p.val < first + entries.length then (entries[p.val - first]?).getD keys[p] else keys[p] := by
  have shown : (replaceKeys first entries keys)[p] =
      if first ≤ p.val then (entries[p.val - first]?).getD keys[p] else keys[p] := Vector.getElem_ofFn _
  rw [shown]
  by_cases from_first : first ≤ p.val
  · by_cases within : p.val < first + entries.length
    · rw [if_pos from_first, if_pos ⟨from_first, within⟩]
    · rw [if_pos from_first, if_neg fun both => within both.2, List.getElem?_eq_none (by omega), Option.getD_none]
  · rw [if_neg from_first, if_neg fun both => from_first both.1]

theorem setKeyEntriesBody_bytes {first : Nat} {given : List (Byte × Byte)} (some_entry : 1 ≤ given.length)
    (fits : first + given.length ≤ 48) (s : State) :
    setKeyEntriesBody (keyBytes first given) s =
      (s.withSettings { s.settings with keys := replaceKeys first (given.map takenEntry) s.settings.keys },
        some (statusByte (appliedStatus (keyBytes first given) (keyEntriesPayload first (given.map takenEntry))) ::
          keyEntriesPayload first (given.map takenEntry))) := by
  have count := oneByte_toNat (n := given.length) (by omega)
  have start := oneByte_toNat (n := first) (by omega)
  have length := keyFieldBytes_length given
  simp only [keyBytes, List.cons_append, List.nil_append, setKeyEntriesBody, count, start, readKeyEntries_bytes]
  rw [if_neg (by omega), if_neg (by omega)]

theorem exec_setKeyEntries_bytes {l : Link} {tag : Byte} {s : State} (h : Dispatches l s) {first : Nat}
    {given : List (Byte × Byte)} (some_entry : 1 ≤ given.length) (fits : first + given.length ≤ 48) :
    exec (.setKeyEntries l tag (keyBytes first given)) s =
      .next (sendFrame l
        ⟨0x99, tag,
          (if keyEntriesPayload first (given.map takenEntry) = keyBytes first given then 0x00 else 0x01) ::
            keyEntriesPayload first (given.map takenEntry)⟩
        (setReceiver l .hunting
          (s.withSettings { s.settings with keys := replaceKeys first (given.map takenEntry) s.settings.keys }))) := by
  have settings : (setReceiver l .hunting s).settings = s.settings := by simp
  refine next_applied h ((setKeyEntriesBody_bytes some_entry fits _).trans ?_)
  rw [setReceiver_withSettings, settings]

/-! ### Set Chord (R148, R149) -/

theorem append_byte_toNat {n : Nat} (x : BitVec n) (b : Byte) : (x ++ b).toNat = x.toNat * 256 + b.toNat := by
  rw [BitVec.toNat_append, ← Nat.shiftLeft_add_eq_or_of_lt b.isLt, Nat.shiftLeft_eq]

theorem readMask_toNat (a b c d e f : Byte) :
    (readMask a b c d e f).toNat =
      ((((a.toNat * 256 + b.toNat) * 256 + c.toNat) * 256 + d.toNat) * 256 + e.toNat) * 256 + f.toNat := by
  simp only [readMask, append_byte_toNat]

theorem maskBytes_eq (m : BitVec 48) :
    maskBytes m =
      [oneByte (m.toNat / 2 ^ 40), oneByte (m.toNat / 2 ^ 32), oneByte (m.toNat / 2 ^ 24), oneByte (m.toNat / 2 ^ 16),
        oneByte (m.toNat / 2 ^ 8), oneByte m.toNat] := by
  simp only [maskBytes, halfBytes, List.cons_append, List.nil_append, List.cons.injEq, and_true]
  refine ⟨?_, ?_, ?_, ?_, ?_, ?_⟩ <;> apply BitVec.eq_of_toNat_eq <;>
    simp only [BitVec.truncate_eq_setWidth, BitVec.toNat_setWidth, BitVec.toNat_ushiftRight, oneByte,
      BitVec.toNat_ofNat, Nat.shiftRight_eq_div_pow] <;> omega

theorem oneByte_eq_of_mod {n : Nat} {b : Byte} (h : n % 256 = b.toNat) : oneByte n = b := by
  refine BitVec.eq_of_toNat_eq ?_
  rw [oneByte, BitVec.toNat_ofNat]
  exact h

/-- The six bytes of a mask are those it was read from (R148). -/
theorem maskBytes_readMask (a b c d e f : Byte) : maskBytes (readMask a b c d e f) = [a, b, c, d, e, f] := by
  have value := readMask_toNat a b c d e f
  have ha := a.isLt
  have hb := b.isLt
  have hc := c.isLt
  have hd := d.isLt
  have he := e.isLt
  have hf := f.isLt
  rw [maskBytes_eq, value, oneByte_eq_of_mod (b := a) (by omega), oneByte_eq_of_mod (b := b) (by omega),
    oneByte_eq_of_mod (b := c) (by omega), oneByte_eq_of_mod (b := d) (by omega), oneByte_eq_of_mod (b := e) (by omega),
    oneByte_eq_of_mod (b := f) (by omega)]

theorem exists_readMask (m : BitVec 48) : ∃ a b c d e f : Byte, m = readMask a b c d e f := by
  have small := m.isLt
  refine ⟨oneByte (m.toNat / 2 ^ 40), oneByte (m.toNat / 2 ^ 32), oneByte (m.toNat / 2 ^ 24), oneByte (m.toNat / 2 ^ 16),
    oneByte (m.toNat / 2 ^ 8), oneByte m.toNat, BitVec.eq_of_toNat_eq ?_⟩
  simp only [readMask, append_byte_toNat, oneByte, BitVec.toNat_ofNat]
  omega

theorem disjoint_masks_iff (x y : BitVec 48) :
    x &&& y = 0 ↔ ∀ p : Position, ¬ (x.getLsbD p.val = true ∧ y.getLsbD p.val = true) := by
  constructor
  · intro disjoint p both
    have bit : (x &&& y).getLsbD p.val = true := by rw [BitVec.getLsbD_and, both.1, both.2]; rfl
    rw [disjoint] at bit
    simp at bit
  · intro disjoint
    refine BitVec.eq_of_getLsbD_eq fun i bound => ?_
    have apart := disjoint ⟨i, bound⟩
    rw [BitVec.getLsbD_and]
    simpa using apart

theorem readChordAction_code (action : ChordAction) : readChordAction (chordActionCode action) = some action := by
  cases action <;> rfl

/-- An applied Set Chord: the entry is replaced and returns to IDLE (R149). -/
def chordApplied (i : ChordIndex) (x : ChordSettings) (s : State) : State :=
  { s with
    settings := { s.settings with chords := put s.settings.chords i x }
    chords := put s.chords i ⟨.idle, none⟩ }

/-- The bytes of a Set Chord request. -/
def chordBytes (i : ChordIndex) (members ignored : BitVec 48) (hold : Half) (action : ChordAction) : List Byte :=
  oneByte i.val :: maskBytes members ++ maskBytes ignored ++ halfBytes hold ++ [chordActionCode action]

theorem setChordBody_bytes {i : ChordIndex} {members ignored : BitVec 48} {hold : Half} {action : ChordAction}
    (enough : 2 ≤ setSize members) (few : setSize members ≤ 4) (disjoint : members &&& ignored = 0) (s : State) :
    setChordBody (chordBytes i members ignored hold action) s =
      (setChordState i ⟨.idle, none⟩
          (s.withSettings
            { s.settings with
              chords := put s.settings.chords i ⟨members, ignored, clampNat 100 10000 hold.toNat, action⟩ }),
        some (statusByte (appliedStatus (chordBytes i members ignored hold action)
            (chordPayload i ⟨members, ignored, clampNat 100 10000 hold.toNat, action⟩)) ::
          chordPayload i ⟨members, ignored, clampNat 100 10000 hold.toNat, action⟩)) := by
  obtain ⟨a5, a4, a3, a2, a1, a0, rfl⟩ := exists_readMask members
  obtain ⟨b5, b4, b3, b2, b1, b0, rfl⟩ := exists_readMask ignored
  simp only [chordBytes, maskBytes_readMask, halfBytes, List.cons_append, List.nil_append, setChordBody,
    readIndex_of_fin (by decide : 4 ≤ 256), readHalf_of_halves, readChordAction_code]
  rw [if_neg (by omega), if_neg (not_not.2 disjoint)]

theorem exec_setChord_bytes {l : Link} {tag : Byte} {s : State} (h : Dispatches l s) {i : ChordIndex}
    {members ignored : BitVec 48} {hold : Half} {action : ChordAction}
    (enough : 2 ≤ setSize members) (few : setSize members ≤ 4) (disjoint : members &&& ignored = 0) :
    exec (.setChord l tag (chordBytes i members ignored hold action)) s =
      .next (sendFrame l
        ⟨0x9A, tag,
          (if chordPayload i ⟨members, ignored, clampNat 100 10000 hold.toNat, action⟩ =
              chordBytes i members ignored hold action then 0x00 else 0x01) ::
            chordPayload i ⟨members, ignored, clampNat 100 10000 hold.toNat, action⟩⟩
        (setReceiver l .hunting
          (chordApplied i ⟨members, ignored, clampNat 100 10000 hold.toNat, action⟩ s))) :=
  next_applied h ((setChordBody_bytes enough few disjoint _).trans (by cases l <;> rfl))

/-- Of a Set Chord request only the hold can be brought into range (R148). -/
theorem chordPayload_eq_bytes_iff (i : ChordIndex) (members ignored : BitVec 48) (hold : Half) (action : ChordAction)
    {n : Nat} (small : n < 65536) :
    chordPayload i ⟨members, ignored, n, action⟩ = chordBytes i members ignored hold action ↔ n = hold.toNat := by
  have held : twoBytes n = halfBytes hold ↔ n = hold.toNat := by
    rw [halfBytes, twoBytes_eq_iff small, readHalf_of_halves]
  rw [← held, chordPayload, chordBytes, List.append_left_inj, List.cons_append, List.cons_append, List.cons_append,
    List.cons_inj_right, List.append_right_inj]

/-- The fields of key entries. -/
def entryFields (k : KeyEntry) : Byte × Byte := (k.code, flagByte k.enabled ||| (flagByte k.repeats <<< 1))

theorem keyBytes_entryFields (first : Nat) (entries : List KeyEntry) :
    keyBytes first (entries.map entryFields) = keyEntriesPayload first entries := by
  rw [keyBytes, keyEntriesPayload, List.length_map, List.flatMap_map]
  rfl

theorem takenEntry_entryFields (entries : List KeyEntry) : (entries.map entryFields).map takenEntry = entries := by
  rw [List.map_map]
  exact (List.map_congr_left fun k _ => takenEntry_keyEntryBytes k).trans (List.map_id entries)

/-- Settles O59: each request is applied field by field; values in range are their own fields. -/
theorem keySettingsInRangeAreApplied : Obligations.KeySettingsInRangeAreApplied := by
  unfold Obligations.KeySettingsInRangeAreApplied
  refine ⟨⟨?keypad, ?keys, ?chord⟩, ?keypadBytes, ?keyBytes, ?chordBytes⟩
  case keypad =>
    intro l tag x time s dispatches inRange time_is
    have ⟨_, _, _, _, _, _, _, some_point, few, sorted, _⟩ := inRange
    have taken := exec_setKeypad_bytes (tag := tag) (f := KeypadFields.of x) dispatches
      (some_point.trans_eq (curveHalves_length _).symm) ((curveHalves_length _).trans_le few)
      (by rwa [KeypadFields.clamped_of inRange])
    rw [KeypadFields.clamped_of inRange, KeypadFields.bytes_of, if_pos rfl] at taken
    have debounce : debounceTimeOf x.curve (reading s x.channel) = time := by
      rw [time_is]
      cases reading s x.channel <;> rfl
    rw [← debounce]
    exact taken
  case keys =>
    intro l tag first entries s dispatches some_entry fits
    have taken := exec_setKeyEntries_bytes (tag := tag) dispatches (first := first) (given := entries.map entryFields)
      (some_entry.trans_eq (List.length_map _).symm) (by rwa [List.length_map])
    rw [takenEntry_entryFields, keyBytes_entryFields, if_pos rfl] at taken
    exact ⟨_, fun p => replaceKeys_getElem first entries s.settings.keys p, taken⟩
  case chord =>
    intro l tag i x s dispatches inRange
    obtain ⟨enough, few, disjoint, short, long⟩ := inRange
    have hold : clampNat 100 10000 (BitVec.ofNat 16 x.hold).toNat = x.hold := by
      rw [half_ofNat_toNat (by omega), clampNat_of_mem short long]
    have taken := exec_setChord_bytes (tag := tag) (i := i) (hold := BitVec.ofNat 16 x.hold) (action := x.action) dispatches
      enough few disjoint
    have same : chordPayload i x = chordBytes i x.members x.ignored (BitVec.ofNat 16 x.hold) x.action := rfl
    rw [hold, if_pos same] at taken
    exact taken
  case keypadBytes =>
    intro l tag settle delay interval stuck c points x time received applied s dispatches some_point few x_is sorted time_is
      received_is applied_is
    have clamped : x = (KeypadFields.mk settle delay interval stuck c points).clamped := by
      rw [x_is, KeypadFields.clamped, clampedPoints, clampNat_zero]
      rfl
    have written : applied = keypadPayload (KeypadFields.mk settle delay interval stuck c points).clamped := by
      rw [applied_is, clamped, keypadPayload, KeypadFields.clamped, clampedPoints_length]
      rfl
    have debounce : debounceTimeOf x.curve (reading s c) = time := by
      rw [time_is]
      cases reading s c <;> rfl
    subst received_is
    rw [← debounce, clamped]
    rw [clamped] at sorted
    have taken := exec_setKeypad_bytes (f := KeypadFields.mk settle delay interval stuck c points) (tag := tag) dispatches
      some_point few sorted
    rw [← written] at taken
    exact taken
  case keyBytes =>
    intro l tag first given entries received applied s dispatches some_entry fits entries_is received_is applied_is
    have clamped : entries = given.map takenEntry := entries_is
    have written : applied = keyEntriesPayload first (given.map takenEntry) := by
      rw [applied_is, keyEntriesPayload, List.length_map, List.flatMap_map]
      exact congrArg _ (List.flatMap_congr fun g _ => (takenEntry_bytes g).symm)
    subst received_is
    have taken := exec_setKeyEntries_bytes (tag := tag) dispatches some_entry fits
    rw [← written, ← clamped] at taken
    exact ⟨_, fun p => replaceKeys_getElem first entries s.settings.keys p, taken⟩
  case chordBytes =>
    intro l tag a5 a4 a3 a2 a1 a0 b5 b4 b3 b2 b1 b0 code i hold action x s dispatches x_is code_is enough few disjoint
    have code' : code = chordActionCode action := by
      rw [code_is]
      cases action <;> rfl
    subst x_is
    have taken := exec_setChord_bytes (tag := tag) (i := i) (members := readMask a5 a4 a3 a2 a1 a0)
      (ignored := readMask b5 b4 b3 b2 b1 b0) (hold := hold) (action := action) dispatches enough few
      ((disjoint_masks_iff _ _).2 disjoint)
    have same := chordPayload_eq_bytes_iff i (readMask a5 a4 a3 a2 a1 a0) (readMask b5 b4 b3 b2 b1 b0) hold action
      (show clampNat 100 10000 hold.toNat < 65536 by unfold clampNat; omega)
    rw [if_congr same rfl rfl, chordBytes, chordPayload, maskBytes_readMask, maskBytes_readMask] at taken
    rw [code']
    exact taken

end Sys2Proof.Machine
end

section
/-! SUPPORT. The structural errors of the Set requests (R177). -/

namespace Sys2Proof.Machine

/-- A block's refusal with BAD_VALUE is the reply, and nothing else changes (R177). -/
theorem next_badValue {l : Link} {kind tag : Byte} {body : State → State × Option (List Byte)} {s : State}
    (h : Dispatches l s) (b : ∀ x, body x = refuse .badValue x) :
    (.next (answer l kind tag body s) : Host.Outcome State Fault Refusal) =
      .next (sendFrame l ⟨kind + 0x80, tag, [0x13]⟩ (setReceiver l .hunting s)) :=
  next_answer h (b _)

theorem setZoneBody_of_bad_index {a b c d e f g h i j : Byte} (bad : 3 < a.toNat ∨ 7 < b.toNat) (s : State) :
    setZoneBody [a, b, c, d, e, f, g, h, i, j] s = refuse .badValue s := by
  unfold setZoneBody
  dsimp only
  rcases bad with zone | sensor
  · rw [readIndex_above (n := 4) zone]
  · rw [readIndex_above (n := 8) sensor]
    cases readIndex 4 a <;> rfl

/-- The points that a request counts and carries are not strictly ascending once they are in range (R36, R59, R132). -/
def BadCurve (low high : Nat) (count : Byte) (rest : List Byte) : Prop :=
  ∃ points : List (Half × Half), points.length = count.toNat ∧ rest = pointHalves points ∧
    ascending (clampedPoints low high points) = false

theorem BadCurve.of_min {high : Nat} {count : Byte} {rest : List Byte}
    (h : ∃ points : List (Half × Half), points.length = count.toNat ∧
      rest = points.flatMap (fun p => halfBytes p.1 ++ halfBytes p.2) ∧
      ascending (points.map fun p => ⟨max (-550) (min p.1.toInt 1250), min p.2.toNat high⟩) = false) :
    BadCurve 0 high count rest := by
  obtain ⟨points, length, spelled, flat⟩ := h
  refine ⟨points, length, spelled, ?_⟩
  rw [clampedPoints]
  simp only [clampNat_zero]
  exact flat

theorem BadCurve.length {low high : Nat} {count : Byte} {rest : List Byte} (h : BadCurve low high count rest) :
    rest.length = 4 * count.toNat := by
  obtain ⟨points, length, rfl, -⟩ := h
  rw [pointHalves_length, length]

theorem BadCurve.not_ascending {low high : Nat} {count : Byte} {rest : List Byte} (h : BadCurve low high count rest) :
    ¬ ascending ((readPoints rest).map (clampPoint low high)) = true := by
  obtain ⟨points, -, rfl, flat⟩ := h
  rw [readPoints_pointHalves, flat]
  exact Bool.false_ne_true

theorem setHeaterCurveBody_of_bad {a b : Byte} {rest : List Byte}
    (bad : 3 < a.toNat ∨ b.toNat = 0 ∨ 8 < b.toNat ∨ BadCurve 0 1000 b rest) (s : State) :
    setHeaterCurveBody (a :: b :: rest) s = refuse .badValue s := by
  unfold setHeaterCurveBody
  dsimp only
  by_cases above : 4 ≤ a.toNat
  · rw [readIndex_above above]
  · rw [readIndex_of_lt (Nat.not_le.1 above)]
    dsimp only
    by_cases count : b.toNat = 0 ∨ 8 < b.toNat
    · rw [if_pos count]
    · have flat : BadCurve 0 1000 b rest := by
        rcases bad with zone | zero | many | flat
        · omega
        · exact absurd (Or.inl zero) count
        · exact absurd (Or.inr many) count
        · exact flat
      rw [if_neg count, if_neg (not_not.2 flat.length), if_neg flat.not_ascending]

theorem setFanBody_of_bad {mask m1 m0 s1 s0 count : Byte} {rest : List Byte}
    (bad : count.toNat = 0 ∨ 4 < count.toNat ∨ BadCurve 0 1000 count rest) (s : State) :
    setFanBody (mask :: m1 :: m0 :: s1 :: s0 :: count :: rest) s = refuse .badValue s := by
  unfold setFanBody
  dsimp only
  by_cases number : count.toNat = 0 ∨ 4 < count.toNat
  · rw [if_pos number]
  · have flat : BadCurve 0 1000 count rest := by
      rcases bad with zero | many | flat
      · exact absurd (Or.inl zero) number
      · exact absurd (Or.inr many) number
      · exact flat
    rw [if_neg number, if_neg (not_not.2 flat.length), if_neg flat.not_ascending]

theorem setLimitsBody_of_bad {mask tripHold board inlet enable : Byte} {trip resume : Half} {middle : List Byte}
    (length : middle.length = 12)
    (bad : 7 < board.toNat ∨ 7 < inlet.toNat ∨
      max (-550) (min trip.toInt 1250) ≤ max (-550) (min resume.toInt 1250)) (s : State) :
    setLimitsBody (mask :: halfBytes trip ++ [tripHold] ++ halfBytes resume ++ middle ++ [board, inlet, enable]) s =
      refuse .badValue s := by
  match middle, length with
  | [h1, h0, g1, g0, warm, action, d1, d0, i1, i0, c1, c0], _ =>
    simp only [halfBytes, List.cons_append, List.nil_append, setLimitsBody, readSigned_of_halves]
    by_cases above : 8 ≤ board.toNat
    · rw [readIndex_above above]
    · by_cases above' : 8 ≤ inlet.toNat
      · rw [readIndex_above above']
        cases readIndex 8 board <;> rfl
      · have close : max (-550) (min trip.toInt 1250) ≤ max (-550) (min resume.toInt 1250) := by
          rcases bad with high | high | close
          · exact absurd high above
          · exact absurd high above'
          · exact close
        rw [readIndex_of_lt (Nat.not_le.1 above), readIndex_of_lt (Nat.not_le.1 above')]
        exact if_pos close

theorem setKeypadBody_of_bad {channel count : Byte} {head rest : List Byte} (length : head.length = 8)
    (bad : 7 < channel.toNat ∨ count.toNat = 0 ∨ 4 < count.toNat ∨ BadCurve 2 100 count rest) (s : State) :
    setKeypadBody (head ++ channel :: count :: rest) s = refuse .badValue s := by
  match head, length with
  | [t1, t0, d1, d0, i1, i0, k1, k0], _ =>
    simp only [List.cons_append, List.nil_append, setKeypadBody]
    by_cases above : 8 ≤ channel.toNat
    · rw [readIndex_above above]
    · rw [readIndex_of_lt (Nat.not_le.1 above)]
      dsimp only
      by_cases number : count.toNat = 0 ∨ 4 < count.toNat
      · rw [if_pos number]
      · have flat : BadCurve 2 100 count rest := by
          rcases bad with high | zero | many | flat
          · exact absurd high above
          · exact absurd (Or.inl zero) number
          · exact absurd (Or.inr many) number
          · exact flat
        rw [if_neg number, if_neg (not_not.2 flat.length), if_neg flat.not_ascending]

theorem setChordBody_of_bad_index {index members : Byte} {rest : List Byte} (high : 3 < index.toNat)
    (length : rest.length = 14) (s : State) : setChordBody (index :: members :: rest) s = refuse .badValue s := by
  match rest, length with
  | [m4, m3, m2, m1, m0, i5, i4, i3, i2, i1, i0, h1, h0, code], _ =>
    simp only [setChordBody, readIndex_above (n := 4) high]

theorem readChordAction_above {b : Byte} (high : 4 < b.toNat) : readChordAction b = none := by
  unfold readChordAction
  split
  case h_6 => rfl
  all_goals omega

theorem setChordBody_of_bad {index a5 a4 a3 a2 a1 a0 b5 b4 b3 b2 b1 b0 h1 h0 action : Byte} {members ignored : BitVec 48}
    (members_is : members = a5 ++ a4 ++ a3 ++ a2 ++ a1 ++ a0) (ignored_is : ignored = b5 ++ b4 ++ b3 ++ b2 ++ b1 ++ b0)
    (bad : setSize members < 2 ∨ 4 < setSize members ∨
      (∃ p : Position, members.getLsbD p.val = true ∧ ignored.getLsbD p.val = true) ∨ 4 < action.toNat) (s : State) :
    setChordBody [index, a5, a4, a3, a2, a1, a0, b5, b4, b3, b2, b1, b0, h1, h0, action] s = refuse .badValue s := by
  have members_read : readMask a5 a4 a3 a2 a1 a0 = members := members_is.symm
  have ignored_read : readMask b5 b4 b3 b2 b1 b0 = ignored := ignored_is.symm
  simp only [setChordBody, members_read, ignored_read]
  cases readIndex 4 index with
  | none => rfl
  | some i =>
    dsimp only
    by_cases size : setSize members < 2 ∨ 4 < setSize members
    · rw [if_pos size]
    · rw [if_neg size]
      by_cases meet : members &&& ignored = 0
      · have high : 4 < action.toNat := by
          rcases bad with small | big | ⟨p, both⟩ | high
          · exact absurd (Or.inl small) size
          · exact absurd (Or.inr big) size
          · exact absurd both ((disjoint_masks_iff _ _).1 meet p)
          · exact high
        rw [if_neg (not_not.2 meet), readChordAction_above high]
      · rw [if_pos meet]

/-- Settles O38. -/
theorem structuralErrorsChangeNothing : Obligations.StructuralErrorsChangeNothing := by
  unfold Obligations.StructuralErrorsChangeNothing
  refine ⟨fun l tag a b c d e f g h i j s dispatches bad => next_badValue dispatches (setZoneBody_of_bad_index bad),
    ?curve, ?fan, ?limits, ?keypad, ?keys, ?chordIndex, ?chord, ?ladder⟩
  case curve =>
    intro l tag a b rest s dispatches bad
    exact next_badValue dispatches (setHeaterCurveBody_of_bad (bad.imp_right (Or.imp_right (Or.imp_right BadCurve.of_min))))
  case fan =>
    intro l tag mask m1 m0 s1 s0 count rest s dispatches bad
    exact next_badValue dispatches (setFanBody_of_bad (bad.imp_right (Or.imp_right BadCurve.of_min)))
  case limits =>
    intro l tag mask tripHold board inlet enable trip resume middle s dispatches length bad
    exact next_badValue dispatches (setLimitsBody_of_bad length bad)
  case keypad =>
    intro l tag channel count head rest s dispatches length bad
    exact next_badValue dispatches (setKeypadBody_of_bad length bad)
  case keys =>
    intro l tag first count rest s dispatches bad
    exact next_badValue dispatches fun x => if_pos bad
  case chordIndex =>
    intro l tag index members rest s dispatches high length
    exact next_badValue dispatches (setChordBody_of_bad_index high length)
  case chord =>
    intro l tag index a5 a4 a3 a2 a1 a0 b5 b4 b3 b2 b1 b0 h1 h0 action members ignored s dispatches members_is ignored_is bad
    exact next_badValue dispatches (setChordBody_of_bad members_is ignored_is bad)
  case ladder =>
    intro l tag count rest s dispatches bad
    exact next_badValue dispatches fun x => if_pos bad

end Sys2Proof.Machine
end

section
/-! SUPPORT. Key events and the Key Queue (R128, R131, R142 to R145), and Read Keys (R146, R147). -/

namespace Sys2Proof.Machine

/-! ### The key causes follow the queue (R145) -/

/-- Of a state the causes may have changed, and the host link that they are announced on. -/
def CausesOnly (s t : State) : Prop := t = { s with causes := t.causes, host := t.host }

theorem CausesOnly.trans {s u t : State} (h : CausesOnly s u) (h' : CausesOnly u t) : CausesOnly s t := by
  unfold CausesOnly at *
  exact h'.trans (by rw [h])

theorem followLevel_only (c : Cause) (condition : Bool) (s : State) : CausesOnly s (followLevel c condition s) := by
  unfold CausesOnly followLevel
  split
  · exact raise_only c s
  · rfl

theorem followQueue_only (s : State) : CausesOnly s (followQueue s) :=
  ((followLevel_only _ _ _).trans (followLevel_only _ _ _)).trans (followLevel_only _ _ _)

theorem keyWeight_getLsbD {c : Cause} (key : c = .keys ∨ c = .keysHalf ∨ c = .keysFull) {n : Nat} (from_three : 3 ≤ n) :
    (causeWeight c).getLsbD n = false := by
  by_cases small : n < 16
  · rcases key with rfl | rfl | rfl <;> interval_cases n <;> rfl
  · exact BitVec.getLsbD_of_ge _ _ (Nat.not_lt.1 small)

theorem followLevel_getLsbD {c : Cause} (condition : Bool) (s : State) {n : Nat}
    (other : (causeWeight c).getLsbD n = false) :
    (followLevel c condition s).causes.getLsbD n = s.causes.getLsbD n := by
  rw [followLevel_causes]
  cases condition
  · rw [if_neg Bool.false_ne_true, BitVec.getLsbD_and, BitVec.getLsbD_not, other, Bool.not_false, Bool.and_true]
    by_cases small : n < 16
    · rw [decide_eq_true small, Bool.and_true]
    · rw [BitVec.getLsbD_of_ge _ _ (Nat.not_lt.1 small), Bool.false_and]
  · rw [if_pos rfl, BitVec.getLsbD_or, other, Bool.or_false]

/-- The causes other than the three of the keys stay as they are (R145). -/
theorem followQueue_getLsbD (s : State) {n : Nat} (from_three : 3 ≤ n) :
    (followQueue s).causes.getLsbD n = s.causes.getLsbD n := by
  unfold followQueue
  rw [followLevel_getLsbD _ _ (keyWeight_getLsbD (by decide) from_three),
    followLevel_getLsbD _ _ (keyWeight_getLsbD (by decide) from_three),
    followLevel_getLsbD _ _ (keyWeight_getLsbD (by decide) from_three)]

/-- The three key causes after the queue has been followed (R145). -/
theorem followQueue_keyCauses (s : State) :
    holdsCause (followQueue s).causes .keys = decide (1 ≤ s.queue.entries.length) ∧
      holdsCause (followQueue s).causes .keysHalf = decide (32 ≤ s.queue.entries.length) ∧
      holdsCause (followQueue s).causes .keysFull = decide (64 ≤ s.queue.entries.length) :=
  ⟨holdsCause_followQueue .keys s, holdsCause_followQueue .keysHalf s, holdsCause_followQueue .keysFull s⟩

/-! ### Events into the queue (R143, R144) -/

theorem storeEvent_of_room {kind : KeyKind} {time : Full} {q : KeyQueue} (room : q.entries.length < 64) :
    storeEvent kind time q =
      { entries := q.entries ++ [⟨q.nextSeq, time, kind, if q.lost = 0 then none else some (min q.lost 255)⟩]
        nextSeq := q.nextSeq + 1
        lost := 0
        flushed := q.flushed } := by
  have gap : (if 0 < q.lost then some (min q.lost 255) else none) =
      if q.lost = 0 then none else some (min q.lost 255) := by
    by_cases zero : q.lost = 0
    · rw [if_pos zero, if_neg (by omega)]
    · rw [if_neg zero, if_pos (by omega)]
  rw [storeEvent, if_pos room, gap]

theorem storeEvent_of_full {kind : KeyKind} {time : Full} {q : KeyQueue} (full : 64 ≤ q.entries.length) :
    storeEvent kind time q = { q with nextSeq := q.nextSeq + 1, lost := bump q.lost } :=
  if_neg (Nat.not_lt.2 full)

/-- A key event changes the queue, and the causes that follow it. -/
theorem keyEvent_only (kind : KeyKind) (s : State) :
    keyEvent kind s =
      { s with queue := storeEvent kind s.timeBase s.queue, causes := (keyEvent kind s).causes,
               host := (keyEvent kind s).host } :=
  followQueue_only _

/-- An empty queue withdraws the three key causes, and announces nothing (R144, R145). -/
theorem followQueue_of_empty {s : State} (empty : s.queue.entries = []) :
    followQueue s = withdrawCause .keysFull (withdrawCause .keysHalf (withdrawCause .keys s)) := by
  rw [followQueue, empty]
  rfl

/-- Settles O57. -/
theorem keyEventsAreStoredLostOrFlushed : Obligations.KeyEventsAreStoredLostOrFlushed := by
  unfold Obligations.KeyEventsAreStoredLostOrFlushed
  refine ⟨⟨fun p s enabled => if_pos enabled, fun p s disabled => if_neg (by rw [disabled]; exact Bool.false_ne_true), ?release, ?disabled⟩,
    ?room, ?full, ?flush⟩
  case release => exact fun p s enabled => ⟨if_pos enabled, if_pos enabled⟩
  case disabled => exact fun p suppressed s disabled => if_neg (by rw [disabled]; exact Bool.false_ne_true)
  case room =>
    intro kind s room
    have queue := (keyEvent_queue kind s).trans (storeEvent_of_room room)
    obtain ⟨keys, half, full⟩ := followQueue_keyCauses (s.withQueue (storeEvent kind s.timeBase s.queue))
    have length : (storeEvent kind s.timeBase s.queue).entries.length = s.queue.entries.length + 1 := by
      rw [storeEvent_of_room room, List.length_append]
      rfl
    rw [State.withQueue_queue, length] at keys half full
    refine ⟨_, rfl, queue, keys.trans ?_, half.trans ?_, full.trans ?_, ?_⟩
    · exact decide_eq_true (by omega)
    · exact decide_eq_decide.2 (by omega)
    · exact decide_eq_decide.2 (by omega)
    · rw [keyEvent_queue]
      exact keyEvent_only kind s
  case full =>
    intro kind s full
    refine ⟨_, rfl, (keyEvent_queue kind s).trans (storeEvent_of_full full), ?_⟩
    rw [keyEvent_queue]
    exact keyEvent_only kind s
  case flush =>
    intro s
    obtain ⟨keys, half, full⟩ := followQueue_keyCauses (s.withQueue (flushedQueue s.queue))
    have host : (flush s).host = s.host := by
      rw [flush, followQueue_of_empty rfl]
      rfl
    refine ⟨_, rfl, flush_queue s, keys, half, full, ?_⟩
    rw [← host, flush_queue]
    exact followQueue_only _

/-! ### Read Keys (R146, R147) -/

theorem readKeysBody_removing {count : Byte} (some_count : 0 < count.toNat) (s : State) :
    readKeysBody .host [count, 0] s =
      (removeEntries (min (min count.toNat 10) s.queue.entries.length) s,
        some (statusByte (if 10 < count.toNat then .clamped else .ok) ::
          readKeysReply (min (min count.toNat 10) s.queue.entries.length)
            (s.queue.entries.length - min (min count.toNat 10) s.queue.entries.length) s.queue)) := by
  have valid : ¬ (count.toNat = 0 ∨ 1 < (0 : Byte).toNat) := by
    rintro (zero | high)
    · omega
    · exact absurd high (by decide)
  exact (if_neg valid).trans ((if_neg fun both => absurd both.2 (by decide)).trans (if_pos rfl))

theorem readKeysBody_keeping {l : Link} {count : Byte} (some_count : 0 < count.toNat) (s : State) :
    readKeysBody l [count, 1] s =
      (s, some (statusByte (if 10 < count.toNat then .clamped else .ok) ::
        readKeysReply (min (min count.toNat 10) s.queue.entries.length) s.queue.entries.length s.queue)) := by
  have valid : ¬ (count.toNat = 0 ∨ 1 < (1 : Byte).toNat) := by
    rintro (zero | high)
    · omega
    · exact absurd high (by decide)
  exact (if_neg valid).trans ((if_neg fun both => absurd both.1 (by decide)).trans (if_neg (by decide)))

theorem readStatus_eq (count : Byte) :
    statusByte (if 10 < count.toNat then .clamped else .ok) = if 10 < count.toNat then 0x01 else 0x00 :=
  apply_ite statusByte _ _ _

/-- Settles O60. -/
theorem readKeysRemovesOrKeeps : Obligations.ReadKeysRemovesOrKeeps := by
  unfold Obligations.ReadKeysRemovesOrKeeps
  refine ⟨?removes, ?keeps, ?wrongLink, ?badValue, ?causes, ?bytes⟩
  case removes =>
    rintro tag count n s dispatches some_count rfl
    have body := readKeysBody_removing some_count (setReceiver .host .hunting s)
    rw [readStatus_eq] at body
    exact next_answer dispatches body
  case keeps =>
    rintro l tag count n s dispatches some_count rfl
    have queue : (setReceiver l .hunting s).queue = s.queue := by simp
    have body := readKeysBody_keeping (l := l) some_count (setReceiver l .hunting s)
    rw [readStatus_eq, queue] at body
    exact next_answer dispatches body
  case wrongLink =>
    intro tag count s dispatches some_count
    have valid : ¬ (count.toNat = 0 ∨ 1 < (0 : Byte).toNat) := by
      rintro (zero | high)
      · omega
      · exact absurd high (by decide)
    exact next_answer dispatches ((if_neg valid).trans (if_pos ⟨rfl, rfl⟩))
  case badValue =>
    intro l tag count option s dispatches bad
    exact next_badValue dispatches fun x => if_pos bad
  case causes =>
    intro s
    obtain ⟨keys, half, full⟩ := followQueue_keyCauses s
    exact ⟨_, rfl, keys, half, full, fun n => followQueue_getLsbD s, followQueue_only s⟩
  case bytes =>
    rintro ⟨seq, time, kind, gap⟩
    refine ⟨queueEntryBytes_length _, ?_⟩
    cases kind <;> cases gap <;> rfl

end Sys2Proof.Machine
end

section
/-! SUPPORT. The end of a reset (R85, R86, R161, R181): the blocks at their tables, the records in order, and the sequencer's state. -/

namespace Sys2Proof.Machine

/-! ### What the sequencer's settling leaves alone -/

/-- t comes from s by steps of the sequencer and appends that leave the other blocks, the SETTINGS cause and the records of
defaulted settings alone, and of the Thermal Controller change the warm timer and the fan duty at most. -/
structure Settles (s t : State) : Prop where
  resetting : t.resetting = s.resetting
  resetReply : t.resetReply = s.resetReply
  lastReset : t.lastReset = s.lastReset
  timeBase : t.timeBase = s.timeBase
  settings : t.settings = s.settings
  meas : t.meas = s.meas
  zones : t.zones = s.zones
  keypad : t.keypad = s.keypad
  chords : t.chords = s.chords
  cause : holdsCause t.causes .settings = holdsCause s.causes .settings
  records : ∀ r ∈ t.log.ring, r.kind = .settingsDefaulted → r ∈ s.log.ring
  thermal : t.thermal = { s.thermal with warmTimer := t.thermal.warmTimer, fanDuty := t.thermal.fanDuty }
  fan : s.settings.fan.minimum ≤ 1000 → s.thermal.fanDuty = 1000 → t.thermal.fanDuty = 1000

theorem Settles.trans {s t u : State} (first : Settles s t) (second : Settles t u) : Settles s u where
  resetting := second.resetting.trans first.resetting
  resetReply := second.resetReply.trans first.resetReply
  lastReset := second.lastReset.trans first.lastReset
  timeBase := second.timeBase.trans first.timeBase
  settings := second.settings.trans first.settings
  meas := second.meas.trans first.meas
  zones := second.zones.trans first.zones
  keypad := second.keypad.trans first.keypad
  chords := second.chords.trans first.chords
  cause := second.cause.trans first.cause
  records r mem kind := first.records r (second.records r mem kind) kind
  thermal := second.thermal.trans (by rw [first.thermal])
  fan minimum full := second.fan (by rwa [first.settings]) (first.fan minimum full)

theorem settles_withSeq (s : State) (x : Sequencer) : Settles s (s.withSeq x) := by
  constructor <;> simp +contextual

theorem settles_withLadder (s : State) (p : LadderPosition) : Settles s (s.withLadder p) := by
  constructor <;> simp +contextual

theorem settles_enterState (st : SupervisorState) (s : State) : Settles s (enterState st s) := by
  constructor
  case fan =>
    intro minimum full
    rw [enterState_thermal]
    simp only [raisedDuty, full]
    split
    · omega
    · rfl
  all_goals simp +contextual

theorem flush_log (s : State) : (flush s).log = s.log := by simp

theorem settles_flush (s : State) : Settles s (flush s) := by
  constructor
  case cause => simp [flush, holdsCause_followQueue]
  all_goals simp +contextual

/-- A record of a log after an append is the one appended or was there. -/
theorem mem_ring_addRecord {r x : LogRecord} {log : EventLog} (h : r ∈ (addRecord x log).ring) : r = x ∨ r ∈ log.ring := by
  unfold addRecord at h
  dsimp only at h
  split at h
  · rcases List.mem_append.1 h with old | new
    · exact Or.inr old
    · exact Or.inl (List.mem_singleton.1 new)
  · rcases List.mem_append.1 h with old | new
    · exact Or.inr (List.mem_of_mem_tail old)
    · exact Or.inl (List.mem_singleton.1 new)

theorem settles_appendLog {kind : RecordKind} (other : kind ≠ .settingsDefaulted) (detail : Half) (s : State) :
    Settles s (appendLog kind detail s) := by
  constructor
  case cause => simp [holdsCause_appendLog]
  case records =>
    intro r mem same
    rw [appendLog_log] at mem
    rcases mem_ring_addRecord mem with rfl | old
    · exact absurd same other
    · exact old
  all_goals simp

theorem settles_startPowering (s : State) : Settles s (startPowering s) := by
  have flushed := ((settles_enterState .powering s).trans (settles_withSeq _ _)).trans
    ((settles_appendLog (kind := .hostStart) (by decide) 0 (setStage 0 (enterState .powering s))).trans (settles_flush _))
  unfold startPowering
  dsimp only
  split
  · exact flushed.trans ((settles_withSeq _ _).trans ((settles_enterState .resetHold _).trans (settles_withSeq _ _)))
  · exact flushed.trans (settles_withSeq _ _)

theorem settles_enterWarming (s : State) : Settles s (enterWarming s) := by
  have entered : Settles s (warmingState s) := (settles_enterState .warming s).trans (by constructor <;> simp +contextual [warmingState])
  rw [enterWarming_eq]
  split
  · exact entered.trans (settles_startPowering _)
  · exact entered

theorem settles_enterRestarting (action : RestartAction) (off : Nat) (source : RestartSource) (s : State) :
    Settles s (enterRestarting action off source s) := by
  have entered : Settles s (restartingState action off source s) := by
    cases action
    · exact (settles_enterState .resetPulse s).trans (settles_withSeq _ _)
    · exact (settles_enterState .powerDown s).trans (settles_withSeq _ _)
  rw [enterRestarting_eq]
  exact entered.trans (settles_appendLog (by decide) _ _)

/-! ### A failure with the ladder at its start -/

/-- The first failure of a computer that is not warned: its record, and the action of the ladder's first rung (R74, R97). -/
theorem takeFailure_first {kind : RecordKind} {detail : Half} {cause : WarningCause} {r : Rung} {rest : List Rung} {s : State}
    (start : s.ladder = ⟨0, 0⟩) (rungs : s.settings.ladder = r :: rest) (attempts : 0 < r.attempts)
    (off : s.seq.state = .off) :
    takeFailure kind detail cause s =
      enterRestarting r.action r.offInterval .ladder ((failedState kind detail s).withLadder ⟨0, 1⟩) := by
  obtain ⟨settings, ladder, -⟩ := failedState_contents kind detail s
  rw [start] at ladder
  have answered : ladderFailure (failedState kind detail s) = ((failedState kind detail s).withLadder ⟨0, 1⟩, .act r) := by
    have first := ladderFailure_of_left (r := r) (f := failedState kind detail s) (by rw [settings, ladder, rungs]; rfl)
      (by rw [ladder]; exact attempts)
    rwa [ladder] at first
  rw [takeFailure_eq, answered, off]
  exact if_neg (by simp)

/-! ### The blocks with their records -/

/-- The blocks at the end of a reset with the records of the reset, before the sequencer sets its state (R161, R181). -/
def recordedBlocks (kind : ResetKind) (s : State) : State :=
  recordDefaulted (defaulted kind s.store.image) (resetRecord kind (startBlocks kind s))

theorem finishReset_eq (kind : ResetKind) (s : State) : finishReset kind s = settleHost (recordedBlocks kind s) := rfl

/-- The kind and the detail of the reset record (R161, Table 9-2). -/
def resetRecordKind (kind : ResetKind) : RecordKind := if kind = .powerOn then .powerOn else .supervisorReset

def resetRecordDetail (kind : ResetKind) : Half :=
  match kind with
  | .powerOn => 0
  | .pin => 1
  | .link => 2

theorem resetRecord_eq (kind : ResetKind) (s : State) :
    resetRecord kind s = appendLog (resetRecordKind kind) (resetRecordDetail kind) s := by
  cases kind <;> rfl

/-- The records of a reset change the log, the causes and the host link alone. -/
theorem recordedBlocks_only (kind : ResetKind) (s : State) :
    recordedBlocks kind s =
      { startBlocks kind s with
        log := (recordedBlocks kind s).log
        causes := (recordedBlocks kind s).causes
        host := (recordedBlocks kind s).host } := by
  unfold recordedBlocks recordDefaulted
  rw [resetRecord_eq]
  split
  · rw [raise_only, appendLog_only .settingsDefaulted, appendLog_only (resetRecordKind kind)]
  · rw [appendLog_only]

theorem recordedBlocks_log (kind : ResetKind) (s : State) :
    (recordedBlocks kind s).log =
      if defaulted kind s.store.image then
        (appendLog .settingsDefaulted 0 (resetRecord kind (startBlocks kind s))).log
      else (resetRecord kind (startBlocks kind s)).log := by
  unfold recordedBlocks recordDefaulted
  split <;> simp

/-- The reset record is the newest or the one before it (R161). -/
theorem recordedBlocks_resetRecord (kind : ResetKind) (s : State) :
    Recent 1 (stampRecord (resetRecordKind kind) (resetRecordDetail kind) (startBlocks kind s)) (recordedBlocks kind s).log := by
  have first := recent_appendLog (resetRecordKind kind) (resetRecordDetail kind) (startBlocks kind s)
  rw [← resetRecord_eq] at first
  rw [recordedBlocks_log]
  split
  · exact first.appendLog (by decide) _ _
  · exact first.le (Nat.zero_le _)

theorem recordedBlocks_nextSeq (kind : ResetKind) (s : State) :
    (recordedBlocks kind s).log.nextSeq =
      if defaulted kind s.store.image then followingSeq (followingSeq s.log.nextSeq) else followingSeq s.log.nextSeq := by
  have first : (resetRecord kind (startBlocks kind s)).log.nextSeq = followingSeq s.log.nextSeq := by
    rw [resetRecord_eq]
    exact (appendLog_newest _ _ _).2
  rw [recordedBlocks_log]
  split
  · rw [(appendLog_newest _ _ _).2, first]
  · exact first

/-- With a bad image SETTINGS_DEFAULTED is the newest record, and SETTINGS is pending (R181). -/
theorem recordedBlocks_of_bad {kind : ResetKind} {s : State} (bad : defaulted kind s.store.image = true) :
    Recent 0 (stampRecord .settingsDefaulted 0 (resetRecord kind (startBlocks kind s))) (recordedBlocks kind s).log ∧
      holdsCause (recordedBlocks kind s).causes .settings = true := by
  refine ⟨?_, ?_⟩
  · rw [recordedBlocks_log, if_pos bad]
    exact recent_appendLog _ _ _
  · unfold recordedBlocks recordDefaulted
    rw [if_pos bad, holdsCause_raise]
    simp

/-- With a good image, and at a link reset, nothing says that the settings were defaulted. -/
theorem recordedBlocks_of_good {kind : ResetKind} {s : State} (good : defaulted kind s.store.image = false)
    (quiet : s.causes = 0) :
    holdsCause (recordedBlocks kind s).causes .settings = false ∧
      ∀ r ∈ (recordedBlocks kind s).log.ring, r.kind = .settingsDefaulted → r ∈ s.log.ring := by
  have same : recordedBlocks kind s = resetRecord kind (startBlocks kind s) := if_neg (by simp [good])
  have settled := settles_appendLog (kind := resetRecordKind kind) (by cases kind <;> decide) (resetRecordDetail kind)
    (startBlocks kind s)
  rw [same, resetRecord_eq]
  refine ⟨settled.cause.trans ?_, fun r mem named => settled.records r mem named⟩
  simp [startBlocks, quiet, holdsCause]

/-! ### The sequencer sets its state (R85, R86) -/

/-- The first rung of a ladder in its range, and its attempts. -/
theorem firstRung_of_inRange {x : Settings} (h : SettingsInRange x) :
    ∃ r rest, x.ladder = r :: rest ∧ 0 < r.attempts := by
  obtain ⟨-, -, -, -, -, -, -, ⟨some_rung, -, inRange⟩, -⟩ := h
  obtain ⟨r, rest, rungs⟩ := List.exists_cons_of_length_pos some_rung
  have first := inRange r (by simp [rungs])
  exact ⟨r, rest, rungs, by omega⟩

/-- What the sequencer's settling meets: the ladder at its start, the sequencer in OFF, and the settings in their ranges. -/
structure Unsettled (s : State) : Prop where
  start : s.ladder = ⟨0, 0⟩
  off : s.seq.state = .off
  inRange : SettingsInRange s.settings

theorem Unsettled.failure {s : State} (h : Unsettled s) :
    ∃ r : Rung, powerGoodFailure s =
      enterRestarting r.action r.offInterval .ladder ((failedState .powerFault 1 s).withLadder ⟨0, 1⟩) := by
  obtain ⟨r, rest, rungs, attempts⟩ := firstRung_of_inRange h.inRange
  exact ⟨r, takeFailure_first h.start rungs attempts h.off⟩

theorem Unsettled.settles {s : State} (h : Unsettled s) : Settles s (settleHost s) := by
  unfold settleHost
  split
  · split
    · exact ((settles_enterState .booting s).trans (settles_withSeq _ _)).trans
        ((settles_appendLog (by decide) 1 _).trans (settles_flush _))
    · obtain ⟨r, failed⟩ := h.failure
      rw [failed]
      exact ((settles_appendLog (by decide) 1 s).trans (settles_withSeq _ _)).trans
        ((settles_withLadder _ _).trans (settles_enterRestarting _ _ _ _))
  · split
    · exact (settles_enterState .off s).trans (settles_enterWarming _)
    · exact settles_enterState .off s

/-- A recent record stays while the sequencer sets its state. -/
theorem Unsettled.mem {after : Nat} {x : LogRecord} {s : State} (h : Unsettled s) (recent : Recent after x s.log)
    (few : after < 30) : x ∈ (settleHost s).log.ring := by
  unfold settleHost
  split
  · split
    · have entered : Recent after x (enterBooting s).log := recent
      have appended := entered.appendLog (by omega) .hostStart 1
      unfold adoptHost
      rw [flush_log]
      exact appended.mem
    · obtain ⟨r, failed⟩ := h.failure
      rw [failed]
      have counted : Recent (after + 1) x ((failedState .powerFault 1 s).withLadder ⟨0, 1⟩).log :=
        recent.appendLog (by omega) .powerFault 1
      exact (counted.enterRestarting (by omega) _ _ _).mem
  · have entered : Recent after x (enterState .off s).log := recent
    split
    · exact (entered.enterWarming (by omega)).mem
    · exact entered.mem

/-- The warm timer runs in WARMING alone (R46). -/
theorem Unsettled.warmTimer {s : State} (h : Unsettled s) :
    (settleHost s).thermal.warmTimer =
      if (settleHost s).seq.state = .warming ∧ s.settings.limits.warmTimeout ≠ 0 then
        startTimer (s.settings.limits.warmTimeout * 60000)
      else none := by
  unfold settleHost
  split
  · split
    · simp [adoptHost, enterBooting]
    · obtain ⟨r, failed⟩ := h.failure
      rw [failed, enterRestarting_eq]
      cases r.action <;> simp [restartingState]
  · split
    · rw [enterWarming_eq]
      split
      · have away : (startPowering (warmingState (enterState .off s))).seq.state ≠ .warming := by
          rw [(startPowering_state _).1]
          split <;> decide
        rw [startPowering_thermal]
        exact (if_neg fun both => away both.1).symm
      · by_cases zero : s.settings.limits.warmTimeout = 0 <;> simp [warmingState, zero]
    · simp

theorem settleHost_of_powered {s : State} (powered : s.seq.hpwrEn = true) :
    settleHost s = if s.seq.hpg then adoptHost s else powerGoodFailure s :=
  if_pos powered

theorem settleHost_of_dark {s : State} (dark : s.seq.hpwrEn = false) :
    settleHost s = if s.settings.timing.autostart then enterWarming (enterState .off s) else enterState .off s :=
  if_neg (by simp [dark])

/-! ### The blocks at their tables -/

theorem imageGood_iff (x : Image) : imageGood x = true ↔ x.checks = true ∧ x.revision = 1 := by
  simp [imageGood, Config.designRevision]

theorem loadedSettings_eq (kind : ResetKind) (s : State) :
    loadedSettings kind s =
      if kind = .link then s.settings
      else if s.store.image.checks = true ∧ s.store.image.revision = 1 then s.store.image.contents
      else Settings.defaults := by
  simp only [← imageGood_iff]
  cases kind <;> rfl

theorem anyGateZone_iff (x : Settings) : anyGateZone x = true ↔ ∃ z : Zone, x.zones[z].gateFlag = true := by
  simp [anyGateZone]

theorem startPermitted_eq (x : Settings) :
    (!anyGateZone x) = decide (∀ z : Zone, x.zones[z].gateFlag = false) := by
  rw [Bool.eq_iff_iff, Bool.not_eq_true', ← Bool.not_eq_true, anyGateZone_iff, decide_eq_true_eq]
  simp

/-- A new round of the channels enabled, in ascending order, and then its reference (R17). -/
theorem measurementAfterReset_eq (enable : Byte) :
    measurementAfterReset enable =
      { fault := false
        failCount := 0
        passCount := 0
        refPtr := .hi
        enabled := enable
        current := some (((maskChannels enable).head?.map Conversion.scan).getD .reference)
        todo := (maskChannels enable).tail
        oneShots := []
        channels := Vector.ofFn fun c => ChannelRecord.empty (if inMask enable c then .noData else .disabled) } := by
  unfold measurementAfterReset nextConversion
  cases maskChannels enable <;> rfl

/-- After a reset no channel reads before its first conversion. -/
theorem reading_afterReset {x : State} {enable : Byte} (meas : x.meas = measurementAfterReset enable) (c : Channel) :
    reading x c = none := by
  refine Option.eq_none_iff_forall_ne_some.2 fun temperature read => ?_
  obtain ⟨-, value⟩ := (reading_iff x c temperature).1 read
  simp [meas, measurementAfterReset_eq, ChannelRecord.empty] at value

/-- Without a reading the debounce time is the largest of the curve's points (R123, R124). -/
theorem startBlocks_keypad (kind : ResetKind) (s : State) :
    (startBlocks kind s).keypad =
      { startKeypad kind (loadedSettings kind s) s.keypad with
        debounceTime := curveLargest (loadedSettings kind s).keypad.curve
        debounceCount := debounceCountOf (curveLargest (loadedSettings kind s).keypad.curve)
          (loadedSettings kind s).keypad.settle } := by
  simp only [startBlocks, recomputeDebounce, State.withKeypad_keypad]
  rw [reading_afterReset (enable := (loadedSettings kind s).channelEnable) rfl]
  rfl

/-- What the blocks hold with their records, from the state that stood through the reset. -/
theorem recordedBlocks_contents (kind : ResetKind) (s : State) :
    (recordedBlocks kind s).resetting = none ∧ (recordedBlocks kind s).resetReply = none ∧
      (recordedBlocks kind s).lastReset = kind ∧ (recordedBlocks kind s).timeBase = s.timeBase ∧
      (recordedBlocks kind s).settings = loadedSettings kind s ∧
      (recordedBlocks kind s).meas = measurementAfterReset (loadedSettings kind s).channelEnable ∧
      (recordedBlocks kind s).zones = Vector.ofFn (startZone (loadedSettings kind s) s.zones) ∧
      (recordedBlocks kind s).keypad = (startBlocks kind s).keypad ∧
      (recordedBlocks kind s).chords = Vector.replicate 4 ⟨.idle, none⟩ ∧
      (recordedBlocks kind s).thermal = startThermal kind (loadedSettings kind s) s.thermal ∧
      (recordedBlocks kind s).seq = s.seq ∧ (recordedBlocks kind s).ladder = s.ladder ∧
      (recordedBlocks kind s).queue = s.queue ∧ (recordedBlocks kind s).store = s.store := by
  rw [recordedBlocks_only]
  exact ⟨rfl, rfl, rfl, rfl, rfl, rfl, rfl, rfl, rfl, rfl, rfl, rfl, rfl, rfl⟩

/-- The blocks are ready for the sequencer. -/
theorem recordedBlocks_unsettled {kind : ResetKind} {s : State} (h : Lawful s) (r : s.resetting = some kind) :
    Unsettled (recordedBlocks kind s) := by
  obtain ⟨-, through, -⟩ := h.reset
  obtain ⟨-, -, -, -, -, -, -, -, -, -, -, -, -, -, -, -, -, off, position, -⟩ := through (by simp [r])
  rw [recordedBlocks_only]
  exact ⟨position, off, loadedSettings_inRange h.settings kind⟩

theorem settleHost_settles {kind : ResetKind} {s : State} (h : Lawful s) (r : s.resetting = some kind) :
    Settles (recordedBlocks kind s) (finishReset kind s) :=
  (recordedBlocks_unsettled h r).settles

/-- The Thermal Controller at the end of a reset, but for the warm timer that WARMING starts (R62, Table 3-6). -/
theorem finishReset_thermal {kind : ResetKind} {s : State} (h : Lawful s) (r : s.resetting = some kind) :
    (finishReset kind s).thermal =
      { startThermal kind (loadedSettings kind s) s.thermal with
        warmTimer :=
          if (finishReset kind s).seq.state = .warming ∧ (loadedSettings kind s).limits.warmTimeout ≠ 0 then
            startTimer ((loadedSettings kind s).limits.warmTimeout * 60000)
          else none } := by
  obtain ⟨-, -, -, ⟨minimum, -⟩, -⟩ := loadedSettings_inRange h.settings kind
  obtain ⟨-, -, -, -, settings, -, -, -, -, thermal, -⟩ := recordedBlocks_contents kind s
  have settled := settleHost_settles h r
  have warm := (recordedBlocks_unsettled h r).warmTimer
  have fan := settled.fan (by rw [settings]; exact minimum) (by rw [thermal]; rfl)
  rw [settings] at warm
  rw [settled.thermal, fan, thermal, finishReset_eq, warm]
  rfl

/-! ### The way the sequencer takes -/

/-- The adopted start: HOST_START "adopted" is the newest record, and the computer boots (R85). -/
theorem adoptHost_contents (s : State) :
    (adoptHost s).seq = (enterBooting s).seq ∧ (adoptHost s).ladder = s.ladder ∧
      (adoptHost s).queue = flushedQueue s.queue ∧
      (adoptHost s).log.ring.getLast? = some (stampRecord .hostStart 1 (enterBooting s)) := by
  refine ⟨by simp [adoptHost], by simp [adoptHost], by simp [adoptHost], ?_⟩
  unfold adoptHost
  rw [flush_log]
  exact (appendLog_newest _ _ _).1

/-- The failure of a computer found without HPG: it restarts by the first rung's action (R85, R97). -/
theorem Unsettled.powerGoodFailure_contents {s : State} (h : Unsettled s) :
    ((powerGoodFailure s).seq.state = .resetPulse ∨ (powerGoodFailure s).seq.state = .powerDown) ∧
      (powerGoodFailure s).ladder = ⟨0, 1⟩ := by
  obtain ⟨r, failed⟩ := h.failure
  rw [failed]
  refine ⟨?_, by simp⟩
  rw [enterRestarting_eq, appendLog_seq]
  cases r.action
  · exact Or.inl rfl
  · exact Or.inr rfl

/-- Settles O23. -/
theorem resetsEnd : Obligations.ResetsEnd := by
  unfold Obligations.ResetsEnd
  refine ⟨?writing, ?outside, ?ends⟩
  case writing =>
    intro kind s r other writing
    have busy : storeBusy s.store = true := by
      rcases writing with w | w | w <;> simp [storeBusy, Option.isSome_iff_ne_none.2 w]
    refine congrArg Host.Outcome.next ?_
    unfold resetEnd
    rw [r]
    exact if_pos busy
  case outside =>
    intro s r
    refine congrArg Host.Outcome.next ?_
    unfold resetEnd
    rw [r]
  case ends =>
    intro kind bad next s lawful r image cell word defaulted_eq next_eq
    have finished : resetEnd s = finishReset kind s := by
      unfold resetEnd
      rw [r]
      exact if_neg (by simp [storeBusy, image, cell, word])
    obtain rfl : bad = defaulted kind s.store.image := defaulted_eq
    have settings' := finishReset_settings kind s
    have settled := settleHost_settles lawful r
    have ready := recordedBlocks_unsettled lawful r
    obtain ⟨resetting, resetReply, lastReset, timeBase, settings, meas, zones, keypad, chords, thermal, seq, ladder, queue,
      store⟩ := recordedBlocks_contents kind s
    have nextSeq : (recordedBlocks kind s).log.nextSeq = next := (recordedBlocks_nextSeq kind s).trans next_eq.symm
    have held := lawful.heldInReset (by simp [r])
    obtain ⟨-, through, -⟩ := lawful.reset
    obtain ⟨quiet, -, -, -, -, -, -, -, -, -, -, -, -, -, -, -, -, -, position, -, noKeys, -⟩ := through (by simp [r])
    refine ⟨finishReset kind s, congrArg Host.Outcome.next finished, settled.resetting.trans resetting,
      settled.resetReply.trans resetReply, settled.lastReset.trans lastReset, settled.timeBase.trans timeBase,
      settings'.trans (loadedSettings_eq kind s), ?round, ?zones, ?thermal, ?keypad, ?chords, ?reset, ?bad, ?good, ?adopted,
      ?failed, ?off, ?warming, ?started⟩
    case round =>
      intro order ascending
      rw [settings'] at ascending ⊢
      have order_eq : maskChannels (loadedSettings kind s).channelEnable = order := ascending.symm
      rw [settled.meas, meas, measurementAfterReset_eq, order_eq]
      cases order <;> rfl
    case zones =>
      intro z
      rw [settled.zones, zones, settings']
      exact Vector.getElem_ofFn _
    case thermal =>
      rw [settings', finishReset_thermal lawful r, ← startPermitted_eq]
      rfl
    case keypad =>
      obtain ⟨-, -, -, -, -, ⟨-, -, -, -, -, -, -, points, -⟩, -⟩ := loadedSettings_inRange lawful.settings kind
      obtain ⟨found, largest⟩ := curveLargest_spec (curve := (loadedSettings kind s).keypad.curve)
        (List.ne_nil_of_length_pos points)
      rw [settled.keypad, keypad, startBlocks_keypad, settings']
      exact ⟨found, largest, rfl⟩
    case chords =>
      intro i
      rw [settled.chords, chords]
      exact Vector.getElem_replicate _
    case reset =>
      refine ⟨_, ready.mem (recordedBlocks_resetRecord kind s) (by decide), rfl, held.off, congrArg LadderPosition.rung position,
        congrArg LadderPosition.failures position, reading_afterReset rfl _, rfl, ?_⟩
      cases kind <;> rfl
    case bad =>
      intro bad
      obtain ⟨record, pending⟩ := recordedBlocks_of_bad bad
      have first : (resetRecord kind (startBlocks kind s)).log.nextSeq = followingSeq s.log.nextSeq ∧
          (resetRecord kind (startBlocks kind s)).seq.state = .off ∧
          (resetRecord kind (startBlocks kind s)).ladder = ⟨0, 0⟩ := by
        rw [resetRecord_eq]
        refine ⟨(appendLog_newest _ _ _).2, ?_, ?_⟩
        · rw [appendLog_seq]
          exact held.off
        · simpa [startBlocks] using position
      obtain ⟨number, off, start⟩ := first
      exact ⟨settled.cause.trans pending, _, ready.mem record (by decide), number, rfl, rfl, off,
        congrArg LadderPosition.rung start, congrArg LadderPosition.failures start⟩
    case good =>
      intro good
      obtain ⟨withdrawn, records⟩ := recordedBlocks_of_good good quiet
      exact ⟨settled.cause.trans withdrawn, fun x mem named => records x (settled.records x mem named) named⟩
    case adopted =>
      intro powered present
      have taken : finishReset kind s = adoptHost (recordedBlocks kind s) := by
        rw [finishReset_eq, settleHost_of_powered (by rw [seq]; exact powered), if_pos (by rw [seq]; exact present)]
      obtain ⟨seq', ladder', queue', newest⟩ := adoptHost_contents (recordedBlocks kind s)
      rw [settings', ← settings, taken, seq', ladder', queue', ladder, queue, position]
      refine ⟨rfl, rfl, rfl, rfl, rfl, ?_, rfl, _, newest, nextSeq, rfl, rfl, rfl, ?_, ?_⟩
      · obtain ⟨-, -, -, -, -, -, -, counted⟩ := lawful.queue
        simpa [flushedQueue, noKeys, Config.countLimit] using counted
      · exact congrArg LadderPosition.rung (ladder.trans position)
      · exact congrArg LadderPosition.failures (ladder.trans position)
    case failed =>
      intro powered absent
      have taken : finishReset kind s = powerGoodFailure (recordedBlocks kind s) := by
        rw [finishReset_eq, settleHost_of_powered (by rw [seq]; exact powered), if_neg (by rw [seq, absent]; simp)]
      obtain ⟨state, counted⟩ := ready.powerGoodFailure_contents
      rw [settings', ← settings, taken]
      refine ⟨state, counted, ⟨_, takeFailure_recorded .powerFault 1 .powerFault (recordedBlocks kind s), nextSeq, rfl, rfl,
        ready.off, congrArg LadderPosition.rung ready.start, congrArg LadderPosition.failures ready.start⟩, ?_⟩
      refine takeFailure_answered .powerFault 1 .powerFault (by rw [ready.off]; rfl) ⟨rfl, ladder, nextSeq, store, ?_, by simp⟩
      rw [seq]
    case off =>
      intro dark manual
      have taken : finishReset kind s = enterState .off (recordedBlocks kind s) := by
        rw [finishReset_eq, settleHost_of_dark (by rw [seq]; exact dark),
          if_neg (by rw [settings, ← settings', manual]; simp)]
      rw [taken]
      exact ⟨rfl, rfl, nextSeq⟩
    all_goals
      intro dark auto
      have taken : finishReset kind s = enterWarming (enterState .off (recordedBlocks kind s)) := by
        rw [finishReset_eq, settleHost_of_dark (by rw [seq]; exact dark), if_pos (by rw [settings, ← settings', auto])]
      have permitted : (enterState .off (recordedBlocks kind s)).thermal.startPermitted =
          !anyGateZone (loadedSettings kind s) := by
        rw [enterState_thermal, thermal]
        rfl
      rw [settings']
    case warming =>
      intro gated
      rw [taken, enterWarming_state, permitted, (anyGateZone_iff _).2 gated]
      rfl
    case started =>
      intro ungated
      have free : (enterState .off (recordedBlocks kind s)).thermal.startPermitted = true := by
        rw [permitted, startPermitted_eq]
        exact decide_eq_true ungated
      obtain ⟨state, on, -⟩ := startPowering_state (warmingState (enterState .off (recordedBlocks kind s)))
      rw [taken, enterWarming_eq, if_pos free, state, ← seq]
      exact ⟨rfl, on⟩

end Sys2Proof.Machine
end

section
/-! SUPPORT. A scan completion position by position: the changes accepted, the presses deferred, the keys made stuck, the held list and
the events, in the order of the work (R121, R122, R125 to R128, R130, R131). -/

namespace Sys2Proof.Machine

/-! ### Folds over distinct indices -/

/-- A fold of steps that each replace their own entry replaces each entry named once, by what it was before. -/
theorem foldl_put {σ α : Type} {n : Nat} {view : σ → Vector α n} {op : σ → Fin n → σ} {f : Fin n → α → α} {Same : σ → Prop}
    (one : ∀ i s, Same s → Same (op s i) ∧ view (op s i) = put (view s) i (f i (view s)[i])) {is : List (Fin n)}
    (distinct : is.Nodup) {s : σ} (same : Same s) (j : Fin n) :
    (view (is.foldl op s))[j] = if j ∈ is then f j (view s)[j] else (view s)[j] := by
  induction is generalizing s with
  | nil => simp
  | cons i is ih =>
    obtain ⟨fresh, distinct⟩ := List.nodup_cons.1 distinct
    obtain ⟨same', replaced⟩ := one i s same
    rw [List.foldl_cons, ih distinct same', replaced, put_getElem]
    by_cases first : i = j
    · subst first
      simp [fresh]
    · simp [first, Ne.symm first]

/-- A fold of steps that are each related to what they start from is related to its start. -/
theorem foldl_rel {σ ι : Type} {R : σ → σ → Prop} {op : σ → ι → σ} (refl : ∀ s, R s s)
    (trans : ∀ {s t u}, R s t → R t u → R s u) (one : ∀ s i, R s (op s i)) (is : List ι) (s : σ) : R s (is.foldl op s) := by
  induction is generalizing s with
  | nil => exact refl s
  | cons i is ih => exact trans (one s i) (ih _)

/-! ### What the work on the keys leaves alone -/

/-- Of a state the scanner and the Key Queue may have changed, with the key causes; of the scanner the key records, the held
list and the refused keystrokes, and not the row, the repeat target, its timer or N. -/
structure KeyWork (s t : State) : Prop where
  only : t = { s with keypad := t.keypad, queue := t.queue, causes := t.causes, host := t.host }
  row : t.keypad.row = s.keypad.row
  settle : t.keypad.settle = s.keypad.settle
  target : t.keypad.target = s.keypad.target
  repeatTimer : t.keypad.repeatTimer = s.keypad.repeatTimer
  debounceCount : t.keypad.debounceCount = s.keypad.debounceCount

theorem KeyWork.refl (s : State) : KeyWork s s := ⟨rfl, rfl, rfl, rfl, rfl, rfl⟩

theorem KeyWork.trans {s t u : State} (first : KeyWork s t) (second : KeyWork t u) : KeyWork s u where
  only := second.only.trans (by rw [first.only])
  row := second.row.trans first.row
  settle := second.settle.trans first.settle
  target := second.target.trans first.target
  repeatTimer := second.repeatTimer.trans first.repeatTimer
  debounceCount := second.debounceCount.trans first.debounceCount

theorem KeyWork.settings {s t : State} (h : KeyWork s t) : t.settings = s.settings := by rw [h.only]

theorem KeyWork.chords {s t : State} (h : KeyWork s t) : t.chords = s.chords := by rw [h.only]

theorem keyEvent_keypad (kind : KeyKind) (s : State) : (keyEvent kind s).keypad = s.keypad := by simp

theorem keyWork_keyEvent (kind : KeyKind) (s : State) : KeyWork s (keyEvent kind s) := by
  refine ⟨?_, ?_, ?_, ?_, ?_, ?_⟩
  case refine_1 =>
    rw [keyEvent_keypad, keyEvent_queue]
    exact keyEvent_only kind s
  all_goals simp

theorem keyWork_releaseEvent (p : Position) (suppressed : Bool) (s : State) : KeyWork s (releaseEvent p suppressed s) := by
  unfold releaseEvent
  dsimp only
  split
  · exact keyWork_keyEvent _ _
  · exact .refl s

theorem keyWork_acceptRelease (p : Position) (s : State) : KeyWork s (acceptRelease p s) := by
  refine KeyWork.trans ?_ (keyWork_releaseEvent _ _ _)
  exact ⟨rfl, rfl, rfl, rfl, rfl, rfl⟩

theorem keyWork_pressEvent (p : Position) (s : State) : KeyWork s (pressEvent p s) := by
  unfold pressEvent
  dsimp only
  split
  · exact keyWork_keyEvent _ _
  · exact ⟨rfl, rfl, rfl, rfl, rfl, rfl⟩

theorem keyWork_acceptPress (p : Position) (s : State) : KeyWork s (acceptPress p s) := by
  refine KeyWork.trans ?_ (keyWork_pressEvent _ _)
  exact ⟨rfl, rfl, rfl, rfl, rfl, rfl⟩

theorem keyWork_makeStuck (p : Position) (s : State) : KeyWork s (makeStuck p s) := by
  unfold makeStuck
  dsimp only
  split
  · refine KeyWork.trans ?_ (keyWork_keyEvent _ _)
    exact ⟨rfl, rfl, rfl, rfl, rfl, rfl⟩
  · exact ⟨rfl, rfl, rfl, rfl, rfl, rfl⟩

theorem keyWork_deferPress (p : Position) (s : State) : KeyWork s (deferPress p s) :=
  ⟨rfl, rfl, rfl, rfl, rfl, rfl⟩

theorem keyWork_acceptChanges (s : State) : KeyWork s (acceptChanges s) := by
  have released := foldl_rel KeyWork.refl KeyWork.trans (fun t p => keyWork_acceptRelease p t)
    (positionsWith fun p => releaseDue s.keypad.debounceCount s.keypad.positions[p]) s
  unfold acceptChanges
  dsimp only
  split
  · exact released.trans (foldl_rel KeyWork.refl KeyWork.trans (fun t p => keyWork_deferPress p t) _ _)
  · exact released.trans (foldl_rel KeyWork.refl KeyWork.trans (fun t p => keyWork_acceptPress p t) _ _)

theorem keyWork_stickKeys (s : State) : KeyWork s (stickKeys s) :=
  foldl_rel KeyWork.refl KeyWork.trans (fun t p => keyWork_makeStuck p t) _ _

/-! ### The key records -/

/-- A key record after the acceptances of a scan completion, whose presses may be held (R125 to R127). -/
def acceptedKey (hold : Bool) (n stuckTime : Nat) (k : KeyPosition) : KeyPosition :=
  if releaseDue n k then releasedKey k
  else if pressDue n k then if hold then { k with count := n } else pressedKey stuckTime k
  else k

/-- The presses that a scan completion accepts: all that are due, or none in an ambiguous matrix (R126). -/
def acceptedPresses (n : Nat) (positions : Vector KeyPosition 48) : List Position :=
  if ambiguous n positions then [] else positionsWith fun p => pressDue n positions[p]

theorem acceptReleases_position {ps : List Position} (distinct : ps.Nodup) (s : State) (p : Position) :
    (ps.foldl (fun t p => acceptRelease p t) s).keypad.positions[p] =
      if p ∈ ps then releasedKey s.keypad.positions[p] else s.keypad.positions[p] :=
  foldl_put (view := fun s : State => s.keypad.positions) (f := fun _ => releasedKey) (Same := fun _ => True)
    (fun i t _ => ⟨trivial, by rw [acceptRelease_keypad]⟩) distinct trivial p

theorem acceptPresses_position {ps : List Position} (distinct : ps.Nodup) (s : State) (p : Position) :
    (ps.foldl (fun t p => acceptPress p t) s).keypad.positions[p] =
      if p ∈ ps then pressedKey s.settings.keypad.stuckTime s.keypad.positions[p] else s.keypad.positions[p] :=
  foldl_put (view := fun s : State => s.keypad.positions) (f := fun _ => pressedKey s.settings.keypad.stuckTime)
    (Same := fun t => t.settings = s.settings)
    (fun i t same => ⟨(acceptPress_settings i t).trans same, by rw [acceptPress_keypad, same]⟩) distinct rfl p

theorem deferPresses_position {ps : List Position} (distinct : ps.Nodup) (s : State) (p : Position) :
    (ps.foldl (fun t p => deferPress p t) s).keypad.positions[p] =
      if p ∈ ps then { s.keypad.positions[p] with count := s.keypad.debounceCount } else s.keypad.positions[p] :=
  foldl_put (op := fun t p => deferPress p t) (view := fun s : State => s.keypad.positions) (f := fun _ k => { k with count := s.keypad.debounceCount })
    (Same := fun t => t.keypad.debounceCount = s.keypad.debounceCount)
    (fun i t same => ⟨same, by rw [← same]; rfl⟩) distinct rfl p

theorem not_pressDue_of_releaseDue {n : Nat} {k : KeyPosition} (due : releaseDue n k = true) : pressDue n k = false := by
  rw [releaseDue, Bool.and_eq_true] at due
  rw [pressDue, due.2]
  simp

theorem acceptChanges_position (s : State) (p : Position) :
    (acceptChanges s).keypad.positions[p] =
      acceptedKey (ambiguous s.keypad.debounceCount s.keypad.positions) s.keypad.debounceCount s.settings.keypad.stuckTime
        s.keypad.positions[p] := by
  have released := acceptReleases_position
    (positionsWith_nodup fun p => releaseDue s.keypad.debounceCount s.keypad.positions[p]) s p
  have kept := foldl_rel KeyWork.refl KeyWork.trans (fun t p => keyWork_acceptRelease p t)
    (positionsWith fun p => releaseDue s.keypad.debounceCount s.keypad.positions[p]) s
  unfold acceptChanges
  dsimp only
  generalize (positionsWith fun p => releaseDue s.keypad.debounceCount s.keypad.positions[p]).foldl
    (fun t p => acceptRelease p t) s = r at released kept
  simp only [mem_positionsWith] at released
  have never_both := not_pressDue_of_releaseDue (n := s.keypad.debounceCount) (k := s.keypad.positions[p])
  unfold acceptedKey
  split
  · simp only [deferPresses_position (positionsWith_nodup _), mem_positionsWith, kept.debounceCount, released]
    generalize s.keypad.positions[p] = k at never_both
    by_cases due : releaseDue s.keypad.debounceCount k = true
    · rw [if_neg (by simp [never_both due]), if_pos due, if_pos due]
    · rw [if_neg due, if_neg due]
  · simp only [acceptPresses_position (positionsWith_nodup _), mem_positionsWith, kept.settings, released]
    generalize s.keypad.positions[p] = k at never_both
    by_cases due : releaseDue s.keypad.debounceCount k = true
    · rw [if_neg (by simp [never_both due]), if_pos due, if_pos due]
    · rw [if_neg due, if_neg due]

/-- A key record after the stuck keys have been made so (R130). -/
def stuckKey (k : KeyPosition) : KeyPosition :=
  if stuckDue k then { k with suppressed := true, hold := none } else k

theorem stickKeys_position (s : State) (p : Position) :
    (stickKeys s).keypad.positions[p] = stuckKey s.keypad.positions[p] := by
  have each := foldl_put (view := fun s : State => s.keypad.positions) (op := fun t p => makeStuck p t)
    (f := fun _ k => { k with suppressed := true, hold := none }) (Same := fun _ => True)
    (fun i t _ => ⟨trivial, by rw [makeStuck_keypad]⟩)
    (positionsWith_nodup fun p => stuckDue s.keypad.positions[p]) (s := s) trivial p
  simp only [mem_positionsWith] at each
  exact each

/-- With no hold timer at its length no key is made stuck. -/
theorem stickKeys_of_none {s : State} (running : ∀ p : Position, stuckDue s.keypad.positions[p] = false) :
    stickKeys s = s := by
  have none_due : (positionsWith fun p => stuckDue s.keypad.positions[p]) = [] :=
    List.filter_eq_nil_iff.2 fun p _ => by rw [running p]; exact Bool.false_ne_true
  rw [stickKeys, none_due]
  rfl

/-! ### The held list -/

theorem acceptReleases_held (ps : List Position) (s : State) :
    (ps.foldl (fun t p => acceptRelease p t) s).keypad.held = s.keypad.held.filter fun p => p ∉ ps := by
  induction ps generalizing s with
  | nil => simp
  | cons p ps ih =>
    rw [List.foldl_cons, ih, acceptRelease_keypad, List.filter_filter]
    refine List.filter_congr fun q _ => ?_
    by_cases same : q = p <;> simp [same]

theorem acceptPresses_held (ps : List Position) (s : State) :
    (ps.foldl (fun t p => acceptPress p t) s).keypad.held = s.keypad.held ++ ps := by
  induction ps generalizing s with
  | nil => simp
  | cons p ps ih =>
    rw [List.foldl_cons, ih, acceptPress_keypad]
    simp

theorem deferPresses_held (ps : List Position) (s : State) :
    (ps.foldl (fun t p => deferPress p t) s).keypad.held = s.keypad.held := by
  induction ps generalizing s with
  | nil => rfl
  | cons p ps ih => exact ih _

theorem makeAllStuck_held (ps : List Position) (s : State) :
    (ps.foldl (fun t p => makeStuck p t) s).keypad.held = s.keypad.held := by
  induction ps generalizing s with
  | nil => rfl
  | cons p ps ih =>
    rw [List.foldl_cons, ih, makeStuck_keypad]

/-- The releases leave the held list, and then the presses join its tail (R127). -/
theorem acceptChanges_held (s : State) :
    (acceptChanges s).keypad.held =
      (s.keypad.held.filter fun p =>
        p ∉ positionsWith fun p => releaseDue s.keypad.debounceCount s.keypad.positions[p]) ++
      acceptedPresses s.keypad.debounceCount s.keypad.positions := by
  unfold acceptChanges acceptedPresses
  dsimp only
  split
  · rw [deferPresses_held, acceptReleases_held, List.append_nil]
  · rw [acceptPresses_held, acceptReleases_held]

/-! ### The events -/

/-- The kinds of the events in the Key Queue, in their order. -/
def queuedKinds (s : State) : List KeyKind := s.queue.entries.map fun e => e.kind

/-- From s to t events of these kinds have been handed over, while there was room for them all (R143). -/
def HandsOver (kinds : List KeyKind) (s t : State) : Prop :=
  s.queue.entries.length + kinds.length ≤ 64 → queuedKinds t = queuedKinds s ++ kinds

theorem handsOver_of_queue {s t : State} (same : t.queue = s.queue) : HandsOver [] s t := by
  intro _
  rw [queuedKinds, same, List.append_nil]
  rfl

theorem HandsOver.trans {first second : List KeyKind} {s t u : State} (h : HandsOver first s t) (h' : HandsOver second t u) :
    HandsOver (first ++ second) s u := by
  intro room
  rw [List.length_append] at room
  have handed := h (by omega)
  have length : t.queue.entries.length = s.queue.entries.length + first.length := by
    simpa [queuedKinds] using congrArg List.length handed
  rw [h' (by omega), handed, List.append_assoc]

theorem handsOver_of_stored {kind : KeyKind} {time : Full} {s t : State} (stored : t.queue = storeEvent kind time s.queue) :
    HandsOver [kind] s t := by
  intro room
  rw [List.length_singleton] at room
  rw [queuedKinds, stored, storeEvent_of_room (by omega)]
  simp [queuedKinds]

/-- An event that is made for an enabled key alone. -/
theorem handsOver_of_enabled {kind : Position → KeyKind} {time : Full} {p : Position} {s t : State}
    (queue : t.queue = if s.settings.keys[p].enabled then storeEvent (kind p) time s.queue else s.queue) :
    HandsOver (([p].filter fun p => s.settings.keys[p].enabled).map kind) s t := by
  rw [List.filter_cons, List.filter_nil]
  split
  next enabled => exact handsOver_of_stored (queue.trans (if_pos enabled))
  next disabled => exact handsOver_of_queue (queue.trans (if_neg disabled))

/-- The event of an accepted release by the key record before it (R131). -/
def releaseKind (s : State) (p : Position) : KeyKind :=
  if s.keypad.positions[p].suppressed then .unstuck p s.settings.keys[p].code else .release p s.settings.keys[p].code

theorem releaseEvent_queue (p : Position) (suppressed : Bool) (s : State) :
    (releaseEvent p suppressed s).queue =
      if s.settings.keys[p].enabled then
        storeEvent (if suppressed then .unstuck p s.settings.keys[p].code else .release p s.settings.keys[p].code) s.timeBase
          s.queue
      else s.queue := by
  unfold releaseEvent
  dsimp only
  split <;> simp

theorem handsOver_acceptRelease (p : Position) (s : State) :
    HandsOver (([p].filter fun p => s.settings.keys[p].enabled).map (releaseKind s)) s (acceptRelease p s) :=
  handsOver_of_enabled (time := s.timeBase) (releaseEvent_queue p s.keypad.positions[p].suppressed _)

theorem handsOver_acceptReleases {ps : List Position} (distinct : ps.Nodup) (s : State) :
    HandsOver ((ps.filter fun p => s.settings.keys[p].enabled).map (releaseKind s)) s
      (ps.foldl (fun t p => acceptRelease p t) s) := by
  induction ps generalizing s with
  | nil => exact handsOver_of_queue rfl
  | cons p ps ih =>
    obtain ⟨fresh, distinct⟩ := List.nodup_cons.1 distinct
    have rest := ih distinct (acceptRelease p s)
    rw [acceptRelease_settings] at rest
    have same : ∀ q ∈ ps.filter fun p => s.settings.keys[p].enabled, releaseKind (acceptRelease p s) q = releaseKind s q := by
      intro q mem
      have other : p ≠ q := fun e => fresh (e ▸ (List.mem_filter.1 mem).1)
      unfold releaseKind
      rw [acceptRelease_keypad, acceptRelease_settings, put_getElem, if_neg other]
    rw [List.map_congr_left same] at rest
    have both := (handsOver_acceptRelease p s).trans rest
    rwa [← List.map_append, ← List.filter_append] at both

theorem pressEvent_queue (p : Position) (s : State) :
    (pressEvent p s).queue =
      if s.settings.keys[p].enabled then storeEvent (.press p s.settings.keys[p].code) s.timeBase s.queue else s.queue := by
  unfold pressEvent
  dsimp only
  split <;> simp

theorem handsOver_acceptPress (p : Position) (s : State) :
    HandsOver (([p].filter fun p => s.settings.keys[p].enabled).map fun p => .press p s.settings.keys[p].code) s
      (acceptPress p s) :=
  handsOver_of_enabled (time := s.timeBase) (pressEvent_queue p _)

theorem handsOver_acceptPresses (ps : List Position) (s : State) :
    HandsOver ((ps.filter fun p => s.settings.keys[p].enabled).map fun p => .press p s.settings.keys[p].code) s
      (ps.foldl (fun t p => acceptPress p t) s) := by
  induction ps generalizing s with
  | nil => exact handsOver_of_queue rfl
  | cons p ps ih =>
    have rest := ih (acceptPress p s)
    rw [acceptPress_settings] at rest
    have both := (handsOver_acceptPress p s).trans rest
    rwa [← List.map_append, ← List.filter_append] at both

theorem deferPresses_queue (ps : List Position) (s : State) :
    (ps.foldl (fun t p => deferPress p t) s).queue = s.queue := by
  induction ps generalizing s with
  | nil => rfl
  | cons p ps ih => exact ih _

/-- The events of a scan completion's acceptances: the releases first, each in ascending position (R127, R128, R131). -/
theorem handsOver_acceptChanges (s : State) :
    HandsOver
      (((positionsWith fun p => releaseDue s.keypad.debounceCount s.keypad.positions[p]).filter
          fun p => s.settings.keys[p].enabled).map (releaseKind s) ++
        ((acceptedPresses s.keypad.debounceCount s.keypad.positions).filter
          fun p => s.settings.keys[p].enabled).map fun p => .press p s.settings.keys[p].code)
      s (acceptChanges s) := by
  have released := handsOver_acceptReleases
    (positionsWith_nodup fun p => releaseDue s.keypad.debounceCount s.keypad.positions[p]) s
  have kept := foldl_rel KeyWork.refl KeyWork.trans (fun t p => keyWork_acceptRelease p t)
    (positionsWith fun p => releaseDue s.keypad.debounceCount s.keypad.positions[p]) s
  unfold acceptChanges acceptedPresses
  dsimp only
  split
  · exact released.trans (handsOver_of_queue (deferPresses_queue _ _))
  · have pressed := handsOver_acceptPresses (positionsWith fun p => pressDue s.keypad.debounceCount s.keypad.positions[p])
      ((positionsWith fun p => releaseDue s.keypad.debounceCount s.keypad.positions[p]).foldl (fun t p => acceptRelease p t) s)
    rw [kept.settings] at pressed
    exact released.trans pressed

end Sys2Proof.Machine
end

section
/-! SUPPORT. The repeat step and the chord entries at a scan completion (R129, R139 to R141), and the rows sampled with the changes
accepted (R121, R122, R125 to R128). -/

namespace Sys2Proof.Machine

/-! ### The repeat step (R129) -/

theorem repeatExpired_keypad (p : Position) (s : State) :
    (repeatExpired p s).keypad = { s.keypad with repeatTimer := startTimer s.settings.keypad.repeatInterval } := by
  unfold repeatExpired
  dsimp only
  split <;> simp

/-- The scanner after the repeat step: the target and its timer. -/
def repeatedKeypad (x : KeypadSettings) (k : Keypad) : Keypad :=
  { k with
    target := k.held.getLast?
    repeatTimer :=
      if k.held.getLast? = k.target then
        if k.target.isSome && expired k.repeatTimer then startTimer x.repeatInterval else k.repeatTimer
      else if k.held.getLast?.isSome then startTimer x.repeatDelay
      else none }

theorem repeatedKeypad_of_same {x : KeypadSettings} {k : Keypad} (same : k.held.getLast? = k.target) :
    repeatedKeypad x k =
      { k with
        repeatTimer :=
          if k.target.isSome && expired k.repeatTimer then startTimer x.repeatInterval else k.repeatTimer } := by
  rw [repeatedKeypad, if_pos same, same]

theorem repeatStep_keypad (s : State) : (repeatStep s).keypad = repeatedKeypad s.settings.keypad s.keypad := by
  unfold repeatStep
  dsimp only [repeatTarget]
  split
  next same =>
    rw [repeatedKeypad_of_same same]
    cases tail : s.keypad.held.getLast? with
    | none =>
      have stays : (s.keypad.target.isSome && expired s.keypad.repeatTimer) = false := by rw [← same, tail]; rfl
      rw [stays]
      rfl
    | some p =>
      have stands : (s.keypad.target.isSome && expired s.keypad.repeatTimer) = expired s.keypad.repeatTimer := by
        rw [← same, tail]
        rfl
      rw [stands]
      dsimp only
      split
      · exact repeatExpired_keypad p s
      · rfl
  next other => rw [repeatedKeypad, if_neg other]; rfl

/-- A repeat is handed over when the target stands, its timer has run out, and it is eligible (R129). -/
theorem repeatStep_queue_of_none {s : State}
    (silent : s.keypad.held.getLast? ≠ s.keypad.target ∨ expired s.keypad.repeatTimer = false ∨
      ∀ p, s.keypad.target = some p → repeatEligible p s = false) : (repeatStep s).queue = s.queue := by
  unfold repeatStep
  dsimp only [repeatTarget]
  split
  next same =>
    cases tail : s.keypad.held.getLast? with
    | none => rfl
    | some p =>
      dsimp only
      split
      next out =>
        have ineligible : repeatEligible p s = false := by
          rcases silent with other | running | eligible
          · exact absurd same other
          · rw [running] at out
            cases out
          · exact eligible p (same.symm.trans tail)
        unfold repeatExpired
        dsimp only
        rw [if_neg (by simp [ineligible])]
        rfl
      next => rfl
  next => rfl

theorem repeatStep_of_repeat {s : State} {p : Position} (tail : s.keypad.held.getLast? = some p)
    (target : s.keypad.target = some p) (out : expired s.keypad.repeatTimer = true) (eligible : repeatEligible p s = true) :
    repeatStep s =
      keyEvent (.repeated p s.settings.keys[p].code)
        (s.withKeypad { s.keypad with repeatTimer := startTimer s.settings.keypad.repeatInterval }) := by
  unfold repeatStep repeatTarget
  rw [tail, target]
  dsimp only
  rw [if_pos rfl, if_pos out]
  exact if_pos eligible

theorem repeatExpired_only (p : Position) (s : State) :
    repeatExpired p s =
      { s with keypad := (repeatExpired p s).keypad, queue := (repeatExpired p s).queue,
               causes := (repeatExpired p s).causes, host := (repeatExpired p s).host } := by
  unfold repeatExpired
  dsimp only
  split
  · exact (keyWork_keyEvent _ _).only
  · rfl

/-- The repeat step changes the scanner and the Key Queue, with the key causes. -/
theorem repeatStep_only (s : State) :
    repeatStep s =
      { s with keypad := (repeatStep s).keypad, queue := (repeatStep s).queue, causes := (repeatStep s).causes,
               host := (repeatStep s).host } := by
  unfold repeatStep
  dsimp only
  split
  · split
    · split
      · exact repeatExpired_only _ s
      · rfl
    · rfl
  · rfl

/-! ### One chord entry (R139 to R141) -/

/-- A chord entry after a scan completion, by whether it matches (Table 8-4). -/
def nextChord (matched : Bool) (length : Nat) (c : ChordState) : ChordState :=
  if matched then
    if c.phase = .idle then ⟨.holding, startTimer length⟩
    else if c.phase = .holding ∧ expired c.hold = true then ⟨.fired, none⟩
    else c
  else if c.phase = .idle then c
  else ⟨.idle, none⟩

/-- A chord entry fires at this scan completion when it matches, HOLDING with its hold timer at its length. -/
def fires (d : BitVec 48) (s : State) (i : ChordIndex) : Prop :=
  chordMatches s.settings.chords[i] d = true ∧ s.chords[i].phase = .holding ∧ expired s.chords[i].hold = true

theorem put_self {α : Type} {n : Nat} (v : Vector α n) (i : Fin n) : put v i v[i] = v := by
  simp [put]

theorem fireChord_keeps (i : ChordIndex) (s : State) :
    (fireChord i s).keypad = s.keypad ∧ (fireChord i s).settings = s.settings ∧
      (fireChord i s).chords = put s.chords i ⟨.fired, none⟩ := by
  unfold fireChord
  dsimp only
  split <;> simp [setChordState]

/-- An entry that fires, and one that does not. -/
theorem chordStep_of_fires {d : BitVec 48} {s : State} {i : ChordIndex} (h : fires d s i) : chordStep d s i = fireChord i s := by
  obtain ⟨matched, holding, out⟩ := h
  unfold chordStep
  dsimp only
  rw [holding, matched]
  exact if_pos out

theorem chordStep_of_not_fires {d : BitVec 48} {s : State} {i : ChordIndex} (h : ¬ fires d s i) :
    chordStep d s i =
      s.withChords (put s.chords i
        (nextChord (chordMatches s.settings.chords[i] d) s.settings.chords[i].hold s.chords[i])) := by
  have unchanged : s = s.withChords (put s.chords i s.chords[i]) := by rw [put_self]; rfl
  unfold fires at h
  unfold chordStep nextChord setChordState
  dsimp only
  cases matched : chordMatches s.settings.chords[i] d <;> cases phase : s.chords[i].phase
  case true.holding =>
    have left : expired s.chords[i.val].hold = false := Bool.eq_false_of_not_eq_true fun out => h ⟨matched, phase, out⟩
    simpa [left] using unchanged
  case false.idle => simpa using unchanged
  case true.fired => simpa using unchanged
  all_goals simp

theorem chordStep_chords (d : BitVec 48) (s : State) (i : ChordIndex) :
    (chordStep d s i).settings = s.settings ∧ (chordStep d s i).keypad = s.keypad ∧
      (chordStep d s i).chords = put s.chords i
        (nextChord (chordMatches s.settings.chords[i] d) s.settings.chords[i].hold s.chords[i]) := by
  by_cases h : fires d s i
  · obtain ⟨keypad, settings, chords⟩ := fireChord_keeps i s
    have fired := chordStep_of_fires h
    obtain ⟨matched, holding, out⟩ := h
    have next : nextChord (chordMatches s.settings.chords[i] d) s.settings.chords[i].hold s.chords[i] = ⟨.fired, none⟩ := by
      rw [nextChord, if_pos matched, if_neg (by rw [holding]; decide), if_pos ⟨holding, out⟩]
    rw [fired, next]
    exact ⟨settings, keypad, chords⟩
  · rw [chordStep_of_not_fires h]
    exact ⟨rfl, rfl, rfl⟩

/-! ### All chord entries -/

theorem matchChords_keypad (s : State) : (matchChords s).keypad = s.keypad :=
  foldl_rel (R := fun s t : State => t.keypad = s.keypad) (fun _ => rfl) (fun h h' => h'.trans h)
    (fun t i => (chordStep_chords _ t i).2.1) _ s

/-- Each entry moves by Table 8-4, whatever the others do (R140). -/
theorem matchChords_chord (s : State) (i : ChordIndex) :
    (matchChords s).chords[i] =
      nextChord (chordMatches s.settings.chords[i] (downSet s.keypad.positions)) s.settings.chords[i].hold s.chords[i] := by
  have each := foldl_put (view := fun t : State => t.chords) (op := chordStep (downSet s.keypad.positions))
    (f := fun i => nextChord (chordMatches s.settings.chords[i] (downSet s.keypad.positions)) s.settings.chords[i].hold)
    (Same := fun t => t.settings = s.settings)
    (fun i t same => by
      obtain ⟨settings, -, chords⟩ := chordStep_chords (downSet s.keypad.positions) t i
      rw [same] at settings chords
      exact ⟨settings, chords⟩)
    (List.nodup_finRange 4) (s := s) rfl i
  rw [if_pos (List.mem_finRange i)] at each
  exact each

/-- Entries none of which fires move without any other effect. -/
theorem foldl_chordStep_of_silent {d : BitVec 48} {is : List ChordIndex} (distinct : is.Nodup) {s : State}
    (silent : ∀ i ∈ is, ¬ fires d s i) :
    ∃ moved : Vector ChordState 4,
      is.foldl (chordStep d) s = s.withChords moved ∧ ∀ j : ChordIndex, j ∉ is → moved[j] = s.chords[j] := by
  induction is generalizing s with
  | nil => exact ⟨s.chords, rfl, fun _ _ => rfl⟩
  | cons i is ih =>
    obtain ⟨fresh, distinct⟩ := List.nodup_cons.1 distinct
    have moved := chordStep_of_not_fires (silent i (List.mem_cons_self ..))
    generalize nextChord (chordMatches s.settings.chords[i] d) s.settings.chords[i].hold s.chords[i] = next at moved
    have others (j : ChordIndex) (other : i ≠ j) : (put s.chords i next)[j] = s.chords[j] := by
      rw [put_getElem, if_neg other]
    obtain ⟨rest, folded, same⟩ := ih (s := s.withChords (put s.chords i next)) distinct fun j mem fired =>
      silent j (List.mem_cons_of_mem _ mem) (by
        have other : i ≠ j := fun e => fresh (e ▸ mem)
        unfold fires at fired ⊢
        rw [State.withChords_chords, others j other] at fired
        exact fired)
    refine ⟨rest, ?_, fun j absent => ?_⟩
    · rw [List.foldl_cons, moved]
      exact folded
    · obtain ⟨other, absent⟩ := not_or.1 fun mem => absent (List.mem_cons.2 mem)
      rw [same j absent]
      exact others j (Ne.symm other)

theorem matchChords_of_silent {s : State} (silent : ∀ i, ¬ fires (downSet s.keypad.positions) s i) :
    ∃ c : Vector ChordState 4, matchChords s = s.withChords c := by
  obtain ⟨c, folded, -⟩ := foldl_chordStep_of_silent (List.nodup_finRange 4) fun i _ => silent i
  exact ⟨c, folded⟩

theorem not_fires_of_noChordDue {s t : State} (h : NoChordDue s) (same : t.chords = s.chords) (d : BitVec 48) (i : ChordIndex) :
    ¬ fires d t i := by
  rintro ⟨-, holding, out⟩
  rw [same] at holding out
  rcases h i with other | running
  · exact other holding
  · rw [running] at out
    cases out

/-! ### The set handed to chord matching (R139) -/

theorem oneBit_getLsbD (i j : Position) : ((1 <<< i.val : Nat) : BitVec 48).getLsbD j.val = decide (i = j) := by
  change (BitVec.ofNat 48 (1 <<< i.val)).getLsbD j.val = _
  rw [BitVec.getLsbD_ofNat, decide_eq_true j.isLt, Bool.true_and, Nat.one_shiftLeft, Nat.testBit_two_pow]
  exact decide_eq_decide.2 Fin.ext_iff.symm

theorem foldl_oneBit_getLsbD (down : Position → Bool) (ps : List Position) (d : BitVec 48) (j : Position) :
    (ps.foldl (fun d p => if down p then d ||| ((1 <<< p.val : Nat) : BitVec 48) else d) d).getLsbD j.val =
      (d.getLsbD j.val || (decide (j ∈ ps) && down j)) := by
  induction ps generalizing d with
  | nil => simp
  | cons p ps ih =>
    rw [List.foldl_cons, ih]
    have member : decide (j ∈ p :: ps) = (decide (p = j) || decide (j ∈ ps)) := by simp [eq_comm]
    have bit : (if down p then d ||| ((1 <<< p.val : Nat) : BitVec 48) else d).getLsbD j.val =
        (d.getLsbD j.val || (decide (p = j) && down p)) := by
      cases down p
      · rw [if_neg Bool.false_ne_true, Bool.and_false, Bool.or_false]
      · rw [if_pos rfl, BitVec.getLsbD_or, oneBit_getLsbD, Bool.and_true]
    rw [bit, member]
    by_cases same : p = j
    · subst same
      cases down p <;> simp
    · simp [same]

/-- A position's bit in the set handed to chord matching: it is down and not suppressed (R139). -/
theorem downSet_getLsbD (positions : Vector KeyPosition 48) (p : Position) :
    (downSet positions).getLsbD p.val = (positions[p].debounced && !positions[p].suppressed) := by
  have folded := foldl_oneBit_getLsbD (fun p => positions[p].debounced && !positions[p].suppressed) (List.finRange 48) 0 p
  rw [decide_eq_true (List.mem_finRange p)] at folded
  simpa [downSet] using folded

/-- An entry matches by its members exactly when the down positions outside its ignore set are its member set (R139). -/
theorem chordMatches_iff (c : ChordSettings) (positions : Vector KeyPosition 48) :
    chordMatches c (downSet positions) = true ↔ EntryMatches c positions := by
  have bit (p : Position) : (downSet positions &&& ~~~c.ignored).getLsbD p.val =
      (positions[p].debounced && !positions[p].suppressed && !c.ignored.getLsbD p.val) := by
    rw [BitVec.getLsbD_and, BitVec.getLsbD_not, downSet_getLsbD, decide_eq_true p.isLt, Bool.true_and]
  rw [chordMatches, decide_eq_true_eq]
  refine ⟨fun same p => ?_, fun matched => ?_⟩
  · rw [← same, bit p]
    simp [and_assoc]
  · refine BitVec.eq_of_getLsbD_eq fun n small => ?_
    have here := bit ⟨n, small⟩
    rw [here, Bool.eq_iff_iff, matched ⟨n, small⟩]
    simp [and_assoc]

/-! ### A whole scan completion -/

/-- The key records that a scan completion evaluates, position by position (R121, R125). -/
theorem countedPositions_getElem (columns : Columns) (s : State) (p : Position) (raw : Bool) (count : Nat)
    (sampled : raw = if 42 ≤ p.val then columns.getLsbD (p.val % 6) else s.keypad.positions[p].raw)
    (counted : count = if raw = s.keypad.positions[p].debounced then 0 else s.keypad.positions[p].count + 1) :
    (countedPositions columns s)[p] = { s.keypad.positions[p] with raw := raw, count := count } := by
  have last : rowOf p = (7 : Fin 8).val ↔ 42 ≤ p.val := by
    have small := p.isLt
    change p.val / 6 = 7 ↔ _
    omega
  have row : (sampleRow 7 columns s.keypad.positions)[p] = { s.keypad.positions[p] with raw := raw } := by
    refine (Vector.getElem_ofFn _).trans ?_
    simp only [last, sampled]
    change (if 42 ≤ p.val then _ else s.keypad.positions[p]) = _
    split <;> rfl
  rw [countedPositions, mapEach_getElem, row, counted]
  rfl

/-- The state after the first four steps of a scan completion (R127). -/
def workedKeys (columns : Columns) (s : State) : State := stickKeys (acceptChanges (sampleLastRow columns s))

theorem scanCompletion_eq {columns : Columns} {s : State} (last : s.keypad.row = some 7) :
    scanCompletion columns s = matchChords (repeatStep (workedKeys columns s)) :=
  if_pos last

theorem keyWork_workedKeys (columns : Columns) (s : State) : KeyWork (sampleLastRow columns s) (workedKeys columns s) :=
  (keyWork_acceptChanges _).trans (keyWork_stickKeys _)

theorem sampleLastRow_contents (columns : Columns) (s : State) :
    (sampleLastRow columns s).keypad.positions = countedPositions columns s ∧
      (sampleLastRow columns s).keypad.debounceCount = s.keypad.debounceCount ∧
      (sampleLastRow columns s).keypad.held = s.keypad.held ∧ (sampleLastRow columns s).settings = s.settings := by
  simp only [sampleLastRow, countedPositions, State.withKeypad_keypad, State.withKeypad_settings, and_self]

theorem sampleLastRow_cycle (columns : Columns) (s : State) :
    (sampleLastRow columns s).keypad.row = some 0 ∧ (sampleLastRow columns s).keypad.settle = s.settings.keypad.settle ∧
      (sampleLastRow columns s).keypad.target = s.keypad.target ∧
      (sampleLastRow columns s).keypad.repeatTimer = s.keypad.repeatTimer ∧
      (sampleLastRow columns s).chords = s.chords ∧ (sampleLastRow columns s).queue = s.queue ∧
      sampleLastRow columns s = { s with keypad := (sampleLastRow columns s).keypad } := by
  simp only [sampleLastRow, State.withKeypad_keypad, State.withKeypad_chords, State.withKeypad_queue, true_and]
  rfl

theorem workedKeys_position (columns : Columns) (s : State) (p : Position) :
    (workedKeys columns s).keypad.positions[p] =
      stuckKey (acceptedKey (ambiguous s.keypad.debounceCount (countedPositions columns s)) s.keypad.debounceCount
        s.settings.keypad.stuckTime (countedPositions columns s)[p]) := by
  obtain ⟨positions, count, -, settings⟩ := sampleLastRow_contents columns s
  rw [workedKeys, stickKeys_position, acceptChanges_position, positions, count, settings]

theorem workedKeys_held (columns : Columns) (s : State) :
    (workedKeys columns s).keypad.held =
      (s.keypad.held.filter fun p =>
        p ∉ positionsWith fun p => releaseDue s.keypad.debounceCount (countedPositions columns s)[p]) ++
      acceptedPresses s.keypad.debounceCount (countedPositions columns s) := by
  obtain ⟨positions, count, held, -⟩ := sampleLastRow_contents columns s
  rw [workedKeys, stickKeys, makeAllStuck_held, acceptChanges_held, positions, count, held]

/-- The scanner after a scan completion. -/
theorem scanCompletion_keypad {columns : Columns} {s : State} (last : s.keypad.row = some 7) :
    (scanCompletion columns s).keypad = repeatedKeypad s.settings.keypad (workedKeys columns s).keypad := by
  rw [scanCompletion_eq last, matchChords_keypad, repeatStep_keypad, (keyWork_workedKeys columns s).settings]
  rfl

theorem repeatedKeypad_keeps (x : KeypadSettings) (k : Keypad) :
    (repeatedKeypad x k).positions = k.positions ∧ (repeatedKeypad x k).held = k.held ∧ (repeatedKeypad x k).row = k.row ∧
      (repeatedKeypad x k).settle = k.settle ∧ (repeatedKeypad x k).target = k.held.getLast? :=
  ⟨rfl, rfl, rfl, rfl, rfl⟩

theorem scanCompletion_position {columns : Columns} {s : State} (last : s.keypad.row = some 7) (p : Position) :
    (scanCompletion columns s).keypad.positions[p] =
      stuckKey (acceptedKey (ambiguous s.keypad.debounceCount (countedPositions columns s)) s.keypad.debounceCount
        s.settings.keypad.stuckTime (countedPositions columns s)[p]) := by
  rw [scanCompletion_keypad last, (repeatedKeypad_keeps _ _).1, workedKeys_position]

theorem scanCompletion_held {columns : Columns} {s : State} (last : s.keypad.row = some 7) :
    (scanCompletion columns s).keypad.held =
      (s.keypad.held.filter fun p =>
        p ∉ positionsWith fun p => releaseDue s.keypad.debounceCount (countedPositions columns s)[p]) ++
      acceptedPresses s.keypad.debounceCount (countedPositions columns s) := by
  rw [scanCompletion_keypad last, (repeatedKeypad_keeps _ _).2.1, workedKeys_held]

/-! ### The ambiguity hold (R126) -/

theorem holdsThreeCorners_iff (set : Position → Bool) :
    holdsThreeCorners set = true ↔ ∃ (r q : Fin 8) (c d : Fin 6), r ≠ q ∧ c ≠ d ∧
      3 ≤ (set (crossing r c)).toNat + (set (crossing r d)).toNat + (set (crossing q c)).toNat +
        (set (crossing q d)).toNat := by
  simp only [holdsThreeCorners, List.any_eq_true, List.mem_finRange, true_and, Bool.and_eq_true, decide_eq_true_eq,
    threeOfFour]
  constructor
  · rintro ⟨r, q, rows, c, d, columns, corners⟩
    exact ⟨r, q, c, d, Fin.ne_of_lt rows, Fin.ne_of_lt columns, corners⟩
  · rintro ⟨r, q, c, d, rows, columns, corners⟩
    rcases Fin.lt_or_lt_of_ne rows with below | above <;> rcases Fin.lt_or_lt_of_ne columns with left | right
    · exact ⟨r, q, below, c, d, left, corners⟩
    · exact ⟨r, q, below, d, c, right, by omega⟩
    · exact ⟨q, r, above, c, d, left, by omega⟩
    · exact ⟨q, r, above, d, c, right, by omega⟩

theorem candidate_iff (n : Nat) (k : KeyPosition) :
    candidate n k = true ↔
      (k.debounced = true ∧ changeDue n k = false) ∨ (k.debounced = false ∧ changeDue n k = true) := by
  unfold candidate releaseDue pressDue
  cases k.debounced <;> cases changeDue n k <;> decide

end Sys2Proof.Machine
end

section
/-! SUPPORT. The rows sampled and the changes accepted (R121, R122, R125 to R128, R131). -/

namespace Sys2Proof.Machine

/-! ### What a scan completion makes of one key record -/

theorem acceptedKey_raw (hold : Bool) (n stuckTime : Nat) (k : KeyPosition) :
    (acceptedKey hold n stuckTime k).raw = k.raw := by
  unfold acceptedKey releasedKey pressedKey
  (repeat' split) <;> rfl

theorem stuckKey_keeps (k : KeyPosition) :
    (stuckKey k).raw = k.raw ∧ (stuckKey k).debounced = k.debounced ∧ (stuckKey k).count = k.count := by
  unfold stuckKey
  split <;> exact ⟨rfl, rfl, rfl⟩

theorem mem_acceptedPresses {n : Nat} {positions : Vector KeyPosition 48} {p : Position} :
    p ∈ acceptedPresses n positions ↔ ambiguous n positions = false ∧ pressDue n positions[p] = true := by
  unfold acceptedPresses
  split
  next hold => simp [hold]
  next clear => simp only [mem_positionsWith, Bool.eq_false_of_not_eq_true clear, true_and]

theorem acceptedKey_of_not_due {hold : Bool} {n stuckTime : Nat} {k : KeyPosition} (stands : changeDue n k = false) :
    acceptedKey hold n stuckTime k = k := by
  simp [acceptedKey, releaseDue, pressDue, stands]

theorem acceptedKey_of_release {hold : Bool} {n stuckTime : Nat} {k : KeyPosition} (due : changeDue n k = true)
    (down : k.debounced = true) : acceptedKey hold n stuckTime k = releasedKey k := by
  simp [acceptedKey, releaseDue, due, down]

theorem acceptedKey_of_press {hold : Bool} {n stuckTime : Nat} {k : KeyPosition} (due : changeDue n k = true)
    (up : k.debounced = false) :
    acceptedKey hold n stuckTime k = if hold then { k with count := n } else pressedKey stuckTime k := by
  simp [acceptedKey, releaseDue, pressDue, due, up]

/-- A key just pressed is not stuck yet (R130). -/
theorem holdTimer_not_expired (stuckTime : Nat) : expired (holdTimer stuckTime) = false := by
  unfold holdTimer
  split
  · rfl
  next positive => simpa [expired, startTimer] using positive

theorem stuckKey_of_running {k : KeyPosition} (running : expired k.hold = false) : stuckKey k = k :=
  if_neg (by simp [stuckDue, running])

theorem stuckKey_of_up {k : KeyPosition} (up : k.debounced = false) : stuckKey k = k :=
  if_neg (by simp [stuckDue, up])

/-- With no hold timer at its length none is at it after the acceptances either. -/
theorem acceptedKey_running {k : KeyPosition} (running : expired k.hold = false) (hold : Bool) (n stuckTime : Nat) :
    expired (acceptedKey hold n stuckTime k).hold = false := by
  unfold acceptedKey releasedKey pressedKey
  (repeat' split)
  · rfl
  · exact running
  · exact holdTimer_not_expired _
  · exact running

/-- A change is due when the raw state differs and the count with this completion reaches N (R125). -/
theorem changeDue_counted (columns : Columns) (p : Position) (n : Nat) (s : State) :
    changeDue n (countedPositions columns s)[p] = true ↔
      (if 42 ≤ p.val then columns.getLsbD (p.val % 6) else s.keypad.positions[p].raw) ≠ s.keypad.positions[p].debounced ∧
        n ≤ s.keypad.positions[p].count + 1 := by
  rw [countedPositions_getElem columns s p _ _ rfl rfl]
  unfold changeDue
  dsimp only
  rw [Bool.and_eq_true, decide_eq_true_eq, decide_eq_true_eq]
  exact and_congr_right fun differs => by rw [if_neg differs]

theorem sampleRow_getElem (row : Fin 8) (columns : Columns) (positions : Vector KeyPosition 48) (p : Position) :
    (sampleRow row columns positions)[p] =
      if p.val / 6 = row.val then { positions[p] with raw := columns.getLsbD (p.val % 6) } else positions[p] :=
  Vector.getElem_ofFn _

/-! ### The events of a scan completion -/

/-- With no timer at its length and no chord due, a scan completion hands over the events of its acceptances alone. -/
theorem scanCompletion_queue_of_acceptances {columns : Columns} {s : State} (last : s.keypad.row = some 7)
    (noChord : NoChordDue s) (running : ∀ q : Position, expired s.keypad.positions[q].hold = false)
    (standing : expired s.keypad.repeatTimer = false) :
    (scanCompletion columns s).queue = (acceptChanges (sampleLastRow columns s)).queue := by
  have accepted := keyWork_acceptChanges (sampleLastRow columns s)
  obtain ⟨positions, count, held, settings⟩ := sampleLastRow_contents columns s
  have stuck : workedKeys columns s = acceptChanges (sampleLastRow columns s) := by
    refine stickKeys_of_none fun p => ?_
    have out : expired (acceptChanges (sampleLastRow columns s)).keypad.positions[p].hold = false := by
      rw [acceptChanges_position, positions]
      refine acceptedKey_running ?_ _ _ _
      rw [countedPositions_getElem columns s p _ _ rfl rfl]
      exact running p
    rw [stuckDue, out, Bool.and_false]
  obtain ⟨-, -, -, timer_kept, chords_kept, -⟩ := sampleLastRow_cycle columns s
  have timer : expired (workedKeys columns s).keypad.repeatTimer = false := by
    rw [(keyWork_workedKeys columns s).repeatTimer, timer_kept, standing]
  have chords : (repeatStep (workedKeys columns s)).chords = s.chords := by
    rw [repeatStep_only, (keyWork_workedKeys columns s).chords, chords_kept]
  obtain ⟨moved, silent⟩ := matchChords_of_silent fun i => not_fires_of_noChordDue noChord chords _ i
  rw [scanCompletion_eq last, silent, State.withChords_queue, repeatStep_queue_of_none (.inr (.inl timer)), stuck]

/-- Settles O56. -/
theorem rowsAreSampledAndChangesAccepted : Obligations.RowsAreSampledAndChangesAccepted := by
  unfold Obligations.RowsAreSampledAndChangesAccepted
  refine ⟨⟨?dwell, ?last, ?completed, ?other⟩, fun columns p s => changeDue_counted columns p _ s, ?corners, ?lists, ?each⟩
  case dwell =>
    intro row columns s at_row
    have taken : rowDwellEnd columns s =
        s.withKeypad
          { s.keypad with
            positions := sampleRow ⟨row.val, by omega⟩ columns s.keypad.positions
            row := some ⟨row.val + 1, by omega⟩ } := by
      unfold rowDwellEnd
      rw [at_row]
      exact dif_pos row.isLt
    exact ⟨_, congrArg Host.Outcome.next taken, rfl, fun p => sampleRow_getElem _ columns _ p, rfl⟩
  case last =>
    intro columns s at_row
    refine congrArg Host.Outcome.next ?_
    unfold rowDwellEnd
    rcases at_row with last | undriven
    · rw [last]
      exact dif_neg (by decide)
    · rw [undriven]
  case completed =>
    intro columns s last
    have worked := keyWork_workedKeys columns s
    obtain ⟨row, settle, -⟩ := sampleLastRow_cycle columns s
    refine ⟨scanCompletion columns s, rfl, ?_, ?_, fun p => ?_⟩
    · rw [scanCompletion_keypad last, repeatedKeypad, worked.row, row]
    · rw [scanCompletion_keypad last, repeatedKeypad, worked.settle, settle]
    · rw [scanCompletion_position last, (stuckKey_keeps _).1, acceptedKey_raw, countedPositions_getElem columns s p _ _ rfl rfl]
  case other => exact fun columns s other => congrArg Host.Outcome.next (if_neg other)
  case corners =>
    intro columns candidates s spelled
    have same : (fun p => candidate s.keypad.debounceCount (countedPositions columns s)[p]) = candidates := by
      funext p
      have debounced : (countedPositions columns s)[p].debounced = s.keypad.positions[p].debounced := by
        rw [countedPositions_getElem columns s p _ _ rfl rfl]
      rw [Bool.eq_iff_iff, spelled p, candidate_iff, debounced]
    rw [ambiguous, same]
    exact holdsThreeCorners_iff candidates
  case lists =>
    intro columns released pressed s last released_eq pressed_eq
    have debounced (p : Position) : (countedPositions columns s)[p].debounced = s.keypad.positions[p].debounced := by
      rw [countedPositions_getElem columns s p _ _ rfl rfl]
    have releases : (positionsWith fun p => releaseDue s.keypad.debounceCount (countedPositions columns s)[p]) = released := by
      rw [released_eq]
      refine List.filter_congr fun p _ => ?_
      rw [releaseDue, debounced, Bool.and_comm]
    have presses : acceptedPresses s.keypad.debounceCount (countedPositions columns s) = pressed := by
      rw [pressed_eq, acceptedPresses]
      refine if_congr Iff.rfl rfl (List.filter_congr fun p _ => ?_)
      rw [pressDue, debounced, Bool.and_comm]
    refine ⟨scanCompletion columns s, rfl, ?_, ?_⟩
    · rw [scanCompletion_held last, releases, presses]
    · intro noChord running standing room
      obtain ⟨positions, count, -, settings⟩ := sampleLastRow_contents columns s
      have handed := handsOver_acceptChanges (sampleLastRow columns s)
      rw [positions, count, settings, releases, presses] at handed
      have kinds (p : Position) : releaseKind (sampleLastRow columns s) p =
          if s.keypad.positions[p].suppressed then .unstuck p s.settings.keys[p].code
          else .release p s.settings.keys[p].code := by
        rw [releaseKind, positions, settings, countedPositions_getElem columns s p _ _ rfl rfl]
      rw [funext kinds] at handed
      rw [scanCompletion_queue_of_acceptances last noChord running standing]
      have few := List.length_filter_le (fun p => s.settings.keys[p].enabled) released
      have few' := List.length_filter_le (fun p => s.settings.keys[p].enabled) pressed
      have result := handed (by
        rw [List.length_append, List.length_map, List.length_map]
        change s.queue.entries.length + _ ≤ 64
        omega)
      rw [← List.append_assoc] at result
      exact result
  case each =>
    intro columns s law last
    obtain ⟨-, least, -⟩ := (keypadLaw_iff s).1 law
    refine ⟨scanCompletion columns s, rfl, fun p raw count sampled counted => ?_⟩
    have record := countedPositions_getElem columns s p raw count sampled counted
    have after : (scanCompletion columns s).keypad.positions[p] =
        stuckKey (acceptedKey (ambiguous s.keypad.debounceCount (countedPositions columns s)) s.keypad.debounceCount
          s.settings.keypad.stuckTime { s.keypad.positions[p] with raw := raw, count := count }) := by
      rw [scanCompletion_position last, record]
    have held := scanCompletion_held (columns := columns) last
    have due_of (reached : s.keypad.debounceCount ≤ count) :
        changeDue s.keypad.debounceCount { s.keypad.positions[p] with raw := raw, count := count } = true := by
      have differs : raw ≠ s.keypad.positions[p].debounced := by
        intro same
        rw [if_pos same] at counted
        omega
      unfold changeDue
      dsimp only
      rw [decide_eq_true differs, decide_eq_true reached]
      rfl
    refine ⟨fun below => ?stands, fun reached down => ?released, fun reached up clear => ?pressed,
      fun reached up hold => ?deferred⟩
    case stands =>
      have stands : changeDue s.keypad.debounceCount { s.keypad.positions[p] with raw := raw, count := count } = false := by
        unfold changeDue
        dsimp only
        rw [decide_eq_false (Nat.not_le.2 below), Bool.and_false]
      rw [acceptedKey_of_not_due stands] at after
      rw [after]
      exact (stuckKey_keeps _).2
    case released =>
      rw [acceptedKey_of_release (due_of reached) down, stuckKey_of_up rfl] at after
      have up : (scanCompletion columns s).keypad.positions[p].debounced = false := by rw [after]; rfl
      refine ⟨after, ?_, congrArg Host.Outcome.next (if_pos ?_)⟩
      · have due : releaseDue s.keypad.debounceCount (countedPositions columns s)[p] = true := by
          rw [record, releaseDue, due_of reached]
          exact down
        rw [held, List.mem_append, not_or]
        refine ⟨fun mem => ?_, fun mem => ?_⟩
        · exact of_decide_eq_true (List.mem_filter.1 mem).2 (mem_positionsWith.2 due)
        · have press := (mem_acceptedPresses.1 mem).2
          rw [not_pressDue_of_releaseDue due] at press
          cases press
      · rw [down, up]
        rfl
    case pressed =>
      rw [acceptedKey_of_press (due_of reached) up, clear, if_neg Bool.false_ne_true,
        stuckKey_of_running (holdTimer_not_expired _)] at after
      have down : (scanCompletion columns s).keypad.positions[p].debounced = true := by rw [after]; rfl
      refine ⟨down, ?_, ?_, ?_, congrArg Host.Outcome.next (if_pos ?_)⟩
      · rw [after]
        rfl
      · have due : pressDue s.keypad.debounceCount (countedPositions columns s)[p] = true := by
          rw [record, pressDue, due_of reached, Bool.true_and]
          exact congrArg Bool.not up
        rw [held, List.mem_append]
        exact Or.inr (mem_acceptedPresses.2 ⟨clear, due⟩)
      · rw [after]
        rfl
      · rw [down, up]
        rfl
    case deferred =>
      rw [acceptedKey_of_press (due_of reached) up, hold, if_pos rfl] at after
      rw [after]
      exact (stuckKey_keeps _).2.imp_left fun same => same.trans up

end Sys2Proof.Machine
end

section
/-! SUPPORT. Scan completions at which no change is due, and the chord entries that fire (R129, R130, R139 to R141). -/

namespace Sys2Proof.Machine

/-! ### A scan completion at which no change is due -/

/-- With no change due nothing is accepted, and nothing deferred (R125, R127). -/
theorem acceptChanges_of_quiet {s : State} (quiet : ∀ p : Position, changeDue s.keypad.debounceCount s.keypad.positions[p] = false) :
    acceptChanges s = s := by
  have none_released : (positionsWith fun p => releaseDue s.keypad.debounceCount s.keypad.positions[p]) = [] :=
    List.filter_eq_nil_iff.2 fun p _ => by rw [releaseDue, quiet p]; exact Bool.false_ne_true
  have none_pressed : (positionsWith fun p => pressDue s.keypad.debounceCount s.keypad.positions[p]) = [] :=
    List.filter_eq_nil_iff.2 fun p _ => by rw [pressDue, quiet p]; exact Bool.false_ne_true
  unfold acceptChanges
  dsimp only
  rw [none_released, none_pressed]
  split <;> rfl

theorem workedKeys_of_quiet {columns : Columns} {s : State} (quiet : Quiet columns s) :
    workedKeys columns s = stickKeys (sampleLastRow columns s) := by
  obtain ⟨positions, count, -⟩ := sampleLastRow_contents columns s
  rw [workedKeys, acceptChanges_of_quiet]
  intro p
  rw [positions, count]
  exact quiet.2 p

/-- What a key record keeps while it is counted. -/
theorem sampleLastRow_position (columns : Columns) (s : State) (p : Position) :
    (sampleLastRow columns s).keypad.positions[p].debounced = s.keypad.positions[p].debounced ∧
      (sampleLastRow columns s).keypad.positions[p].suppressed = s.keypad.positions[p].suppressed ∧
      (sampleLastRow columns s).keypad.positions[p].hold = s.keypad.positions[p].hold := by
  rw [(sampleLastRow_contents columns s).1, countedPositions_getElem columns s p _ _ rfl rfl]
  exact ⟨rfl, rfl, rfl⟩

theorem workedKeys_of_running {columns : Columns} {s : State} (quiet : Quiet columns s)
    (running : ∀ q : Position, expired s.keypad.positions[q].hold = false) :
    workedKeys columns s = sampleLastRow columns s := by
  rw [workedKeys_of_quiet quiet]
  refine stickKeys_of_none fun p => ?_
  rw [stuckDue, (sampleLastRow_position columns s p).2.2, running p, Bool.and_false]

/-- Quiet speaks of the row, N, and of each key record the raw and the debounced state with the count. -/
theorem Quiet.of_same {columns : Columns} {s t : State} (quiet : Quiet columns s) (row : t.keypad.row = s.keypad.row)
    (n : t.keypad.debounceCount = s.keypad.debounceCount)
    (same : ∀ p : Position, t.keypad.positions[p].raw = s.keypad.positions[p].raw ∧
      t.keypad.positions[p].debounced = s.keypad.positions[p].debounced ∧
      t.keypad.positions[p].count = s.keypad.positions[p].count) : Quiet columns t := by
  refine ⟨row.trans quiet.1, fun p => ?_⟩
  obtain ⟨raw, debounced, count⟩ := same p
  have due := changeDue_counted columns p t.keypad.debounceCount t
  rw [raw, debounced, count, n, ← changeDue_counted, quiet.2 p] at due
  rw [n]
  exact Bool.eq_false_of_not_eq_true fun reached => Bool.false_ne_true (due.1 reached)

/-- A step of the repeat while its timer has not run out. -/
theorem repeatStep_of_standing {s : State} (standing : expired s.keypad.repeatTimer = false) :
    repeatStep s = s.withKeypad (repeatedKeypad s.settings.keypad s.keypad) := by
  unfold repeatStep
  dsimp only [repeatTarget]
  split
  next same =>
    have kept : repeatedKeypad s.settings.keypad s.keypad = s.keypad := by
      rw [repeatedKeypad_of_same same, standing, Bool.and_false]
      rfl
    rw [kept]
    cases s.keypad.held.getLast? with
    | none => rfl
    | some p =>
      dsimp only
      rw [if_neg (by rw [standing]; exact Bool.false_ne_true)]
      rfl
  next other =>
    rw [repeatedKeypad, if_neg other]

theorem EntryMatches.of_same {c : ChordSettings} {old positions : Vector KeyPosition 48} (h : EntryMatches c old)
    (same : ∀ p : Position, positions[p].debounced = old[p].debounced ∧ positions[p].suppressed = old[p].suppressed) :
    EntryMatches c positions := by
  intro p
  obtain ⟨debounced, suppressed⟩ := same p
  rw [debounced, suppressed]
  exact h p

theorem withKeypad_withKeypad (s : State) (k k' : Keypad) : (s.withKeypad k).withKeypad k' = s.withKeypad k' := rfl

/-- A scan completion with nothing due but chords matches the chords in a state that has changed in the scanner alone. -/
theorem scanCompletion_of_standing {columns : Columns} {s : State} (quiet : Quiet columns s)
    (running : ∀ q : Position, expired s.keypad.positions[q].hold = false)
    (standing : expired s.keypad.repeatTimer = false) :
    ∃ k : Keypad, scanCompletion columns s = matchChords (s.withKeypad k) ∧
      ∀ p : Position, k.positions[p].debounced = s.keypad.positions[p].debounced ∧
        k.positions[p].suppressed = s.keypad.positions[p].suppressed := by
  obtain ⟨-, -, -, timer, -⟩ := sampleLastRow_cycle columns s
  have base (k : Keypad) : (sampleLastRow columns s).withKeypad k = s.withKeypad k := by
    rw [sampleLastRow, withKeypad_withKeypad]
  have step := repeatStep_of_standing (s := sampleLastRow columns s) (by rw [timer, standing])
  refine ⟨repeatedKeypad (sampleLastRow columns s).settings.keypad (sampleLastRow columns s).keypad, ?_, fun p => ?_⟩
  · rw [scanCompletion_eq quiet.1, workedKeys_of_running quiet running, step, base]
  · obtain ⟨debounced, suppressed, -⟩ := sampleLastRow_position columns s p
    rw [(repeatedKeypad_keeps _ _).1]
    exact ⟨debounced, suppressed⟩

/-! ### A chord that fires (R141) -/

/-- An entry has fired: its event and its record are handed over, and its action is not yet applied. -/
def chordRecorded (i : ChordIndex) (s : State) : State :=
  appendLog .chord (chordDetail i (chordApplies s.settings.chords[i].action s.seq.state))
    (keyEvent (.chord i) (setChordState i ⟨.fired, none⟩ s))

theorem fireChord_eq (i : ChordIndex) (s : State) :
    fireChord i s =
      if chordApplies s.settings.chords[i].action s.seq.state then
        applyChord s.settings.chords[i].action (chordRecorded i s)
      else chordRecorded i s := by
  have state : (keyEvent (.chord i) (setChordState i ⟨.fired, none⟩ s)).seq.state = s.seq.state := by simp [setChordState]
  unfold fireChord chordRecorded
  dsimp only
  rw [state]

theorem chordRecorded_keeps (i : ChordIndex) (s : State) :
    (chordRecorded i s).seq = s.seq ∧ (chordRecorded i s).ladder = s.ladder ∧ (chordRecorded i s).thermal = s.thermal ∧
      (chordRecorded i s).settings = s.settings ∧ (chordRecorded i s).timeBase = s.timeBase ∧
      (chordRecorded i s).queue = storeEvent (.chord i) s.timeBase s.queue ∧
      (chordRecorded i s).log.nextSeq = followingSeq s.log.nextSeq := by
  have log : (keyEvent (.chord i) (setChordState i ⟨.fired, none⟩ s)).log = s.log := by simp [setChordState]
  refine ⟨by simp [chordRecorded, setChordState], by simp [chordRecorded, setChordState],
    by simp [chordRecorded, setChordState], by simp [chordRecorded, setChordState], by simp [chordRecorded, setChordState],
    by simp [chordRecorded, setChordState], ?_⟩
  rw [chordRecorded, (appendLog_newest _ _ _).2, log]

theorem chordDetail_toNat (i : ChordIndex) (applied : Bool) :
    (chordDetail i applied).toNat = i.val * 256 + applied.toNat := by
  have small := i.isLt
  unfold chordDetail
  rw [BitVec.toNat_ofNat]
  cases applied
  · change (i.val * 256 + 0) % 65536 = i.val * 256 + 0
    omega
  · change (i.val * 256 + 1) % 65536 = i.val * 256 + 1
    omega

/-- The record of a chord that fires shows the state in which the sequencer decided (R141). -/
theorem chordRecorded_record (i : ChordIndex) (s : State) :
    ∃ r, Recent 0 r (chordRecorded i s).log ∧ (chordRecorded i s).log.ring.getLast? = some r ∧ r.seq = s.log.nextSeq ∧
      r.kind = .chord ∧ r.state = s.seq.state ∧
      r.detail.toNat = i.val * 256 + (chordApplies s.settings.chords[i].action s.seq.state).toNat := by
  have kept : (keyEvent (.chord i) (setChordState i ⟨.fired, none⟩ s)).log = s.log ∧
      (keyEvent (.chord i) (setChordState i ⟨.fired, none⟩ s)).seq = s.seq := by simp [setChordState]
  obtain ⟨log, seq⟩ := kept
  refine ⟨_, recent_appendLog _ _ _, (appendLog_newest _ _ _).1, ?_, rfl, ?_, chordDetail_toNat i _⟩
  · exact congrArg EventLog.nextSeq log
  · exact congrArg Sequencer.state seq

/-- A recent record stays while a chord's action is applied. -/
theorem Recent.applyChord {after : Nat} {r : LogRecord} {s : State} (h : Recent after r s.log) (few : after < 30)
    (action : ChordAction) : Recent (after + 2) r (applyChord action s).log := by
  cases action
  case event => exact h.le (by omega)
  case start => exact (h.enterWarming (by omega)).le (by omega)
  case warmRestart => exact (h.enterRestarting (by omega) _ _ _).le (by omega)
  case coldRestart => exact (h.enterRestarting (by omega) _ _ _).le (by omega)
  case release =>
    have reset : Recent after r (ladderReset s).log := h
    exact (reset.appendLog (by omega) .lockoutReleased 1).enterWarming (by omega)

/-- A fired chord's record is held after its action. -/
theorem fireChord_record (i : ChordIndex) (s : State) :
    ∃ r ∈ (fireChord i s).log.ring, r.seq = s.log.nextSeq ∧ r.kind = .chord ∧ r.state = s.seq.state ∧
      r.detail.toNat = i.val * 256 + (chordApplies s.settings.chords[i].action s.seq.state).toNat := by
  obtain ⟨r, recent, -, facts⟩ := chordRecorded_record i s
  refine ⟨r, ?_, facts⟩
  rw [fireChord_eq]
  split
  · exact (recent.applyChord (by decide) _).mem
  · exact recent.mem

/-- Only an action that starts the computer at once flushes the Key Queue (R70, R83). -/
theorem applyChord_queue {action : ChordAction} {s : State}
    (kept : s.thermal.startPermitted = false ∨ (action ≠ .start ∧ action ≠ .release)) :
    (applyChord action s).queue = s.queue := by
  have blocked (x : State) (permitted : x.thermal.startPermitted = false) : (enterWarming x).queue = x.queue := by
    rw [enterWarming_of_blocked permitted]
    simp [warmingState]
  cases action
  case event => rfl
  case start => exact blocked _ (kept.resolve_right fun other => other.1 rfl)
  case warmRestart => simp [applyChord]
  case coldRestart => simp [applyChord]
  case release =>
    have permitted := kept.resolve_right fun other => other.2 rfl
    refine (blocked _ ?_).trans ?_
    · simpa [ladderReset] using permitted
    · simp [ladderReset]

theorem fireChord_of_applied {i : ChordIndex} {action : ChordAction} {s : State} (named : s.settings.chords[i].action = action)
    (applied : chordApplies action s.seq.state = true) : fireChord i s = applyChord action (chordRecorded i s) := by
  subst named
  rw [fireChord_eq, if_pos applied]

theorem fireChord_of_refused {i : ChordIndex} {s : State}
    (refused : chordApplies s.settings.chords[i].action s.seq.state = false) : fireChord i s = chordRecorded i s := by
  rw [fireChord_eq, if_neg (by rw [refused]; exact Bool.false_ne_true)]

/-! ### Which entries fire -/

/-- The entries up to the first that fires move silently; it fires, and the rest follow. -/
theorem foldl_chordStep_split {d : BitVec 48} {i : ChordIndex} {before after : List ChordIndex}
    (distinct : (before ++ i :: after).Nodup) {s : State} (fired : fires d s i) (silent : ∀ k ∈ before, ¬ fires d s k) :
    ∃ moved : Vector ChordState 4,
      (before ++ i :: after).foldl (chordStep d) s = after.foldl (chordStep d) (fireChord i (s.withChords moved)) ∧
        ∀ k : ChordIndex, k ∉ before → moved[k] = s.chords[k] := by
  obtain ⟨alone, -, apart⟩ := List.nodup_append.1 distinct
  have absent : i ∉ before := fun mem => apart i mem i (List.mem_cons_self ..) rfl
  obtain ⟨moved, folded, same⟩ := foldl_chordStep_of_silent alone silent
  refine ⟨moved, ?_, same⟩
  have stands : fires d (s.withChords moved) i := by
    unfold fires at fired ⊢
    rw [State.withChords_chords, same i absent]
    exact fired
  rw [List.foldl_append, List.foldl_cons, folded, chordStep_of_fires stands]

/-- An entry's firing leaves alone whether another one fires. -/
theorem fires_fireChord {d : BitVec 48} {i k : ChordIndex} (other : i ≠ k) (s : State) :
    fires d (fireChord i s) k ↔ fires d s k := by
  obtain ⟨-, settings, chords⟩ := fireChord_keeps i s
  unfold fires
  rw [settings, chords, put_getElem, if_neg other]

theorem fires_withChords {d : BitVec 48} {s : State} {moved : Vector ChordState 4} {k : ChordIndex}
    (same : moved[k] = s.chords[k]) : fires d (s.withChords moved) k ↔ fires d s k := by
  unfold fires
  rw [State.withChords_chords, same]
  rfl

/-- One entry fires alone: the completion is its firing, but for the other entries' states. -/
theorem matchChords_of_one {s : State} {i : ChordIndex} (fired : fires (downSet s.keypad.positions) s i)
    (alone : ∀ k, k ≠ i → ¬ fires (downSet s.keypad.positions) s k) :
    ∃ c c' : Vector ChordState 4, matchChords s = (fireChord i (s.withChords c)).withChords c' := by
  obtain ⟨before, after, spelled⟩ := List.append_of_mem (List.mem_finRange i)
  have distinct := spelled ▸ List.nodup_finRange 4
  obtain ⟨-, rest, apart⟩ := List.nodup_append.1 distinct
  obtain ⟨notAfter, rest⟩ := List.nodup_cons.1 rest
  have notBefore : i ∉ before := fun mem => apart i mem i (List.mem_cons_self ..) rfl
  obtain ⟨c, folded, same⟩ := foldl_chordStep_split distinct fired fun k mem => alone k fun e => notBefore (e ▸ mem)
  have silent : ∀ k ∈ after, ¬ fires (downSet s.keypad.positions) (fireChord i (s.withChords c)) k := by
    intro k mem
    have other : i ≠ k := fun e => notAfter (e ▸ mem)
    have outside : k ∉ before := fun mem' => apart k mem' k (List.mem_cons_of_mem _ mem) rfl
    rw [fires_fireChord other, fires_withChords (same k outside)]
    exact alone k (Ne.symm other)
  obtain ⟨c', after_eq, -⟩ := foldl_chordStep_of_silent rest silent
  exact ⟨c, c', by rw [matchChords, spelled, folded, after_eq]⟩

/-- Two entries fire in index order. -/
theorem matchChords_of_two {s : State} {i j : ChordIndex} (order : i < j) (first : fires (downSet s.keypad.positions) s i)
    (second : fires (downSet s.keypad.positions) s j)
    (alone : ∀ k, k ≠ i → k ≠ j → ¬ fires (downSet s.keypad.positions) s k) :
    ∃ c c' c'' : Vector ChordState 4,
      matchChords s = (fireChord j ((fireChord i (s.withChords c)).withChords c')).withChords c'' := by
  obtain ⟨before, after, spelled⟩ := List.append_of_mem (List.mem_finRange i)
  have distinct := spelled ▸ List.nodup_finRange 4
  have sorted := spelled ▸ List.pairwise_lt_finRange 4
  obtain ⟨-, rest, apart⟩ := List.nodup_append.1 distinct
  obtain ⟨notAfter, rest⟩ := List.nodup_cons.1 rest
  have notBefore : i ∉ before := fun mem => apart i mem i (List.mem_cons_self ..) rfl
  have later : j ∉ before := by
    intro mem
    have below := (List.pairwise_append.1 sorted).2.2 j mem i (List.mem_cons_self ..)
    exact lt_asymm order below
  have inAfter : j ∈ after := by
    have mem : j ∈ before ++ i :: after := spelled ▸ List.mem_finRange j
    rcases List.mem_append.1 mem with early | late
    · exact absurd early later
    · rcases List.mem_cons.1 late with same | inside
      · exact absurd same order.ne'
      · exact inside
  obtain ⟨c, folded, same⟩ := foldl_chordStep_split distinct first fun k mem =>
    alone k (fun e => notBefore (e ▸ mem)) fun e => later (e ▸ mem)
  have outside {k : ChordIndex} (mem : k ∈ after) :
      fires (downSet s.keypad.positions) (fireChord i (s.withChords c)) k ↔ fires (downSet s.keypad.positions) s k := by
    have other : i ≠ k := fun e => notAfter (e ▸ mem)
    have absent : k ∉ before := fun mem' => apart k mem' k (List.mem_cons_of_mem _ mem) rfl
    rw [fires_fireChord other, fires_withChords (same k absent)]
  obtain ⟨between, last, spelled'⟩ := List.append_of_mem inAfter
  subst spelled'
  obtain ⟨-, rest', apart'⟩ := List.nodup_append.1 rest
  obtain ⟨notLast, rest'⟩ := List.nodup_cons.1 rest'
  have notBetween : j ∉ between := fun mem => apart' j mem j (List.mem_cons_self ..) rfl
  obtain ⟨c', folded', same'⟩ := foldl_chordStep_split rest ((outside inAfter).2 second) fun k mem => by
    have mem' : k ∈ between ++ j :: last := List.mem_append_left _ mem
    rw [outside mem']
    exact alone k (fun e => notAfter (e ▸ mem')) fun e => notBetween (e ▸ mem)
  have silent : ∀ k ∈ last, ¬ fires (downSet s.keypad.positions)
      (fireChord j ((fireChord i (s.withChords c)).withChords c')) k := by
    intro k mem
    have mem' : k ∈ between ++ j :: last := List.mem_append_right _ (List.mem_cons_of_mem _ mem)
    have other : j ≠ k := fun e => notLast (e ▸ mem)
    have absent : k ∉ between := fun early => apart' k early k (List.mem_cons_of_mem _ mem) rfl
    rw [fires_fireChord other, fires_withChords (same' k absent), outside mem']
    exact alone k (fun e => notAfter (e ▸ mem')) (Ne.symm other)
  obtain ⟨c'', last_eq, -⟩ := foldl_chordStep_of_silent rest' silent
  exact ⟨c, c', c'', by rw [matchChords, spelled, folded, folded', last_eq]⟩

end Sys2Proof.Machine
end

section
/-! SUPPORT. Repeats, stuck keys and chords at a scan completion (R129, R130, R139 to R141, R83). -/

namespace Sys2Proof.Machine

/-! ### What a scan completion leaves alone -/

/-- What no scan completion changes. -/
structure ScanWork (s t : State) : Prop where
  pending : t.pending = s.pending
  resetting : t.resetting = s.resetting
  resetReply : t.resetReply = s.resetReply
  lastReset : t.lastReset = s.lastReset
  timeBase : t.timeBase = s.timeBase
  service : t.service = s.service
  meas : t.meas = s.meas
  zones : t.zones = s.zones
  settings : t.settings = s.settings
  store : t.store = s.store
  freeIndex : t.freeIndex = s.freeIndex

theorem ScanWork.trans {s t u : State} (first : ScanWork s t) (second : ScanWork t u) : ScanWork s u where
  pending := second.pending.trans first.pending
  resetting := second.resetting.trans first.resetting
  resetReply := second.resetReply.trans first.resetReply
  lastReset := second.lastReset.trans first.lastReset
  timeBase := second.timeBase.trans first.timeBase
  service := second.service.trans first.service
  meas := second.meas.trans first.meas
  zones := second.zones.trans first.zones
  settings := second.settings.trans first.settings
  store := second.store.trans first.store
  freeIndex := second.freeIndex.trans first.freeIndex

theorem ScanWork.only {s t : State} (h : ScanWork s t) :
    t = { s with
          keypad := t.keypad, chords := t.chords, queue := t.queue, causes := t.causes, host := t.host, log := t.log,
          seq := t.seq, ladder := t.ladder, thermal := t.thermal } := by
  obtain ⟨pending, resetting, resetReply, lastReset, timeBase, service, meas, zones, settings, store, freeIndex⟩ := h
  rw [← pending, ← resetting, ← resetReply, ← lastReset, ← timeBase, ← service, ← meas, ← zones, ← settings, ← store,
    ← freeIndex]

theorem KeyWork.scanWork {s t : State} (h : KeyWork s t) : ScanWork s t := by
  rw [h.only]
  constructor <;> rfl

theorem scanWork_repeatStep (s : State) : ScanWork s (repeatStep s) := by
  rw [repeatStep_only]
  constructor <;> rfl

theorem scanWork_fireChord (i : ChordIndex) (s : State) : ScanWork s (fireChord i s) := by
  unfold fireChord
  dsimp only
  split <;> constructor <;> simp [setChordState]

theorem scanWork_chordStep (d : BitVec 48) (s : State) (i : ChordIndex) : ScanWork s (chordStep d s i) := by
  by_cases fired : fires d s i
  · rw [chordStep_of_fires fired]
    exact scanWork_fireChord i s
  · rw [chordStep_of_not_fires fired]
    constructor <;> rfl

theorem scanWork_matchChords (s : State) : ScanWork s (matchChords s) :=
  foldl_rel (R := ScanWork) (fun _ => ⟨rfl, rfl, rfl, rfl, rfl, rfl, rfl, rfl, rfl, rfl, rfl⟩) ScanWork.trans
    (fun t i => scanWork_chordStep _ t i) _ s

/-- The state before the chord entries, which the first five steps of R127 leave. -/
theorem repeatStep_workedKeys (columns : Columns) (s : State) :
    repeatStep (workedKeys columns s) =
      { s with
        keypad := (repeatStep (workedKeys columns s)).keypad
        queue := (repeatStep (workedKeys columns s)).queue
        causes := (repeatStep (workedKeys columns s)).causes
        host := (repeatStep (workedKeys columns s)).host } := by
  obtain ⟨-, -, -, -, -, -, sampled⟩ := sampleLastRow_cycle columns s
  have worked := (keyWork_workedKeys columns s).only
  have step := repeatStep_only (workedKeys columns s)
  generalize repeatStep (workedKeys columns s) = t at step ⊢
  generalize workedKeys columns s = w at step worked
  generalize sampleLastRow columns s = u at sampled worked
  rw [step, worked, sampled]

theorem scanCompletion_only {columns : Columns} {s : State} (last : s.keypad.row = some 7) :
    ScanWork s (scanCompletion columns s) := by
  rw [scanCompletion_eq last]
  refine ScanWork.trans ?_ (scanWork_matchChords _)
  rw [repeatStep_workedKeys]
  constructor <;> rfl

/-- With no chord due, the chord entries' states alone follow the first five steps of R127. -/
theorem scanCompletion_of_noChord {columns : Columns} {s : State} (last : s.keypad.row = some 7) (noChord : NoChordDue s) :
    ∃ moved : Vector ChordState 4, scanCompletion columns s = (repeatStep (workedKeys columns s)).withChords moved := by
  rw [scanCompletion_eq last]
  refine matchChords_of_silent fun i => not_fires_of_noChordDue noChord ?_ _ i
  rw [repeatStep_workedKeys]

/-- A chord entry after a scan completion, by the key records as they then stand (R139, R140). -/
theorem scanCompletion_chord {columns : Columns} {s : State} (last : s.keypad.row = some 7) (i : ChordIndex) :
    (scanCompletion columns s).chords[i] =
      nextChord (chordMatches s.settings.chords[i] (downSet (scanCompletion columns s).keypad.positions))
        s.settings.chords[i].hold s.chords[i] := by
  have settings : (repeatStep (workedKeys columns s)).settings = s.settings := by rw [repeatStep_workedKeys]
  have chords : (repeatStep (workedKeys columns s)).chords = s.chords := by rw [repeatStep_workedKeys]
  rw [scanCompletion_eq last, matchChords_chord, matchChords_keypad, settings, chords]

/-! ### The repeat target and its timer (R129) -/

theorem scanCompletion_target {columns : Columns} {s : State} (last : s.keypad.row = some 7) :
    (scanCompletion columns s).keypad.target = (scanCompletion columns s).keypad.held.getLast? ∧
      (scanCompletion columns s).keypad.repeatTimer =
        if (scanCompletion columns s).keypad.target = s.keypad.target then
          if s.keypad.target.isSome && expired s.keypad.repeatTimer then startTimer s.settings.keypad.repeatInterval
          else s.keypad.repeatTimer
        else if (scanCompletion columns s).keypad.target.isSome then startTimer s.settings.keypad.repeatDelay
        else none := by
  have worked := keyWork_workedKeys columns s
  obtain ⟨-, -, target, timer, -⟩ := sampleLastRow_cycle columns s
  have kept := repeatedKeypad_keeps s.settings.keypad (workedKeys columns s).keypad
  obtain ⟨-, held', -, -, target'⟩ := kept
  rw [scanCompletion_keypad last]
  refine ⟨by rw [target', held'], ?_⟩
  rw [target', repeatedKeypad, worked.target, worked.repeatTimer, target, timer]

/-! ### Events at a quiet scan completion -/

theorem repeatEligible_iff (p : Position) (s : State) :
    repeatEligible p s = true ↔
      s.settings.keys[p].enabled = true ∧ s.settings.keys[p].repeats = true ∧ s.keypad.positions[p].suppressed = false := by
  rw [repeatEligible, Bool.and_eq_true, Bool.and_eq_true, Bool.not_eq_true', and_assoc]

theorem expired_runOut {t : Option Timer} (runs : t.isSome = true) : expired (runOut t) = true := by
  obtain ⟨timer, rfl⟩ := Option.isSome_iff_exists.1 runs
  rfl

/-- A repeat is handed over at a quiet scan completion when the target stands, its timer has run out, and it is eligible. -/
theorem scanCompletion_repeats {columns : Columns} {s : State} {p : Position} (quiet : Quiet columns s)
    (noChord : NoChordDue s) (running : ∀ q : Position, expired s.keypad.positions[q].hold = false)
    (tail : s.keypad.held.getLast? = some p) (target : s.keypad.target = some p)
    (out : expired s.keypad.repeatTimer = true) (eligible : repeatEligible p s = true) :
    (scanCompletion columns s).queue = storeEvent (.repeated p s.settings.keys[p].code) s.timeBase s.queue := by
  obtain ⟨moved, silent⟩ := scanCompletion_of_noChord quiet.1 noChord
  obtain ⟨-, -, held, settings⟩ := sampleLastRow_contents columns s
  obtain ⟨-, -, target', timer, -, queue, only⟩ := sampleLastRow_cycle columns s
  have timeBase : (sampleLastRow columns s).timeBase = s.timeBase := by rw [only]
  have eligible' : repeatEligible p (sampleLastRow columns s) = true := by
    rw [repeatEligible, settings, (sampleLastRow_position columns s p).2.1]
    exact eligible
  rw [silent, State.withChords_queue, workedKeys_of_running quiet running,
    repeatStep_of_repeat (by rw [held, tail]) (by rw [target', target]) (by rw [timer, out]) eligible', keyEvent_queue,
    State.withKeypad_timeBase, State.withKeypad_queue, settings, timeBase, queue]

/-- No event comes of a quiet scan completion at which nothing repeats. -/
theorem scanCompletion_silent {columns : Columns} {s : State} (quiet : Quiet columns s)
    (noChord : NoChordDue s) (running : ∀ q : Position, expired s.keypad.positions[q].hold = false)
    (silent : s.keypad.held.getLast? ≠ s.keypad.target ∨ expired s.keypad.repeatTimer = false ∨
      ∀ p, s.keypad.target = some p → repeatEligible p s = false) : (scanCompletion columns s).queue = s.queue := by
  obtain ⟨moved, standing⟩ := scanCompletion_of_noChord quiet.1 noChord
  obtain ⟨-, -, held, settings⟩ := sampleLastRow_contents columns s
  obtain ⟨-, -, target, timer, -, queue, -⟩ := sampleLastRow_cycle columns s
  rw [standing, State.withChords_queue, workedKeys_of_running quiet running, repeatStep_queue_of_none, queue]
  rw [held, target, timer]
  refine silent.imp_right (Or.imp_right fun ineligible p named => ?_)
  rw [repeatEligible, settings, (sampleLastRow_position columns s p).2.1]
  exact ineligible p named

theorem scanCompletion_held_of_quiet {columns : Columns} {s : State} (quiet : Quiet columns s) :
    (scanCompletion columns s).keypad.held = s.keypad.held := by
  obtain ⟨-, -, held, -⟩ := sampleLastRow_contents columns s
  rw [scanCompletion_keypad quiet.1, (repeatedKeypad_keeps _ _).2.1, workedKeys_of_quiet quiet, stickKeys, makeAllStuck_held,
    held]

theorem scanCompletion_suppressed_of_running {columns : Columns} {s : State} (quiet : Quiet columns s)
    (running : ∀ q : Position, expired s.keypad.positions[q].hold = false) (p : Position) :
    (scanCompletion columns s).keypad.positions[p].suppressed = s.keypad.positions[p].suppressed := by
  rw [scanCompletion_keypad quiet.1, (repeatedKeypad_keeps _ _).1, workedKeys_of_running quiet running]
  exact (sampleLastRow_position columns s p).2.1

/-- The repeat timer brought to its end, as KEY_REPEAT stands for it (log entry 4). -/
def repeatEnded (s : State) : State := s.withKeypad { s.keypad with repeatTimer := runOut s.keypad.repeatTimer }

theorem keyRepeat_of_repeated {columns : Columns} {p : Position} {s : State} (last : s.keypad.row = some 7)
    (target : s.keypad.target = some p) (runs : s.keypad.repeatTimer.isSome = true)
    (stays : (scanCompletion columns (repeatEnded s)).keypad.target = some p)
    (eligible : repeatEligible p (scanCompletion columns (repeatEnded s)) = true) :
    keyRepeat columns s = scanCompletion columns (repeatEnded s) := by
  unfold keyRepeat
  unfold repeatEnded at stays eligible ⊢
  dsimp only
  generalize scanCompletion columns (s.withKeypad { s.keypad with repeatTimer := runOut s.keypad.repeatTimer }) = t
    at stays eligible ⊢
  rw [target]
  exact if_pos (by rw [last, runs, stays, eligible]; simp)

/-! ### A key made stuck (R130) -/

/-- A list without duplicates whose one member is known. -/
theorem eq_singleton_of_nodup {α : Type} {xs : List α} {x : α} (distinct : xs.Nodup) (only : ∀ y, y ∈ xs ↔ y = x) :
    xs = [x] :=
  List.perm_singleton.1 ((List.perm_ext_iff_of_nodup distinct (List.nodup_singleton x)).2 fun y => by simp [only y])

theorem stickKeys_of_one {s : State} {p : Position} (due : stuckDue s.keypad.positions[p] = true)
    (alone : ∀ q : Position, q ≠ p → stuckDue s.keypad.positions[q] = false) : stickKeys s = makeStuck p s := by
  have one : (positionsWith fun p => stuckDue s.keypad.positions[p]) = [p] := by
    refine eq_singleton_of_nodup (positionsWith_nodup _) fun q => mem_positionsWith.trans ⟨fun h => ?_, fun h => h ▸ due⟩
    by_contra other
    rw [alone q other] at h
    cases h
  rw [stickKeys, one]
  rfl

theorem makeStuck_queue (p : Position) (s : State) :
    (makeStuck p s).queue =
      if s.settings.keys[p].enabled then storeEvent (.stuck p s.settings.keys[p].code) s.timeBase s.queue else s.queue := by
  unfold makeStuck
  dsimp only
  split
  · rw [keyEvent_queue]
    rfl
  · rfl

/-- The position's hold timer brought to its end, as KEY_STUCK stands for it (log entry 4). -/
def holdEnded (p : Position) (s : State) : State :=
  setPosition p { s.keypad.positions[p] with hold := runOut s.keypad.positions[p].hold } s

theorem holdEnded_position (p q : Position) (s : State) :
    (holdEnded p s).keypad.positions[q].raw = s.keypad.positions[q].raw ∧
      (holdEnded p s).keypad.positions[q].debounced = s.keypad.positions[q].debounced ∧
      (holdEnded p s).keypad.positions[q].count = s.keypad.positions[q].count ∧
      (holdEnded p s).keypad.positions[q].suppressed = s.keypad.positions[q].suppressed ∧
      (holdEnded p s).keypad.positions[q].hold =
        if p = q then runOut s.keypad.positions[p].hold else s.keypad.positions[q].hold := by
  have record : (holdEnded p s).keypad.positions[q] =
      if p = q then { s.keypad.positions[p] with hold := runOut s.keypad.positions[p].hold } else s.keypad.positions[q] :=
    put_getElem _ _ _ _
  rw [record]
  split
  next same => subst same; exact ⟨rfl, rfl, rfl, rfl, rfl⟩
  next => exact ⟨rfl, rfl, rfl, rfl, rfl⟩

theorem holdEnded_keeps (p : Position) (s : State) :
    (holdEnded p s).timeBase = s.timeBase ∧ (holdEnded p s).settings = s.settings ∧ (holdEnded p s).queue = s.queue ∧
      (holdEnded p s).keypad.held = s.keypad.held ∧ (holdEnded p s).keypad.target = s.keypad.target ∧
      (holdEnded p s).keypad.repeatTimer = s.keypad.repeatTimer :=
  ⟨rfl, rfl, rfl, rfl, rfl, rfl⟩

/-- The work of a quiet scan completion at which one hold timer ends: its key is made stuck. -/
theorem workedKeys_of_stuck {columns : Columns} {p : Position} {s : State} (quiet : Quiet columns (holdEnded p s))
    (down : s.keypad.positions[p].debounced = true) (free : s.keypad.positions[p].suppressed = false)
    (runs : s.keypad.positions[p].hold.isSome = true)
    (others : ∀ q : Position, q ≠ p → expired s.keypad.positions[q].hold = false) :
    workedKeys columns (holdEnded p s) = makeStuck p (sampleLastRow columns (holdEnded p s)) := by
  rw [workedKeys_of_quiet quiet]
  refine stickKeys_of_one ?_ fun q other => ?_
  · obtain ⟨debounced, suppressed, hold⟩ := sampleLastRow_position columns (holdEnded p s) p
    obtain ⟨-, debounced', -, suppressed', hold'⟩ := holdEnded_position p p s
    rw [if_pos rfl] at hold'
    rw [stuckDue, debounced, suppressed, hold, debounced', suppressed', hold', down, free, expired_runOut runs]
    rfl
  · obtain ⟨-, -, hold⟩ := sampleLastRow_position columns (holdEnded p s) q
    obtain ⟨-, -, -, -, hold'⟩ := holdEnded_position p q s
    rw [if_neg (Ne.symm other)] at hold'
    rw [stuckDue, hold, hold', others q other, Bool.and_false]

theorem keyStuck_of_stuck {columns : Columns} {p : Position} {s : State} (free : s.keypad.positions[p].suppressed = false)
    (stuck : (scanCompletion columns (holdEnded p s)).keypad.positions[p].suppressed = true) :
    keyStuck p columns s = scanCompletion columns (holdEnded p s) := by
  unfold keyStuck
  unfold holdEnded at stuck ⊢
  dsimp only at stuck ⊢
  rw [stuck]
  exact if_pos (by rw [free]; rfl)

/-! ### A chord fired -/

/-- The entry's hold timer brought to its end, as CHORD_FIRE stands for it (log entry 4). -/
def chordEnded (i : ChordIndex) (s : State) : State :=
  setChordState i { s.chords[i] with hold := runOut s.chords[i].hold } s

theorem chordFire_of_fired {columns : Columns} {i : ChordIndex} {s : State} (holding : s.chords[i].phase = .holding)
    (fired : (scanCompletion columns (chordEnded i s)).chords[i].phase = .fired) :
    chordFire i columns s = scanCompletion columns (chordEnded i s) := by
  unfold chordFire
  unfold chordEnded at fired ⊢
  dsimp only at fired ⊢
  rw [fired]
  exact if_pos (by rw [holding]; rfl)

theorem chordEnded_chord (i j : ChordIndex) (s : State) :
    (chordEnded i s).chords[j] = if i = j then { s.chords[i] with hold := runOut s.chords[i].hold } else s.chords[j] :=
  put_getElem _ _ _ _

/-- States that agree in what a chord that fires is about. -/
structure FiresAlike (s x : State) : Prop where
  seq : x.seq = s.seq
  ladder : x.ladder = s.ladder
  thermal : x.thermal = s.thermal
  log : x.log = s.log
  queue : x.queue = s.queue
  timeBase : x.timeBase = s.timeBase
  settings : x.settings = s.settings

/-- An entry that matches, HOLDING with its hold timer at its length, fires. -/
theorem fires_of_matches {s : State} {k : Keypad} {i : ChordIndex} (holding : s.chords[i].phase = .holding)
    (out : expired s.chords[i].hold = true) {positions : Vector KeyPosition 48}
    (matched : EntryMatches s.settings.chords[i] positions)
    (same : ∀ p : Position, k.positions[p].debounced = positions[p].debounced ∧
      k.positions[p].suppressed = positions[p].suppressed) :
    fires (downSet (s.withKeypad k).keypad.positions) (s.withKeypad k) i :=
  ⟨(chordMatches_iff _ _).2 (matched.of_same same), holding, out⟩

/-- CHORD_FIRE at a quiet scan completion: the entry fires in a state that differs in the scanner and the chords alone. -/
theorem chordFire_fires {columns : Columns} {i : ChordIndex} {s : State} (quiet : Quiet columns s)
    (running : ∀ q : Position, expired s.keypad.positions[q].hold = false)
    (standing : expired s.keypad.repeatTimer = false) (holding : s.chords[i].phase = .holding)
    (runs : s.chords[i].hold.isSome = true) (matched : EntryMatches s.settings.chords[i] s.keypad.positions)
    (others : ∀ j : ChordIndex, j ≠ i → s.chords[j].phase ≠ .holding ∨ expired s.chords[j].hold = false) :
    ∃ (x : State) (c : Vector ChordState 4), FiresAlike s x ∧ chordFire i columns s = (fireChord i x).withChords c ∧
      (chordFire i columns s).chords[i] = ⟨.fired, none⟩ := by
  have own := chordEnded_chord i i s
  rw [if_pos rfl] at own
  obtain ⟨k, completed, same⟩ := scanCompletion_of_standing (columns := columns) (s := chordEnded i s) quiet running standing
  have fired : fires (downSet ((chordEnded i s).withKeypad k).keypad.positions) ((chordEnded i s).withKeypad k) i :=
    fires_of_matches (by rw [own]; exact holding) (by rw [own]; exact expired_runOut runs) matched same
  have alone : ∀ j, j ≠ i → ¬ fires (downSet ((chordEnded i s).withKeypad k).keypad.positions)
      ((chordEnded i s).withKeypad k) j := by
    rintro j other ⟨-, holding', out⟩
    have entry := chordEnded_chord i j s
    rw [if_neg (Ne.symm other)] at entry
    change (chordEnded i s).chords[j].phase = .holding at holding'
    change expired (chordEnded i s).chords[j].hold = true at out
    rw [entry] at holding' out
    rcases others j other with idle | left
    · exact idle holding'
    · exact Bool.false_ne_true (left.symm.trans out)
  have chord : (scanCompletion columns (chordEnded i s)).chords[i] = ⟨.fired, none⟩ := by
    rw [completed, matchChords_chord]
    obtain ⟨matched', holding', out⟩ := fired
    rw [nextChord, if_pos matched', if_neg (by rw [holding']; decide), if_pos ⟨holding', out⟩]
  obtain ⟨c, c', one⟩ := matchChords_of_one fired alone
  have taken := chordFire_of_fired (columns := columns) holding (by rw [chord])
  refine ⟨((chordEnded i s).withKeypad k).withChords c, c', ⟨rfl, rfl, rfl, rfl, rfl, rfl, rfl⟩, ?_, ?_⟩
  · rw [taken, completed, one]
  · rw [taken, chord]

/-- KEY_REPEAT at a quiet scan completion: REPEAT is handed over, and the timer restarts with the interval (R129). -/
theorem keyRepeat_repeats {columns : Columns} {p : Position} {s : State} (quiet : Quiet columns s)
    (target : s.keypad.target = some p) (tail : s.keypad.held.getLast? = some p)
    (runs : s.keypad.repeatTimer.isSome = true) (eligible : repeatEligible p s = true)
    (running : ∀ q : Position, expired s.keypad.positions[q].hold = false) (noChord : NoChordDue s) :
    keyRepeat columns s = scanCompletion columns (repeatEnded s) ∧
      (scanCompletion columns (repeatEnded s)).keypad.repeatTimer = startTimer s.settings.keypad.repeatInterval ∧
      (scanCompletion columns (repeatEnded s)).keypad.target = some p ∧
      (scanCompletion columns (repeatEnded s)).keypad.held = s.keypad.held ∧
      (scanCompletion columns (repeatEnded s)).queue =
        storeEvent (.repeated p s.settings.keys[p].code) s.timeBase s.queue := by
  have quiet' : Quiet columns (repeatEnded s) := quiet.of_same rfl rfl fun _ => ⟨rfl, rfl, rfl⟩
  have out : expired (repeatEnded s).keypad.repeatTimer = true := expired_runOut runs
  have target'' : (repeatEnded s).keypad.target = some p := target
  have held := scanCompletion_held_of_quiet quiet'
  obtain ⟨target', timer⟩ := scanCompletion_target (columns := columns) quiet'.1
  have stays : (scanCompletion columns (repeatEnded s)).keypad.target = some p := by rw [target', held]; exact tail
  have eligible' : repeatEligible p (scanCompletion columns (repeatEnded s)) = true := by
    rw [repeatEligible, (scanCompletion_only (columns := columns) quiet'.1).settings,
      scanCompletion_suppressed_of_running quiet' running p]
    exact eligible
  refine ⟨keyRepeat_of_repeated quiet.1 target runs stays eligible', ?_, stays, held,
    scanCompletion_repeats quiet' noChord running tail target out eligible⟩
  rw [timer, stays, target'', if_pos rfl, out]
  rfl

/-- The key's record after it has been made stuck. -/
theorem stuck_record {columns : Columns} {p : Position} {s : State} (last : (holdEnded p s).keypad.row = some 7)
    (worked : workedKeys columns (holdEnded p s) = makeStuck p (sampleLastRow columns (holdEnded p s)))
    (down : s.keypad.positions[p].debounced = true) :
    (scanCompletion columns (holdEnded p s)).keypad.positions[p].suppressed = true ∧
      (scanCompletion columns (holdEnded p s)).keypad.positions[p].debounced = true ∧
      (scanCompletion columns (holdEnded p s)).keypad.positions[p].hold = none := by
  have debounced := (sampleLastRow_position columns (holdEnded p s) p).1
  rw [(holdEnded_position p p s).2.1, down] at debounced
  rw [scanCompletion_keypad last, (repeatedKeypad_keeps _ _).1, worked]
  generalize sampleLastRow columns (holdEnded p s) = u at debounced ⊢
  rw [makeStuck_keypad, put_getElem_self]
  exact ⟨rfl, debounced, rfl⟩

/-- A key made stuck hands STUCK over, and no repeat of it follows (R129, R130). -/
theorem stuck_queue {columns : Columns} {p : Position} {s : State} (last : (holdEnded p s).keypad.row = some 7)
    (worked : workedKeys columns (holdEnded p s) = makeStuck p (sampleLastRow columns (holdEnded p s)))
    (timer : expired s.keypad.repeatTimer = false ∨ s.keypad.target = some p) (noChord : NoChordDue (holdEnded p s)) :
    (scanCompletion columns (holdEnded p s)).queue =
      if s.settings.keys[p].enabled then storeEvent (.stuck p s.settings.keys[p].code) s.timeBase s.queue
      else s.queue := by
  obtain ⟨-, -, -, settings⟩ := sampleLastRow_contents columns (holdEnded p s)
  obtain ⟨-, -, target, timer', -, queue, only⟩ := sampleLastRow_cycle columns (holdEnded p s)
  obtain ⟨timeBase', settings', queue', -, target'', timer''⟩ := holdEnded_keeps p s
  have timeBase : (sampleLastRow columns (holdEnded p s)).timeBase = s.timeBase := by rw [only, timeBase']
  obtain ⟨moved, standing⟩ := scanCompletion_of_noChord (columns := columns) last noChord
  rw [standing, State.withChords_queue, worked]
  rw [target''] at target
  rw [timer''] at timer'
  rw [settings'] at settings
  rw [queue'] at queue
  generalize sampleLastRow columns (holdEnded p s) = u at settings target timer' queue timeBase ⊢
  rw [repeatStep_queue_of_none, makeStuck_queue, settings, timeBase, queue]
  refine Or.inr (timer.imp (fun running => ?_) fun named q stands => ?_)
  · rw [makeStuck_keypad, timer', running]
  · rw [makeStuck_keypad, target] at stands
    obtain rfl : p = q := Option.some.inj (named.symm.trans stands)
    refine Bool.eq_false_of_not_eq_true fun eligible => ?_
    obtain ⟨-, -, free⟩ := (repeatEligible_iff p _).1 eligible
    rw [makeStuck_keypad, put_getElem_self] at free
    cases free

/-- KEY_STUCK at a quiet scan completion: the key is suppressed, with STUCK for an enabled one (R130). -/
theorem keyStuck_sticks {columns : Columns} {p : Position} {s : State} (quiet : Quiet columns s)
    (down : s.keypad.positions[p].debounced = true) (free : s.keypad.positions[p].suppressed = false)
    (runs : s.keypad.positions[p].hold.isSome = true)
    (others : ∀ q : Position, q ≠ p → expired s.keypad.positions[q].hold = false)
    (timer : expired s.keypad.repeatTimer = false ∨ s.keypad.target = some p) (noChord : NoChordDue s) :
    ∃ t, keyStuck p columns s = t ∧ t.keypad.positions[p].suppressed = true ∧ t.keypad.positions[p].debounced = true ∧
      t.keypad.positions[p].hold = none ∧ t.keypad.held = s.keypad.held ∧
      t.queue =
        if s.settings.keys[p].enabled then storeEvent (.stuck p s.settings.keys[p].code) s.timeBase s.queue
        else s.queue := by
  have quiet' : Quiet columns (holdEnded p s) := quiet.of_same rfl rfl fun q => by
    obtain ⟨raw, debounced, count, -⟩ := holdEnded_position p q s
    exact ⟨raw, debounced, count⟩
  have worked := workedKeys_of_stuck quiet' down free runs others
  obtain ⟨suppressed, debounced, hold⟩ := stuck_record quiet'.1 worked down
  have held := scanCompletion_held_of_quiet quiet'
  rw [(holdEnded_keeps p s).2.2.2.1] at held
  exact ⟨_, keyStuck_of_stuck free suppressed, suppressed, debounced, hold, held,
    stuck_queue quiet'.1 worked timer noChord⟩

theorem fireChord_queue {i : ChordIndex} {s : State}
    (kept : s.thermal.startPermitted = false ∨ chordApplies s.settings.chords[i].action s.seq.state = false ∨
      (s.settings.chords[i].action ≠ .start ∧ s.settings.chords[i].action ≠ .release)) :
    (fireChord i s).queue = storeEvent (.chord i) s.timeBase s.queue := by
  obtain ⟨-, -, thermal, -, -, queue, -⟩ := chordRecorded_keeps i s
  rw [fireChord_eq]
  split
  next applied =>
    rw [applyChord_queue, queue]
    rw [thermal]
    exact kept.imp_right fun h => h.resolve_left fun refused => Bool.false_ne_true (refused.symm.trans applied)
  next => exact queue

/-- A chord whose action is not applied, or is EVENT, leaves the sequencer alone (R83, R141). -/
theorem fireChord_of_event {i : ChordIndex} {s : State}
    (event : chordApplies s.settings.chords[i].action s.seq.state = false ∨ s.settings.chords[i].action = .event) :
    fireChord i s = chordRecorded i s := by
  rcases event with refused | named
  · exact fireChord_of_refused refused
  · exact fireChord_of_applied named rfl

/-- The release of a lockout by a chord: the ladder returns to its start, and the computer is started (R83, R102). -/
theorem releaseLockedOut_contents {s : State} (lockedOut : s.seq.state = .lockedOut) :
    (releaseLockedOut 1 s).ladder = ⟨0, 0⟩ ∧
      (∃ r ∈ (releaseLockedOut 1 s).log.ring, r.seq = s.log.nextSeq ∧ r.kind = .lockoutReleased ∧ r.detail = 1 ∧
        r.state = .lockedOut ∧ r.rung = 0 ∧ r.failures = 0) ∧
      (releaseLockedOut 1 s).seq.state =
        if s.thermal.startPermitted then (if s.seq.hpg then .resetHold else .powering) else .warming := by
  have record := ((recent_appendLog .lockoutReleased 1 (ladderReset s)).enterWarming (by decide)).mem
  refine ⟨by simp [releaseLockedOut, ladderReset], ⟨_, record, rfl, rfl, rfl, lockedOut, rfl, rfl⟩, ?_⟩
  rw [releaseLockedOut, enterWarming_state, appendLog_thermal, appendLog_seq]
  rfl

/-- A recent record stays while a chord's own record is appended. -/
theorem Recent.chordRecorded {after : Nat} {r : LogRecord} {s : State} (h : Recent after r s.log) (few : after < 31)
    (i : ChordIndex) : Recent (after + 1) r (chordRecorded i s).log := by
  have log : (keyEvent (.chord i) (setChordState i ⟨.fired, none⟩ s)).log = s.log := by simp [setChordState]
  exact Recent.appendLog (s := keyEvent (.chord i) (setChordState i ⟨.fired, none⟩ s)) (log.symm ▸ h) few _ _

/-- Two entries with the action EVENT that fire leave their records and events, and nothing else, in index order. -/
theorem chordRecorded_twice {i j : ChordIndex} {x y : State} (first : FiresAlike (chordRecorded i x) y)
    (event : x.settings.chords[i].action = .event) (event' : x.settings.chords[j].action = .event) :
    (chordRecorded j y).seq = x.seq ∧
      (∃ r ∈ (chordRecorded j y).log.ring, r.seq = x.log.nextSeq ∧ r.kind = .chord ∧
        r.detail.toNat = i.val * 256 + 1) ∧
      (∃ r, (chordRecorded j y).log.ring.getLast? = some r ∧ r.seq = followingSeq x.log.nextSeq ∧ r.kind = .chord ∧
        r.detail.toNat = j.val * 256 + 1) ∧
      (chordRecorded j y).queue =
        storeEvent (.chord j) x.timeBase (storeEvent (.chord i) x.timeBase x.queue) := by
  obtain ⟨seq, -, -, settings, timeBase, queue, nextSeq⟩ := chordRecorded_keeps i x
  obtain ⟨seq', -, -, -, -, queue', -⟩ := chordRecorded_keeps j y
  obtain ⟨r, recent, -, number, kind, -, detail⟩ := chordRecorded_record i x
  obtain ⟨r', -, newest, number', kind', -, detail'⟩ := chordRecorded_record j y
  rw [event] at detail
  rw [first.settings, settings, event'] at detail'
  rw [first.log, nextSeq] at number'
  have earlier : Recent 0 r y.log := by rw [first.log]; exact recent
  refine ⟨seq'.trans (first.seq.trans seq), ⟨r, (earlier.chordRecorded (by decide) j).mem, number, kind, detail⟩,
    ⟨r', newest, number', kind', detail'⟩, ?_⟩
  rw [queue', first.queue, first.timeBase, queue, timeBase]

/-- Two entries that fire at a quiet scan completion. -/
theorem scanCompletion_of_two {columns : Columns} {i j : ChordIndex} {s : State} (quiet : Quiet columns s) (order : i < j)
    (running : ∀ q : Position, expired s.keypad.positions[q].hold = false)
    (standing : expired s.keypad.repeatTimer = false)
    (both : ∀ k : ChordIndex, k = i ∨ k = j →
      s.chords[k].phase = .holding ∧ expired s.chords[k].hold = true ∧ s.settings.chords[k].action = .event ∧
        EntryMatches s.settings.chords[k] s.keypad.positions)
    (others : ∀ k : ChordIndex, k ≠ i → k ≠ j → s.chords[k].phase ≠ .holding ∨ expired s.chords[k].hold = false) :
    ∃ (x y : State) (c : Vector ChordState 4), FiresAlike s x ∧ FiresAlike (chordRecorded i x) y ∧
      scanCompletion columns s = (chordRecorded j y).withChords c := by
  obtain ⟨k, completed, same⟩ := scanCompletion_of_standing quiet running standing
  obtain ⟨holding, out, event, matched⟩ := both i (.inl rfl)
  obtain ⟨holding', out', event', matched'⟩ := both j (.inr rfl)
  obtain ⟨c, c', c'', two⟩ := matchChords_of_two order (fires_of_matches holding out matched same)
    (fires_of_matches holding' out' matched' same) fun n other other' fired => by
      obtain ⟨-, holding, out⟩ := fired
      rcases others n other other' with idle | left
      · exact idle holding
      · exact Bool.false_ne_true (left.symm.trans out)
  have first : fireChord i ((s.withKeypad k).withChords c) = chordRecorded i ((s.withKeypad k).withChords c) :=
    fireChord_of_event (.inr event)
  have settings := (chordRecorded_keeps i ((s.withKeypad k).withChords c)).2.2.2.1
  have second : fireChord j ((chordRecorded i ((s.withKeypad k).withChords c)).withChords c') =
      chordRecorded j ((chordRecorded i ((s.withKeypad k).withChords c)).withChords c') := by
    refine fireChord_of_event (.inr ?_)
    rw [State.withChords_settings, settings]
    exact event'
  rw [first, second] at two
  exact ⟨(s.withKeypad k).withChords c, (chordRecorded i ((s.withKeypad k).withChords c)).withChords c', c'',
    ⟨rfl, rfl, rfl, rfl, rfl, rfl, rfl⟩, ⟨rfl, rfl, rfl, rfl, rfl, rfl, rfl⟩, completed.trans two⟩

/-- Settles O58. -/
theorem repeatStuckAndChordEvents : Obligations.RepeatStuckAndChordEvents := by
  unfold Obligations.RepeatStuckAndChordEvents
  refine ⟨chordMatches_iff, ?completed, ?quiet, ?repeated, ?stuck, ?fired, ?two⟩
  case completed =>
    intro columns s last
    obtain ⟨target, timer⟩ := scanCompletion_target (columns := columns) last
    refine ⟨scanCompletion columns s, rfl, fun i => ?chord, target, fun other absent => ?_, fun other present => ?_,
      fun same stands => ?_, fun same out present => ?_, (scanCompletion_only last).only, fun noChord => ?unchanged⟩
    case chord =>
      rw [scanCompletion_chord last]
      by_cases matched : EntryMatches s.settings.chords[i] (scanCompletion columns s).keypad.positions
      · rw [(chordMatches_iff _ _).2 matched, if_pos matched]
        generalize s.chords[i] = entry
        obtain ⟨phase, hold⟩ := entry
        cases phase
        case idle => rfl
        case holding => simp [nextChord]
        case fired => rfl
      · rw [Bool.eq_false_of_not_eq_true fun h => matched ((chordMatches_iff _ _).1 h), if_neg matched]
        generalize s.chords[i] = entry
        obtain ⟨phase, hold⟩ := entry
        cases phase <;> rfl
    case unchanged =>
      obtain ⟨moved, silent⟩ := scanCompletion_of_noChord (columns := columns) last noChord
      have only := repeatStep_workedKeys columns s
      generalize repeatStep (workedKeys columns s) = x at silent only
      rw [silent, only]
      exact ⟨rfl, rfl, rfl, rfl⟩
    · rw [timer, if_neg other, if_neg (by rw [absent]; decide)]
    · rw [timer, if_neg other, if_pos present]
      rfl
    · rw [timer, if_pos same, if_neg]
      rcases stands with running | absent
      · simp [running]
      · rw [← same, absent]
        simp
    · rw [timer, if_pos same, if_pos]
      · rfl
      · rw [← same, present, out]
        rfl
  case quiet =>
    intro columns s quiet noChord running
    refine ⟨scanCompletion columns s, rfl, scanCompletion_held_of_quiet quiet, fun silent => ?_, ?_⟩
    · refine scanCompletion_silent quiet noChord running (silent.imp_right (Or.imp_right fun ineligible p target => ?_))
      refine Bool.eq_false_of_not_eq_true fun eligible => ?_
      obtain ⟨enabled, repeats, free⟩ := (repeatEligible_iff p s).1 eligible
      rcases ineligible p target with h | h | h
      · exact Bool.false_ne_true (h.symm.trans enabled)
      · exact Bool.false_ne_true (h.symm.trans repeats)
      · exact Bool.false_ne_true (free.symm.trans h)
    · intro p tail target out enabled repeats free room
      rw [scanCompletion_repeats quiet noChord running tail target out ((repeatEligible_iff p s).2 ⟨enabled, repeats, free⟩),
        storeEvent_of_room room]
  case repeated =>
    intro columns p s quiet target tail runs enabled repeats free running noChord room
    obtain ⟨taken, timer, stays, held, queue⟩ :=
      keyRepeat_repeats quiet target tail runs ((repeatEligible_iff p s).2 ⟨enabled, repeats, free⟩) running noChord
    exact ⟨_, congrArg Host.Outcome.next taken, timer, stays, held, by rw [queue, storeEvent_of_room room]⟩
  case stuck =>
    intro columns p s quiet down free runs others timer noChord room
    obtain ⟨t, taken, suppressed, debounced, hold, held, queue⟩ := keyStuck_sticks quiet down free runs others timer noChord
    refine ⟨t, congrArg Host.Outcome.next taken, suppressed, debounced, hold, held, fun disabled => ?_, fun enabled => ?_⟩
    · rw [queue, if_neg fun enabled => Bool.false_ne_true (disabled.symm.trans enabled)]
    · rw [queue, if_pos enabled, storeEvent_of_room room]
  case fired =>
    intro columns i applied s quiet running standing holding runs matched others decides
    obtain ⟨x, c, alike, taken, chord⟩ := chordFire_fires quiet running standing holding runs matched others
    have decided : applied = chordApplies x.settings.chords[i].action x.seq.state := by
      rw [alike.settings, alike.seq, Bool.eq_iff_iff, decides]
      generalize s.settings.chords[i].action = action
      cases action <;> simp [chordApplies]
    obtain ⟨seq, ladder, thermal, settings, -, -, nextSeq⟩ := chordRecorded_keeps i x
    obtain ⟨r, mem, record⟩ := fireChord_record i x
    rw [← decided, alike.log, alike.seq] at record
    have restarted_ladder (action : RestartAction) (off : Nat) :
        (enterRestarting action off .chord (chordRecorded i x)).ladder = s.ladder := by
      rw [← alike.ladder, ← ladder]
      simp
    rw [taken] at chord
    refine ⟨_, congrArg Host.Outcome.next taken, chord, ⟨r, mem, record⟩, ?stored, ?unapplied, ?restartsCold, ?restartsWarm,
      ?released, ?started⟩
    case stored =>
      intro room kept
      rw [← alike.thermal, ← alike.settings, decided] at kept
      rw [← alike.queue, ← alike.timeBase, State.withChords_queue, fireChord_queue kept, storeEvent_of_room]
      rw [alike.queue]
      exact room
    case unapplied =>
      intro event
      rw [← alike.settings, decided] at event
      rw [fireChord_of_event event, ← alike.seq, ← alike.ladder, ← alike.thermal, ← alike.log]
      exact ⟨seq, ladder, thermal, nextSeq⟩
    all_goals
      intro named acted
      rw [acted, alike.settings, named] at decided
      have fired := fireChord_of_applied (i := i) (s := x) (by rw [alike.settings]; exact named) decided.symm
      rw [fired]
    case restartsCold =>
      obtain ⟨entered, r, newest, number, kind, detail, state, rung, failures⟩ :=
        enterRestarting_cold Config.chordOffInterval .chord (chordRecorded i x)
      rw [nextSeq, alike.log] at number
      rw [ladder, alike.ladder] at rung failures
      exact ⟨congrArg Sequencer.state entered, congrArg Sequencer.hpwrEn entered, congrArg Sequencer.restart entered,
        congrArg Sequencer.timers entered, restarted_ladder .cold Config.chordOffInterval, r, newest, number, kind, detail, state, rung,
        failures⟩
    case restartsWarm =>
      obtain ⟨entered, r, newest, number, kind, detail, state, rung, failures⟩ :=
        enterRestarting_warm 0 .chord (chordRecorded i x)
      rw [nextSeq, alike.log] at number
      rw [ladder, alike.ladder] at rung failures
      rw [settings, alike.settings] at entered
      exact ⟨congrArg Sequencer.state entered, congrArg Sequencer.hpwrEn entered, congrArg Sequencer.restart entered,
        congrArg Sequencer.timers entered, restarted_ladder .warm 0, r, newest, number, kind, detail, state, rung, failures⟩
    case released =>
      have lockedOut : (chordRecorded i x).seq.state = .lockedOut := by
        rw [seq]
        exact of_decide_eq_true decided.symm
      obtain ⟨start, record, state⟩ := releaseLockedOut_contents lockedOut
      rw [nextSeq, alike.log] at record
      rw [thermal, alike.thermal, seq, alike.seq] at state
      exact ⟨start, record, state⟩
    case started =>
      have entered := enterWarming_state (chordRecorded i x)
      rw [thermal, alike.thermal, seq, alike.seq] at entered
      refine ⟨?_, entered⟩
      have kept : (enterWarming (chordRecorded i x)).ladder = (chordRecorded i x).ladder := by simp
      exact kept.trans (ladder.trans alike.ladder)
  case two =>
    intro columns i j s quiet order running standing both others room
    obtain ⟨x, y, c, alike, first, completed⟩ := scanCompletion_of_two quiet order running standing both others
    obtain ⟨-, -, event, -⟩ := both i (.inl rfl)
    obtain ⟨-, -, event', -⟩ := both j (.inr rfl)
    obtain ⟨seq, record, record', queue⟩ := chordRecorded_twice first (by rw [alike.settings]; exact event)
      (by rw [alike.settings]; exact event')
    rw [alike.log] at record record'
    rw [alike.timeBase, alike.queue, storeEvent_of_room (q := s.queue) (by omega), storeEvent_of_room] at queue
    · refine ⟨_, congrArg Host.Outcome.next completed, seq.trans alike.seq, record, record', ?_⟩
      rw [State.withChords_queue, queue]
      simp
    · rw [List.length_append]
      change s.queue.entries.length + 1 < 64
      omega

end Sys2Proof.Machine
end
